-- ==== Sys2Proof/Word.lean ====
section
/-! DEFINITION. The plain data types of the part: bytes, words, samples, and tables of a fixed number of like records. -/

namespace Sys2Proof

/-- One byte of a message or of the configuration image (R178). -/
abbrev Byte := BitVec 8

/-- A 16-bit word: the block counter (R18) and the check of a message (R3). -/
abbrev Word16 := BitVec 16

/-- A converter sample or an output word: 24 bits, two's complement (R101). -/
abbrev Sample := BitVec 24

/-- A station number, 0 to 31 (00_scope 5.1). -/
abbrev Station := Fin 32

/-- A channel, counted from 0: channel c of the manual is `c - 1` here. -/
abbrev Chan := Fin 32

/-- A feed, A to F as 0 to 5. -/
abbrev Feed := Fin 6

/-- A link group: 0 means not linked, 1 to 15 are the groups (00_scope 5.1). -/
abbrev Group := Fin 16

/-- A table of exactly `n` records. -/
structure Tab (α : Type) (n : Nat) where
  list : List α
  len : list.length = n
deriving DecidableEq, Repr

namespace Tab

variable {α β : Type} {n : Nat}

/-- The record at an index. -/
def get (t : Tab α n) (i : Fin n) : α := t.list.get (i.cast t.len.symm)

/-- The table whose records are given by their index. -/
def gen (f : Fin n → α) : Tab α n := ⟨List.ofFn f, List.length_ofFn⟩

/-- The table with one record throughout. -/
def const (a : α) : Tab α n := ⟨List.replicate n a, List.length_replicate⟩

/-- Replace one record. -/
def set (t : Tab α n) (i : Fin n) (a : α) : Tab α n :=
  ⟨t.list.set i.val a, by rw [List.length_set]; exact t.len⟩

/-- Change one record. -/
def modify (t : Tab α n) (i : Fin n) (f : α → α) : Tab α n := t.set i (f (t.get i))

/-- Change every record. -/
def map (f : α → β) (t : Tab α n) : Tab β n :=
  ⟨t.list.map f, by rw [List.length_map]; exact t.len⟩

end Tab

end Sys2Proof
end

