-- ==== Sys2Proof/Syntax.lean ====
section
/-! DEFINITION. The commands: one constructor for each row of spec/opcode_table.json, with the row's operands. -/

namespace Sys2Proof

/-- The envelope fields that a heard message brings beside its kind (section 1.2): its source station, its target byte
(0 to 31, or 255 for ALL) and its request tag. -/
structure Envelope where
  source : Station
  target : Byte
  tag    : Byte
deriving DecidableEq, Repr

/-- Why a reception is discarded (R10). The first three are framing faults. -/
inductive ReceptionFault where
  | stopBit | earlyIdle | oversize | badCheck
deriving DecidableEq, Repr

/-- Codes that a preamp reads back otherwise than they were written (R88): a channel that is not listed reads back the
code written. -/
abbrev Readback := List (Chan × Byte)

/-- What the part reads at a block start: whether another station drives the mark line (R19), the current monitors in
steps of 0.125 mA (R140), and the readbacks of the gain codes written there (R88). -/
structure BlockInputs where
  markLine : Bool
  monitors : Tab Nat 32
  readback : Readback
deriving DecidableEq, Repr

/-- What a start reads: the strap pins (R173), the bytes of the serial memory (R174; none when it does not answer), and
the readbacks of the start writes (R98). -/
structure StartInputs where
  straps   : Station
  image    : List Byte
  readback : Readback
deriving DecidableEq, Repr

/-- The event that completes three bad marks (R26). -/
inductive BadMark where
  | mark (tick : Nat)
  | missing
deriving DecidableEq, Repr

/-- The commands. A message's body fields are the raw bytes of R179 and R180; a mark's operand is the tick of the running
block at which the mark line became active. -/
inductive Instr where
  | powerOn (i : StartInputs)
  | resetLine (i : StartInputs)
  | startUpEnd (mainGood auxGood : Bool) (lines : Tab Bool 6) (i : BlockInputs)
  | presence (e : Envelope)
  | invalidMessage (source : Station) (kind : Byte)
  | receptionDiscarded (cause : ReceptionFault)
  | claim (e : Envelope) (feed : Byte)
  | release (e : Envelope) (feed : Byte)
  | setDemand (e : Envelope) (feed first last flags gain : Byte)
  | clearDemand (e : Envelope) (feed first last : Byte)
  | lock (e : Envelope) (feed first last mode : Byte)
  | unlock (e : Envelope) (feed first last : Byte)
  | headroomReset (e : Envelope) (feed first last : Byte)
  | tone (e : Envelope) (feed first last state : Byte)
  | batchOpen (e : Envelope) (feed count : Byte)
  | batchEntry (e : Envelope) (feed chan flags gain : Byte)
  | batchCommit (e : Envelope)
  | batchCancel (e : Envelope)
  | boxReset (e : Envelope) (readback : Readback)
  | linkCandidate (e : Envelope) (group flags candidate locked backoff : Byte)
  | reply (e : Envelope)
  | channelState (e : Envelope)
  | boxState (e : Envelope)
  | transmissionAttempt
  | lostAttempt (bytesRead : List Byte)
  | transmissionFault
  | messageSent
  | blockStart (i : BlockInputs)
  | batchWrite
  | samplePeriod (frame : Tab Sample 32)
  | compensation (c : Chan)
  | retryWrite (c : Chan) (code : Byte)
  | windowClose
  | markEvent (tick : Nat)
  | enterLocked (tick : Nat)
  | enterHoldover (cause : BadMark)
  | missingMark
  | quietCountExpiry
  | markLineRelease
  | stationLoss (station : Station)
  | linkEntryExpiry (group : Group) (source : Station)
  | batchTimeout
  | settleEnd (c : Chan)
  | shortTrip (c : Chan)
  | shedLoad
  | bankChange
  | powerGoodChange (mainGood auxGood : Bool)
  | portLineChange (f : Feed) (up : Bool)
  | feedBlockSent (f : Feed)
  | pairIdle
  | resetLineHeld
deriving DecidableEq, Repr

end Sys2Proof
end

