-- ==== Sys2Proof/Config.lean ====
section
/-! DEFINITION. What one box fixes at a start (the configuration image in use, Chapter 12) and the one free value of the model. -/

namespace Sys2Proof

/-- Phantom priority of a channel (R45). -/
inductive Priority where
  | critical | high | low
deriving DecidableEq, Repr

/-- Guard mode of a channel (R45). -/
inductive Guard where
  | off | report | backoff
deriving DecidableEq, Repr

/-- The three configured fields of a channel record (R45). -/
structure ChanConfig where
  group    : Group
  priority : Priority
  guard    : Guard
deriving DecidableEq, Repr

/-- Whether the image or the defaults are in use (R174, R176). -/
inductive ConfigStatus where
  | image | defaults
deriving DecidableEq, Repr

/-- The configuration in use: the fields of R175, each already limited to its range. -/
structure Configuration where
  status         : ConfigStatus
  markLead       : Bool
  installed      : Tab Bool 6
  latency        : Nat          -- K, 0 to 47 samples
  stepCode       : Nat          -- 0 to 3: an interval of 1, 2, 4 or 8 blocks
  clipLevel      : Nat          -- 1 to 24 half-dB steps below full scale
  countCode      : Nat          -- 0 to 2: N of 1, 4 or 16
  allowance      : Nat          -- 4 to 15 mA
  shortThreshold : Nat          -- 12 to 25 mA
  budgets        : Tab Nat 4    -- mA, by bank
  chans          : Tab ChanConfig 32
deriving DecidableEq, Repr

/-- FREE VALUE (log entry 16). R157: the owner's loss and the block start's batch work may fall at one block start, and
either may be taken first. True: the loss is taken first. The argument is the model's counter `seed`. -/
opaque Config.lossFirst : Nat → Bool

end Sys2Proof
end

