-- ==== Sys2Proof/Machine/State.lean ====
section
/-! DEFINITION. The state of the part, block by block as the manual divides it (00_scope section 3), and its reset value.
Every gain is a count of half-dB steps (00_scope 5.2): A, targets, frozen gains and backoffs are even counts. -/

namespace Sys2Proof.Machine

/-! ## Why a step can stop -/

/-- The spec names no event that stops the part: no command raises a fault. -/
inductive Fault where
deriving DecidableEq, Repr

/-- Why a command has no meaning. -/
inductive Refusal where
  /-- Raised by an arm of `exec` whose command has no meaning yet (none is left). Safe. -/
  | notModelled (mnemonic : String)
deriving DecidableEq, Repr

/-! ## Report queue (Chapter 11) -/

/-- A report key (R162). -/
inductive Key where
  | reply (s : Station)
  | link (g : Group)
  | channel (c : Chan)
  | box
deriving DecidableEq, Repr

/-- The outcomes of R179, in the order of their codes. -/
inductive OutcomeCode where
  | done | notHolder | badRange | noFeed | feedTaken | locked | fixed | busy | notOwner | sequence | noBatch
  | shortBatch | timedOut
deriving DecidableEq, Repr

/-- What a reply slot holds (R164). -/
structure Answer where
  kind     : Byte
  code     : OutcomeCode
  resumed  : Bool
  takeover : Bool
  clamped  : Bool
  value    : Byte
  tag      : Byte
deriving DecidableEq, Repr

/-- The report queue (R162, R164, R166). Event bit i is bit i of R180. -/
structure Report where
  keys   : List Key
  slots  : Tab (Option Answer) 32
  events : Tab (BitVec 9) 32
deriving DecidableEq, Repr

/-! ## Link controller (Chapter 1) -/

/-- What a station is (section 1.5). -/
inductive Role where
  | box | desk
deriving DecidableEq, Repr

/-- An entry of the station table (section 1.5). -/
inductive Presence where
  | self
  | absent
  | present (role : Role) (age : Nat)
  | lost (role : Role)
deriving DecidableEq, Repr

/-- The content built at the start of an attempt (R163): the bytes that are sent, and the event bits and batch flags that
they carry. -/
structure Snapshot where
  key   : Key
  bytes : List Byte
  bits  : BitVec 9
  flags : BitVec 4
deriving DecidableEq, Repr

/-- An attempt in progress. `again`, `againFlags` and `newer` say what was set again, or placed anew in the reply slot,
since the snapshot (R163; log entry 24). -/
structure Sending where
  snap       : Snapshot
  again      : BitVec 9
  againFlags : BitVec 4
  newer      : Bool
deriving DecidableEq, Repr

/-- What the link controller is doing on the data pair (R1, R5 to R8, R10; log entry 20). -/
inductive Pair where
  /-- Takes no start bit as a message until it has seen idle: after start-up, a framing fault or a transmission fault. -/
  | waiting
  /-- The pair is idle. -/
  | idle
  /-- The last message ended normally, and the pair has not been idle since (R1). -/
  | ended
  /-- Receiving a message after a lost attempt; the receive check state holds the running check (R3). -/
  | receiving (check : Word16)
  /-- An attempt is in progress. -/
  | sending (x : Sending)
deriving DecidableEq, Repr

structure LinkController where
  pair     : Pair
  stations : Tab Presence 32
  clash    : Bool
  errors   : Byte
deriving DecidableEq, Repr

/-! ## Timing unit (Chapter 2) -/

inductive ClockState where
  | free | acquiring | locked | holdover
deriving DecidableEq, Repr

/-- The timing unit. `begun` counts the sample periods begun in the running block, so that the sample index is
`begun - 1`. `blockLen` is the length in force in the running block and `nextLen` that of the block that follows (R25).
`blockTicks` is how far the running block has come, in ticks; `driveLeft` how much is left of the part's own drive of
the mark line (R19). -/
structure Timing where
  clock      : ClockState
  counter    : Word16
  begun      : Nat
  blockLen   : Nat
  nextLen    : Nat
  blockTicks : Nat
  tickCount  : Nat
  lastOffset : Option Int
  lockCount  : Nat
  badCount   : Nat
  quietCount : Nat
  slip       : Bool
  driveLeft  : Option Nat
deriving DecidableEq, Repr

/-! ## Binding table (Chapter 3) -/

/-- The state of a feed record with its holder and bound-since, present exactly in BOUND and ORPHANED (R31). -/
inductive Binding where
  | absent
  | free
  | bound (holder : Station) (since : Word16)
  | orphaned (holder : Station) (since : Word16)
deriving DecidableEq, Repr

structure FeedRec where
  binding : Binding
  lineUp  : Bool
deriving DecidableEq, Repr

/-! ## Demand table (Chapter 4) -/

/-- A demand entry (R47). -/
structure Entry where
  gain    : Int
  mute    : Bool
  phantom : Bool
  clamped : Bool
  last    : Word16
deriving DecidableEq, Repr

/-- The entries of one channel, by feed letter (R47). -/
abbrev Entries := Tab (Option Entry) 6

/-- The running part of a channel record: its entries, their block-start view (R50) and the dirty mark (R46). The three
configured fields stand in the configuration in use. -/
structure DemandRec where
  entries : Entries
  view    : Entries
  dirty   : Bool
deriving DecidableEq, Repr

/-! ## Gain resolver (Chapters 5 and 8) -/

structure Trim where
  count : Int
  short : Bool
deriving DecidableEq, Repr

/-- A lock record (R116). -/
inductive Lock where
  | opened
  | held (f : Feed) (frozen : Int)
  | fixed (f : Feed) (frozen : Int)
deriving DecidableEq, Repr

/-- A resolution record (R64). -/
structure ResRec where
  target : Int
  beff   : Int
  trims  : Tab Trim 6
  lock   : Lock
deriving DecidableEq, Repr

/-- A link table entry (section 5.7). The locked value is present exactly when the locked flag is set. -/
structure LinkEntry where
  group     : Group
  source    : Station
  candidate : Option Int
  locked    : Option Int
  backoff   : Int
  age       : Nat
deriving DecidableEq, Repr

/-- An announce record (R80). -/
structure Announce where
  candidate : Option Int
  locked    : Option Int
  backoff   : Int
deriving DecidableEq, Repr

structure GainResolver where
  recs     : Tab ResRec 32
  table    : List LinkEntry
  full     : Bool
  announce : Tab Announce 16
deriving DecidableEq, Repr

/-! ## Step controller (Chapter 6) -/

/-- A pending step (R84, R89). `atIssue`: its issue sample, sample 0 of the issuing block, has not yet begun. -/
structure PendingStep where
  value     : Int
  countdown : Nat
  atIssue   : Bool
deriving DecidableEq, Repr

/-- The front-end state, with the retry age present in FAULT (R84). -/
inductive FrontEnd where
  | good
  | fault (retryAge : Nat)
deriving DecidableEq, Repr

/-- A step record (R84). `code` is the gain code last written to the preamp (R88). -/
structure StepRec where
  applied  : Int
  moving   : Bool
  pending  : Option PendingStep
  age      : Nat
  mismatch : Nat
  front    : FrontEnd
  code     : Int
deriving DecidableEq, Repr

/-! ## Feed processor (Chapter 7) -/

/-- The per-channel flags of a feed block header (R113). -/
structure ChanFlags where
  tone   : Bool
  settle : Bool
  muted  : Bool
  short  : Bool
deriving DecidableEq, Repr

/-- A feed block header (R112). -/
structure Header where
  source  : Station
  counter : Word16
  clock   : ClockState
  slip    : Bool
  count   : Nat
  flags   : Tab ChanFlags 32
deriving DecidableEq, Repr

structure FeedBlock where
  header : Header
  rows   : List (Tab Sample 32)
deriving DecidableEq, Repr

/-- One feed of the feed processor: its tone set (R111), the rows and flags of the block in progress (R112, R113), and its
port: the feed block being sent first, then those waiting in block order (R114). -/
structure FeedPath where
  tone  : Tab Bool 32
  rows  : List (Tab Sample 32)
  flags : Tab ChanFlags 32
  port  : List FeedBlock
deriving DecidableEq, Repr

/-! ## Headroom monitor (Chapter 8) -/

structure HeadRec where
  backoff  : Int
  window   : Nat
  episodes : Byte
deriving DecidableEq, Repr

structure Headroom where
  recs      : Tab HeadRec 32
  windowAge : Nat
deriving DecidableEq, Repr

/-! ## Phantom controller (Chapter 9) -/

/-- A phantom state (R133): `firstPass` is present in WAITING, the settle countdown `left` in RISING and FALLING. -/
inductive PhantomState where
  | off
  | waiting (firstPass : Bool)
  | rising (left : Nat)
  | on
  | falling (left : Nat)
  | shed
  | fault
deriving DecidableEq, Repr

/-- An off cause (R148). -/
inductive OffCause where
  | none | released | shedBudget | shedLoad | short | reset
deriving DecidableEq, Repr

/-- A phantom record (R133). The measured current is in steps of 0.125 mA. -/
structure PhantomRec where
  state   : PhantomState
  cause   : OffCause
  current : Nat
  persist : Nat
  shorts  : Byte
  sheds   : Byte
  denials : Byte
deriving DecidableEq, Repr

structure Phantom where
  recs      : Tab PhantomRec 32
  bank      : Fin 4
  lineQuiet : Nat
  overload  : Nat
  mainGood  : Bool
  auxGood   : Bool
deriving DecidableEq, Repr

/-! ## Batch buffer (Chapter 10) -/

/-- A mute or phantom field of a request: KEEP, ON or OFF (R179). -/
inductive Setting where
  | keep | on | off
deriving DecidableEq, Repr

structure BatchItem where
  chan : Chan
  gain : Option Int
  mute : Setting
deriving DecidableEq, Repr

/-- What a standing batch holds in LOADING and COMMITTING (R152). -/
structure BatchBody where
  owner : Station
  feed  : Feed
  count : Nat
  items : List BatchItem
  tag   : Byte
deriving DecidableEq, Repr

inductive BatchRecord where
  | idle
  | loading (b : BatchBody) (idleAge : Nat)
  | committing (b : BatchBody)
deriving DecidableEq, Repr

/-- The batch record and its flags: bit 0 COMMITTED, 1 BOTCHED, 2 TIMED OUT, 3 DISCARDED (R152, R180). -/
structure Batch where
  record : BatchRecord
  flags  : BitVec 4
deriving DecidableEq, Repr

/-! ## The whole part -/

/-- Whether the part is starting up, held by its reset input, or running (R172). -/
inductive Phase where
  | startUp | held | running
deriving DecidableEq, Repr

/-- A piece of the coming block start that a command took by itself (log entry 1). -/
inductive Ahead where
  /-- The channel entered FALLING there: its settle countdown does not advance at that block start. -/
  | settle (c : Chan)
  /-- The retry write was made there. -/
  | retry (c : Chan)
  /-- The window was closed with the block that ends. -/
  | window
  /-- The overload was judged there. -/
  | overload
  /-- The quiet count ended this clock state there: the block that ends is still one of that state (R29, R112). -/
  | quiet (ended : ClockState)
deriving DecidableEq, Repr

structure State where
  phase   : Phase
  own     : Station
  config  : Configuration
  link    : LinkController
  timing  : Timing
  feeds   : Tab FeedRec 6
  demand  : Tab DemandRec 32
  gain    : GainResolver
  steps   : Tab StepRec 32
  paths   : Tab FeedPath 6
  head    : Headroom
  phantom : Phantom
  batch   : Batch
  report  : Report
  ahead   : List Ahead
  seed    : Nat
  pending : List Instr
deriving DecidableEq, Repr

/-! ## The state after power-on -/

/-- The defaults of R176: taken when the image is set aside. -/
def defaultConfig : Configuration :=
  { status := .defaults, markLead := false, installed := Tab.const true, latency := 0, stepCode := 0, clipLevel := 2,
    countCode := 1, allowance := 10, shortThreshold := 14, budgets := ⟨[0, 160, 400, 400], rfl⟩,
    chans := Tab.const ⟨0, .high, .report⟩ }

/-- No feed has an entry. -/
def noEntries : Entries := Tab.const none

/-- The nominal block: 24,576 ticks (R17). -/
def nominal : Nat := 24576

/-- R15, R16, R9: the link controller after power-on. -/
def LinkController.start (own : Station) : LinkController :=
  { pair := .waiting, stations := Tab.gen (fun s => if s = own then .self else .absent), clash := false, errors := 0 }

/-- R30: the timing unit when block 0 begins, and during start-up. -/
def Timing.start : Timing :=
  { clock := .free, counter := 0, begun := 0, blockLen := nominal, nextLen := nominal, blockTicks := 0, tickCount := 0,
    lastOffset := none, lockCount := 0, badCount := 0, quietCount := 0, slip := false, driveLeft := none }

/-- R33: FREE where installed, else ABSENT; the port lines are read when start-up ends (DESIGN CHOICE DOWN until then,
log entry 5). -/
def feedsStart (installed : Tab Bool 6) : Tab FeedRec 6 :=
  installed.map (fun i => ⟨if i then .free else .absent, false⟩)

/-- R61. -/
def DemandRec.start : DemandRec := ⟨noEntries, noEntries, false⟩

/-- R82, R116. -/
def ResRec.start : ResRec := ⟨0, 0, Tab.const ⟨0, false⟩, .opened⟩

/-- R82. -/
def GainResolver.start : GainResolver := ⟨Tab.const ResRec.start, [], false, Tab.const ⟨none, none, 0⟩⟩

/-- R98, where the start write matched. -/
def StepRec.start : StepRec := ⟨0, false, none, 8, 0, .good, 0⟩

def noFlags : Tab ChanFlags 32 := Tab.const ⟨false, false, false, false⟩

/-- R111, R115. -/
def FeedPath.start : FeedPath := ⟨Tab.const false, [], noFlags, []⟩

/-- R125. -/
def Headroom.start : Headroom := ⟨Tab.const ⟨0, 0, 0⟩, 0⟩

/-- R149. -/
def PhantomRec.start : PhantomRec := ⟨.off, .none, 0, 0, 0, 0, 0⟩

/-- R149; the bank before start-up ends is a DESIGN CHOICE (log entry 5). -/
def Phantom.start (mainGood auxGood : Bool) : Phantom := ⟨Tab.const PhantomRec.start, 0, 20, 0, mainGood, auxGood⟩

/-- R170. -/
def Report.start : Report := ⟨[], Tab.const none, Tab.const 0⟩

/-- Every record as power-on sets it, for a station number and a configuration; the power-good pins are the outside's. -/
def State.start (phase : Phase) (own : Station) (cfg : Configuration) (mainGood auxGood : Bool) (seed : Nat)
    (pending : List Instr) : State :=
  { phase := phase, own := own, config := cfg, link := .start own, timing := .start,
    feeds := feedsStart cfg.installed, demand := Tab.const .start, gain := .start, steps := Tab.const .start,
    paths := Tab.const .start, head := .start, phantom := .start mainGood auxGood, batch := ⟨.idle, 0⟩,
    report := .start, ahead := [], seed := seed, pending := pending }

/-- Right after power-on: start-up is in progress (R172). Straps 0 and an unprogrammed memory are DESIGN CHOICE (log
entries 4 and 5). -/
def State.reset : State := .start .startUp 0 defaultConfig false false 0 []

end Sys2Proof.Machine
end

