-- ==== Sys2Proof/Machine/Tables.lean ====
section
/-! DEFINITION. The fixed tables of the part: trim coefficients (R105), tone samples (R109) and clip thresholds (R126), and
the check of a message (R3). Tests/Slice0.lean holds the first and the third against their definitions. -/

namespace Sys2Proof.Machine

/-- k(t) for t = -48 to 48: the integer nearest to 2^20 * 10^(t/40) (R105). -/
def coefficients : List Nat :=
  [66161, 70081, 74233, 78632, 83291, 88227, 93454, 98992, 104858, 111071, 117652, 124623, 132008, 139830, 148115,
   156892, 166188, 176035, 186466, 197515, 209218, 221615, 234747, 248657] ++
  [263390, 278997, 295529, 313040, 331589, 351237, 372049, 394094, 417446, 442181, 468382, 496135, 525533, 556673,
   589658, 624597, 661607, 700809, 742335, 786321, 832914, 882267, 934544, 989920] ++
  [1048576, 1110708, 1176522, 1246235, 1320079, 1398299, 1481153, 1568917, 1661881, 1760354, 1864661, 1975149,
   2092184, 2216154, 2347469, 2486566, 2633904, 2789972, 2955289, 3130401, 3315888, 3512367, 3720488, 3940941] ++
  [4174456, 4421808, 4683817, 4961351, 5255329, 5566727, 5896576, 6245970, 6616067, 7008094, 7423350, 7863211,
   8329135, 8822668, 9345443, 9899196, 10485760, 11107080, 11765216, 12462349, 13200790, 13982986, 14811530, 15689168]
   ++
  [16618810]

/-- The coefficient of a trim count (R105); a trim lies from -48 to 48 (R71). -/
def coefficient (t : Int) : Nat := coefficients.getD (t + 48).toNat 0

/-- The tone sample for n = 0 to 47: floor(1,056,063 * sin(2 pi n / 48) + 0.5) (R109). -/
def toneSamples : List Int :=
  [0, 137844, 273329, 404138, 528032, 642890, 746749, 837831, 914577, 975675, 1020079, 1047028, 1056063, 1047028,
   1020079, 975675, 914577, 837831, 746749, 642890, 528032, 404138, 273329, 137844] ++
  [0, -137844, -273329, -404138, -528031, -642890, -746749, -837831, -914577, -975675, -1020079, -1047028, -1056063,
   -1047028, -1020079, -975675, -914577, -837831, -746749, -642890, -528031, -404138, -273329, -137844]

/-- The tone sample of a sample index (R109). -/
def toneSample (n : Nat) : Sample := BitVec.ofInt 24 (toneSamples.getD n 0)

/-- floor(8,388,607 * 10^(x/20)) for x = -0.5 to -12.0 dBFS (R126). -/
def thresholds : List Nat :=
  [7919355, 7476353, 7058133, 6663307, 6290567, 5938678, 5606474, 5292853, 4996775, 4717260, 4453380, 4204262,
   3969079, 3747053, 3537446, 3339564, 3152752, 2976390, 2809893, 2652710, 2504320, 2364230, 2231977, 2107122]

/-- The magnitude threshold of a configuration (R126). -/
def clipThreshold (cfg : Configuration) : Nat := thresholds.getD (cfg.clipLevel - 1) 0

/-- The count rule N: 1, 4 or 16 for codes 0 to 2 (R175). -/
def countRule (cfg : Configuration) : Nat := 4 ^ cfg.countCode

/-- The step interval: 1, 2, 4 or 8 blocks for codes 0 to 3 (R175). -/
def stepInterval (cfg : Configuration) : Nat := 2 ^ cfg.stepCode

/-- The channels in channel order. -/
def channels : List Chan := List.finRange 32

/-- The feeds in feed letter order. -/
def allFeeds : List Feed := List.finRange 6

/-- The stations in number order. -/
def allStations : List Station := List.finRange 32

/-- The link groups 1 to 15, in order. -/
def linkGroups : List Group := (List.finRange 16).filter (fun g => g != 0)

/-- One bit into the running check (R3: x^16 + x^12 + x^5 + 1, most significant bit first). -/
def crcBit (check : Word16) (bit : Bool) : Word16 :=
  if check.msb = bit then check <<< 1 else (check <<< 1) ^^^ 0x1021

/-- One byte into the running check, most significant bit first (R3). -/
def crcByte (check : Word16) (b : Byte) : Word16 :=
  [7, 6, 5, 4, 3, 2, 1, 0].foldl (fun c i => crcBit c (b.getLsbD i)) check

/-- The check of a run of bytes: initial value all ones, result not inverted (R3). -/
def crc16 (bytes : List Byte) : Word16 := bytes.foldl crcByte 0xFFFF

/-- The two bytes of a 16-bit number, most significant first (R178). -/
def be16 (w : Word16) : List Byte := [w.extractLsb' 8 8, w.extractLsb' 0 8]

/-- The 16-bit number of two bytes, most significant first (R178). -/
def ofBe16 (hi lo : Byte) : Word16 := hi ++ lo

/-- A gain as one signed byte of half-dB steps (R178). -/
def gainByte (g : Int) : Byte := BitVec.ofInt 8 g

end Sys2Proof.Machine
end

