-- ==== Sys2Proof/Machine/Flags.lean ====
section
/-! DEFINITION. Event bits, batch flags and the lines and sums that follow from the records (R166, R169, R133). -/

namespace Sys2Proof.Machine

/-- The nine event bits of a channel (R166), in the order of R180. -/
inductive Event where
  | clip | backoff | guardLimit | lock | phantomChange | shed | denied | short | frontEndFault
deriving DecidableEq, Repr

/-- The place of an event bit (R180). -/
def Event.index : Event → Nat
  | .clip => 0
  | .backoff => 1
  | .guardLimit => 2
  | .lock => 3
  | .phantomChange => 4
  | .shed => 5
  | .denied => 6
  | .short => 7
  | .frontEndFault => 8

/-- An event bit as a mask. -/
def Event.mask (e : Event) : BitVec 9 := 1#9 <<< e.index

/-- The four batch flags (R152), in the order of R180. -/
inductive BatchFlag where
  | committed | botched | timedOut | discarded
deriving DecidableEq, Repr

/-- A batch flag as a mask. -/
def BatchFlag.mask : BatchFlag → BitVec 4
  | .committed => 1#4
  | .botched => 2#4
  | .timedOut => 4#4
  | .discarded => 8#4

/-- The phantom switch of a channel is on in RISING and ON (R133). -/
def PhantomState.powered : PhantomState → Bool
  | .rising _ => true
  | .on => true
  | _ => false

/-- A channel is on the settle list in RISING and FALLING (R103, R135). -/
def PhantomState.settling : PhantomState → Bool
  | .rising _ => true
  | .falling _ => true
  | _ => false

def PhantomState.isFault : PhantomState → Bool
  | .fault => true
  | _ => false

def FrontEnd.isFault : FrontEnd → Bool
  | .good => false
  | .fault _ => true

def Binding.isBound : Binding → Bool
  | .bound _ _ => true
  | _ => false

/-- The feed is installed (section 3.1). -/
def Binding.installed : Binding → Bool
  | .absent => false
  | _ => true

/-- The part is running: start-up has ended and the reset input is released (R172). -/
def State.running (s : State) : Bool := s.phase == .running

/-- The LOCK line: driven while the clock state is LOCKED, released in start-up (R169, R170). -/
def State.lockLine (s : State) : Bool := s.running && s.timing.clock == .locked

/-- The ALERT line (R169). -/
def State.alertLine (s : State) : Bool :=
  s.running && (s.link.clash || s.config.status == .defaults
    || channels.any (fun c => (s.phantom.recs.get c).state.isFault)
    || channels.any (fun c => (s.steps.get c).front.isFault))

/-- The ACTIVE line (R169). -/
def State.activeLine (s : State) : Bool := s.running && allFeeds.any (fun f => (s.feeds.get f).binding.isBound)

/-- The channels in RISING or ON. -/
def State.poweredChannels (s : State) : List Chan := channels.filter (fun c => (s.phantom.recs.get c).state.powered)

/-- The allocated load in mA: the allowance times the channels in RISING or ON (R133). -/
def State.load (s : State) : Nat := s.config.allowance * s.poweredChannels.length

/-- The budget of the bank in force, in mA (R137). -/
def State.budget (s : State) : Nat := s.config.budgets.get s.phantom.bank

/-- The measured total in steps of 0.125 mA (R133). -/
def State.measuredTotal (s : State) : Nat := (channels.map (fun c => (s.phantom.recs.get c).current)).sum

/-- The line index (R137). -/
def State.lineIndex (s : State) : Fin 4 :=
  match s.phantom.mainGood, s.phantom.auxGood with
  | false, false => 0
  | false, true => 1
  | true, false => 2
  | true, true => 3

/-- The sample index: the position of the sample now running in its block (R17). -/
def Timing.sampleIndex (t : Timing) : Nat := t.begun - 1

end Sys2Proof.Machine
end

