-- ==== Sys2Proof/Machine/Operands.lean ====
section
/-! DEFINITION. How the bytes of a request's body are read (R179, R180). -/

namespace Sys2Proof.Machine

/-- A feed byte of 0 to 5 names feed A to F; any other value names no feed (R179). -/
def feedOf (b : Byte) : Option Feed := if h : b.toNat < 6 then some ⟨b.toNat, h⟩ else none

/-- A channel byte carries the channel number, 1 to 32 (R179). -/
def chanOf (b : Byte) : Option Chan :=
  if h : 1 ≤ b.toNat ∧ b.toNat ≤ 32 then some ⟨b.toNat - 1, by omega⟩ else none

/-- The range check: 1 ≤ first ≤ last ≤ 32 (R53, R110, R117). -/
def rangeOk (first last : Byte) : Bool :=
  decide (1 ≤ first.toNat) && decide (first.toNat ≤ last.toNat) && decide (last.toNat ≤ 32)

/-- Whether a channel lies in the range first to last. -/
def inRange (first last : Byte) (c : Chan) : Bool :=
  decide (first.toNat ≤ c.val + 1) && decide (c.val + 1 ≤ last.toNat)

/-- The channels of a range, in channel order. -/
def rangeOf (first last : Byte) : List Chan := channels.filter (inRange first last)

/-- A two-bit code: 0 KEEP, 1 ON, 2 OFF; 3 is not a permitted value (R179). -/
def settingOf (code : BitVec 2) : Option Setting :=
  if code = 0 then some .keep else if code = 1 then some .on else if code = 2 then some .off else none

/-- The mute code: bits 3 and 2 of the demand flags byte (R179). -/
def muteOf (flags : Byte) : Option Setting := settingOf (flags.extractLsb' 2 2)

/-- The phantom code: bits 1 and 0 of the demand flags byte (R179). -/
def phantomOf (flags : Byte) : Option Setting := settingOf (flags.extractLsb' 0 2)

/-- The gain field, present when bit 7 of the flags is set, read as a signed count of half-dB steps (R179). -/
def gainOf (flags gain : Byte) : Option Int := if flags.getLsbD 7 then some gain.toInt else none

/-- What a setting makes of a flag: KEEP leaves it (R56). -/
def Setting.apply : Setting → Bool → Bool
  | .keep, b => b
  | .on, _ => true
  | .off, _ => false

/-- The group byte of a LINK CANDIDATE: 1 to 15 (R75). -/
def groupOf (b : Byte) : Option Group :=
  if h : 1 ≤ b.toNat ∧ b.toNat ≤ 15 then some ⟨b.toNat, by omega⟩ else none

/-- A candidate or locked value: a whole dB from 0 to 63 (R75, R180). -/
def wholeGain (b : Byte) : Bool := decide (0 ≤ b.toInt) && decide (b.toInt ≤ 126) && decide (b.toInt % 2 = 0)

/-- A backoff: 0, 3, 6, 9, 12, 15 or 18 dB (R75, R180). -/
def validBackoff (b : Byte) : Bool := decide (0 ≤ b.toInt) && decide (b.toInt ≤ 36) && decide (b.toInt % 6 = 0)

/-- What a preamp reads back for a code written: a channel that is not listed answers the code written (R88). -/
def readsBack (r : Readback) (c : Chan) (written : Int) : Int :=
  match r.find? (fun p => p.1 == c) with
  | some p => p.2.toNat
  | none => written

end Sys2Proof.Machine
end

