-- ==== Sys2Proof/Machine/Ops.lean ====
section
/-! DEFINITION. The shared operations: queueing keys, setting event bits and batch flags, placing an outcome (Chapter 11),
reading the configured fields, marking channels dirty (Chapter 4), moving a phantom state (Chapter 9), hearing a message
and the holder check (Chapters 1 and 3). -/

namespace Sys2Proof.Machine

/-! ## Reporting -/

/-- Ask for a key: appended when it is not in the list; otherwise nothing changes (R162). -/
def ask (k : Key) (s : State) : State :=
  { s with report.keys := if k ∈ s.report.keys then s.report.keys else s.report.keys ++ [k] }

/-- Note in an attempt that carries this channel's bits that some were set again since the snapshot (R163). -/
def noteAgain (c : Chan) (bits : BitVec 9) : Pair → Pair
  | .sending x => .sending (if x.snap.key = .channel c then { x with again := x.again ||| bits } else x)
  | p => p

/-- Note in an attempt that carries the batch flags that some were set again since the snapshot (R163). -/
def noteFlagsAgain (bits : BitVec 4) : Pair → Pair
  | .sending x => .sending (if x.snap.key = .box then { x with againFlags := x.againFlags ||| bits } else x)
  | p => p

/-- Note in an attempt that carries this station's outcome that the slot was written anew since the snapshot (R163). -/
def noteNewer (st : Station) : Pair → Pair
  | .sending x => .sending (if x.snap.key = .reply st then { x with newer := true } else x)
  | p => p

/-- Set an event bit of a channel and ask for its key, also when the bit is already set (R165, R166). -/
def setEvent (c : Chan) (e : Event) (s : State) : State :=
  ask (.channel c)
    { s with
      report.events := s.report.events.modify c (fun b => b ||| e.mask)
      link.pair := noteAgain c e.mask s.link.pair }

/-- Set a batch flag and ask for BOX (R161, R165). -/
def setFlag (f : BatchFlag) (s : State) : State :=
  ask .box
    { s with
      batch.flags := s.batch.flags ||| f.mask
      link.pair := noteFlagsAgain f.mask s.link.pair }

/-- Write an outcome into a station's reply slot and queue REPLY (R164). -/
def place (st : Station) (a : Answer) (s : State) : State :=
  ask (.reply st)
    { s with
      report.slots := s.report.slots.set st (some a)
      link.pair := noteNewer st s.link.pair }

/-- An outcome with no flag and value 0 (R179). -/
def plain (kind : Byte) (code : OutcomeCode) (tag : Byte) : Answer :=
  { kind := kind, code := code, resumed := false, takeover := false, clamped := false, value := 0, tag := tag }

/-- Give the requester of a request a plain outcome. -/
def answer (e : Envelope) (kind : Byte) (code : OutcomeCode) (s : State) : State :=
  place e.source (plain kind code e.tag) s

/-! ## Configured fields -/

/-- The link group of a channel (R45). -/
def State.group (s : State) (c : Chan) : Group := (s.config.chans.get c).group

/-- The channels of this box in a link group. -/
def State.members (s : State) (g : Group) : List Chan := channels.filter (fun c => s.group c == g)

/-- The group is used by this box (R64, R75). -/
def State.used (s : State) (g : Group) : Bool := g != 0 && channels.any (fun c => s.group c == g)

/-! ## Dirty marks -/

/-- Set the dirty mark of a channel (R46). -/
def markDirty (c : Chan) (s : State) : State :=
  { s with demand := s.demand.modify c (fun r => { r with dirty := true }) }

/-- Set the dirty mark of every channel of this box in one of the groups (R79). -/
def markGroups (gs : List Group) (s : State) : State :=
  { s with demand := Tab.gen (fun c =>
      if s.group c ∈ gs then { s.demand.get c with dirty := true } else s.demand.get c) }

/-! ## Settled analog gain -/

/-- The new value of a pending step, or A when none is pending (R84). -/
def StepRec.settled (r : StepRec) : Int :=
  match r.pending with
  | some p => p.value
  | none => r.applied

/-- The settled analog gain of a channel. -/
def State.settled (s : State) (c : Chan) : Int := (s.steps.get c).settled

/-! ## Phantom states -/

/-- Move a channel to a phantom state with an off cause: PHANTOM CHANGE is set (R134), and BOX is asked for when the
allocated load changes (R165). -/
def movePhantom (c : Chan) (st : PhantomState) (cause : OffCause) (s : State) : State :=
  let old := s.phantom.recs.get c
  let t := setEvent c .phantomChange
    { s with phantom.recs := s.phantom.recs.set c { old with state := st, cause := cause } }
  if old.state.powered = st.powered then t else ask .box t

/-- A channel is requested when one of its entries wants phantom (R51). -/
def wanted (es : Entries) : Bool := es.list.any (fun o => o.any (fun e => e.phantom))

/-- The channel becomes requested (R134). -/
def becomesRequested (c : Chan) (s : State) : State :=
  let r := s.phantom.recs.get c
  match r.state with
  | .off => movePhantom c (.waiting true) r.cause s
  | .waiting _ | .rising _ | .on | .falling _ | .shed | .fault => s

/-- The channel ceases to be requested (R134, R148). -/
def ceasesRequested (c : Chan) (s : State) : State :=
  let r := s.phantom.recs.get c
  match r.state with
  | .waiting _ => movePhantom c .off r.cause s
  | .shed => movePhantom c .off .released s
  | .rising _ => movePhantom c (.falling 250) .released s
  | .on => movePhantom c (.falling 250) .released s
  | .fault => movePhantom c .off .reset s
  | .falling _ | .off => s

/-- The demand table hands on a change of the requested condition (R51). -/
def handWant (c : Chan) (before after : Bool) (s : State) : State :=
  match before, after with
  | false, true => becomesRequested c s
  | true, false => ceasesRequested c s
  | _, _ => s

/-! ## Feed records -/

/-- Change feed records, and ask for BOX when one changes (R165). -/
def setFeeds (t : Tab FeedRec 6) (s : State) : State :=
  if t = s.feeds then s else ask .box { s with feeds := t }

/-- The feed is BOUND to the station (R38). -/
def holds (s : State) (f : Feed) (st : Station) : Bool :=
  match (s.feeds.get f).binding with
  | .bound h _ => h == st
  | _ => false

/-! ## Batch record -/

/-- Change the batch record, and ask for BOX (R161). -/
def setBatch (r : BatchRecord) (s : State) : State := ask .box { s with batch.record := r }

/-- The batch is dropped and a flag is set (R154, R155, R159, R160). -/
def dropBatch (f : BatchFlag) (s : State) : State := setFlag f (setBatch .idle s)

/-- The standing batch, if any. -/
def BatchRecord.body : BatchRecord → Option BatchBody
  | .idle => none
  | .loading b _ => some b
  | .committing b => some b

/-- Discard a standing batch that meets a condition (R160). -/
def discardBatch (p : BatchBody → Bool) (s : State) : State :=
  match s.batch.record.body with
  | some b => if p b then dropBatch .discarded s else s
  | none => s

/-! ## Hearing a message -/

/-- An arrival of a desk resumes every feed that stands ORPHANED with it as holder (R36, R42). -/
def resume (st : Station) (r : FeedRec) : FeedRec :=
  match r.binding with
  | .orphaned h since => if h = st then { r with binding := .bound h since } else r
  | _ => r

/-- The hearing is recorded in the source's entry; an arrival of a desk is given to the binding table (R13). -/
def recordHearing (st : Station) (role : Role) (s : State) : State :=
  let t := { s with link.stations := s.link.stations.set st (.present role 0) }
  match s.link.stations.get st, role with
  | .absent, .desk => setFeeds (t.feeds.map (resume st)) t
  | .lost _, .desk => setFeeds (t.feeds.map (resume st)) t
  | _, _ => t

/-- Whether a message on the pair can be heard: the part runs, and the pair has been idle since the last message (R1, R7,
R10), or the message is the one that the part lost its attempt to (R6). -/
def State.canHear (s : State) : Bool :=
  s.running && match s.link.pair with
    | .idle | .receiving _ => true
    | .waiting | .ended | .sending _ => false

/-- The message on the pair has ended normally. -/
def messageEnded (s : State) : State := { s with link.pair := .ended }

/-- The clash check: the source is the part's own number (R11, R16). -/
def enterClash (s : State) : State := { s with link.clash := true }

/-- A message with a good check is heard: clash check, station table, and then what follows from the kind (R11). -/
def hear (st : Station) (role : Role) (k : State → State) (s : State) : State :=
  if s.canHear then
    if st = s.own then enterClash (messageEnded s) else k (recordHearing st role (messageEnded s))
  else s

/-- The target is the part's own number or ALL (R12, R178). -/
def forUs (e : Envelope) (s : State) : Bool := e.target.toNat == s.own.val || e.target.toNat == 255

/-- A desk request is heard, and taken when its target is this box or ALL (R12). -/
def request (e : Envelope) (k : State → State) (s : State) : State :=
  hear e.source .desk (fun t => if forUs e t then k t else t) s

/-- The holder check (R38): the named feed is BOUND and its holder is the source; otherwise NOT HOLDER. -/
def withHolder (e : Envelope) (kind feed : Byte) (k : Feed → State → State) (s : State) : State :=
  match feedOf feed with
  | some f => if holds s f e.source then k f s else answer e kind .notHolder s
  | none => answer e kind .notHolder s

/-- Do something for each of a list, in order. -/
def forEach {α : Type} (l : List α) (f : α → State → State) (s : State) : State := l.foldl (fun t a => f a t) s

end Sys2Proof.Machine
end

