-- ==== Sys2Proof/Machine/Resolve.lean ====
section
/-! DEFINITION. The gain resolver: candidates, effective backoff, targets, trims, the link table and the announce records
(Chapter 5). -/

namespace Sys2Proof.Machine

/-! ## Candidates -/

/-- The requested gains of one channel's entries in the block-start view (R65). -/
def requestsOf (s : State) (c : Chan) : List Int :=
  (s.demand.get c).view.list.filterMap (fun o => o.map (fun e => e.gain))

/-- The request set of a link group in this box (R65). -/
def groupRequests (s : State) (g : Group) : List Int := (s.members g).flatMap (requestsOf s)

/-- The request set of a channel (R65). -/
def requestSet (s : State) (c : Chan) : List Int :=
  if s.group c = 0 then requestsOf s c else groupRequests s (s.group c)

/-- The least of a list. -/
def least : List Int → Option Int
  | [] => none
  | a :: l => some (l.foldl min a)

/-- The greatest of a list. -/
def greatest : List Int → Option Int
  | [] => none
  | a :: l => some (l.foldl max a)

/-- Round down to a whole dB: an even count, toward minus infinity (00_scope 5.2). -/
def wholeDown (n : Int) : Int := n / 2 * 2

/-- Round up to a whole dB: an even count, toward plus infinity. -/
def wholeUp (n : Int) : Int := (n + 1) / 2 * 2

/-- A0 from the least and the greatest request (R66, steps 3 and 4). -/
def chooseGain (lo hi : Int) : Int :=
  let a := max 0 (min 126 (wholeDown lo))
  if hi - a > 48 then wholeUp (hi - 48) else a

/-- The candidate of a request set (R66). -/
def candidate (l : List Int) : Option Int :=
  match least l, greatest l with
  | some lo, some hi => some (chooseGain lo hi)
  | _, _ => none

/-! ## Effective backoff, targets, trims -/

/-- The link table entries for a group: its fresh set (section 5.7). -/
def freshSet (s : State) (g : Group) : List LinkEntry := s.gain.table.filter (fun e => e.group == g)

/-- The own group backoff: the greatest B among this box's members (R80). -/
def groupBackoff (s : State) (g : Group) : Int :=
  ((s.members g).map (fun c => (s.head.recs.get c).backoff)).foldl max 0

/-- The effective backoff of a channel (R67). -/
def effectiveBackoff (s : State) (c : Chan) : Int :=
  if s.group c = 0 then (s.head.recs.get c).backoff
  else ((freshSet s (s.group c)).map (fun e => e.backoff)).foldl max (groupBackoff s (s.group c))

/-- The frozen gain of a lock record that is not OPEN (R116). -/
def Lock.frozen : Lock → Option Int
  | .opened => none
  | .held _ g => some g
  | .fixed _ g => some g

/-- The frozen gains of this box's locked members of a group (R69, R80). -/
def lockedMembers (s : State) (g : Group) : List Int :=
  (s.members g).filterMap (fun c => (s.gain.recs.get c).lock.frozen)

/-- Every locked value of a group: this box's and the link table's (R69, case 1). -/
def lockedValues (s : State) (g : Group) : List Int :=
  lockedMembers s g ++ (freshSet s g).filterMap (fun e => e.locked)

/-- Every candidate of a group: this box's own and the link table's (R69, case 2). -/
def groupCandidates (s : State) (g : Group) : List Int :=
  (candidate (groupRequests s g)).toList ++ (freshSet s g).filterMap (fun e => e.candidate)

/-- The target of an OPEN linked channel (R69). -/
def groupTarget (s : State) (c : Chan) (beff : Int) : Int :=
  match least (lockedValues s (s.group c)), least (groupCandidates s (s.group c)) with
  | some g, _ => g
  | none, some g => max 0 (g - beff)
  | none, none => s.settled c

/-- The target of an OPEN unlinked channel (R68). -/
def openTarget (s : State) (c : Chan) (beff : Int) : Int :=
  match candidate (requestsOf s c) with
  | some a => max 0 (a - beff)
  | none => s.settled c

/-- The target of a channel (R68, R69, R70). -/
def targetOf (s : State) (c : Chan) (beff : Int) : Int :=
  match (s.gain.recs.get c).lock.frozen with
  | some g => g
  | none => if s.group c = 0 then openTarget s c beff else groupTarget s c beff

/-- A value limited to the trim range, with the short flag (R71). -/
def limitTrim (n : Int) : Trim := ⟨max (-48) (min 48 n), decide (n < -48) || decide (48 < n)⟩

/-- The trim of a feed on a channel: R - B_eff - A, limited; 0.0 dB without an entry (R71). -/
def trimOf (beff a : Int) (o : Option Entry) : Trim :=
  match o with
  | some e => limitTrim (e.gain - beff - a)
  | none => ⟨0, false⟩

/-- The trims of every feed on a channel from its view (R71, R72). -/
def trimsOf (beff a : Int) (view : Entries) : Tab Trim 6 := view.map (trimOf beff a)

/-- The resolution of a channel (R73). -/
def resolved (s : State) (c : Chan) : ResRec :=
  let beff := effectiveBackoff s c
  { target := targetOf s c beff
    beff := beff
    trims := trimsOf beff (s.steps.get c).applied (s.demand.get c).view
    lock := (s.gain.recs.get c).lock }

/-- The channels that a block start resolves: the dirty ones, and those whose group has a dirty member (R73). -/
def toResolve (s : State) (c : Chan) : Bool :=
  if s.group c = 0 then (s.demand.get c).dirty
  else (s.members (s.group c)).any (fun d => (s.demand.get d).dirty)

/-! ## Announce records -/

/-- The announce record of a group, worked out afresh (R80). -/
def announceOf (s : State) (g : Group) : Announce :=
  { candidate := candidate (groupRequests s g)
    locked := least (lockedMembers s g)
    backoff := groupBackoff s g }

/-- Compare a group with its announce record; a difference is taken and LINK(g) asked for (R80). -/
def updateAnnounce (g : Group) (s : State) : State :=
  if announceOf s g = s.gain.announce.get g then s
  else ask (.link g) { s with gain.announce := s.gain.announce.set g (announceOf s g) }

/-! ## The resolution at a block start -/

/-- Write the records of the channels resolved and clear their dirty marks (R73). -/
def writeResolved (s : State) : State :=
  { s with
    gain.recs := Tab.gen (fun c => if toResolve s c then resolved s c else s.gain.recs.get c)
    demand := Tab.gen (fun c =>
      if toResolve s c then { s.demand.get c with dirty := false } else s.demand.get c) }

/-- The channels whose resolution changed what is reported (R74). -/
def changedBy (s t : State) (c : Chan) : Bool := s.gain.recs.get c != t.gain.recs.get c

/-- A group with a member among the channels resolved (R73). -/
def groupResolved (s : State) (g : Group) : Bool := (s.members g).any (toResolve s)

/-- The resolution of every dirty channel (R73, R74, R80). -/
def resolveAll (s : State) : State :=
  let t := writeResolved s
  let t := forEach (channels.filter (changedBy s t)) (fun c => ask (.channel c)) t
  forEach (linkGroups.filter (groupResolved s)) updateAnnounce t

/-! ## The link table -/

/-- LINK TABLE FULL is cleared when an entry is freed; BOX is asked for (R76, R165). -/
def freeRoom (s : State) : State :=
  if s.gain.full then ask .box { s with gain.full := false } else s

/-- Remove link table entries: their groups' members become dirty, and room is freed (R76 to R79). -/
def removeLinks (p : LinkEntry → Bool) (s : State) : State :=
  match s.gain.table.filter p with
  | [] => s
  | e :: gone =>
    freeRoom (markGroups ((e :: gone).map (fun x => x.group))
      { s with gain.table := s.gain.table.filter (fun x => !p x) })

/-- The ages advance and the entries that reach 50 are removed (R77). -/
def ageLinks (s : State) : State :=
  removeLinks (fun e => decide (50 ≤ e.age))
    { s with gain.table := s.gain.table.map (fun e => { e with age := e.age + 1 }) }

/-- Two entries speak for the same group and source (section 5.7). -/
def LinkEntry.sameAs (a b : LinkEntry) : Bool := a.group == b.group && a.source == b.source

/-- Two entries carry the same values (R79). -/
def LinkEntry.sameValues (a b : LinkEntry) : Bool :=
  a.candidate == b.candidate && a.locked == b.locked && a.backoff == b.backoff

/-- Store a checked announcement (R75, R76, R79). -/
def storeLink (e : LinkEntry) (s : State) : State :=
  match s.gain.table.find? (fun x => x.sameAs e) with
  | some old =>
    let t := { s with gain.table := s.gain.table.map (fun x => if x.sameAs e then e else x) }
    if old.sameValues e then t else markGroups [e.group] t
  | none =>
    if s.gain.table.length < 32 then markGroups [e.group] { s with gain.table := s.gain.table ++ [e] }
    else if s.gain.full then s else ask .box { s with gain.full := true }

/-- The values of a LINK CANDIDATE, when they pass the check of R75; a byte whose flag marks it absent is not checked
(R180). -/
def linkEntryOf (g : Group) (source : Station) (flags candidate locked backoff : Byte) : Option LinkEntry :=
  if (!flags.getLsbD 0 || wholeGain candidate) && (!flags.getLsbD 1 || wholeGain locked) && validBackoff backoff then
    some
      { group := g, source := source
        candidate := if flags.getLsbD 0 then some candidate.toInt else none
        locked := if flags.getLsbD 1 then some locked.toInt else none
        backoff := backoff.toInt, age := 0 }
  else none

/-- A LINK CANDIDATE taken (R75). -/
def takeLink (source : Station) (group flags candidate locked backoff : Byte) (s : State) : State :=
  match groupOf group with
  | some g =>
    if s.used g then
      match linkEntryOf g source flags candidate locked backoff with
      | some e => storeLink e s
      | none => s
    else s
  | none => s

end Sys2Proof.Machine
end

