-- ==== Sys2Proof/Machine/Hearing.lean ====
section
/-! DEFINITION. The messages that are heard and not handed to a desk request's owner: PRESENCE, invalid messages, LINK
CANDIDATE and the reports of other boxes (R11, R12). -/

namespace Sys2Proof.Machine

/-- The role that a kind gives its source: box for REPLY, LINK CANDIDATE, CHANNEL STATE and BOX STATE, desk for every
other kind, unknown ones too (R13). -/
def roleOf (kind : Byte) : Role :=
  if kind = 32 ∨ kind = 33 ∨ kind = 34 ∨ kind = 35 then .box else .desk

/-- The link error count advances (R9). -/
def countError (s : State) : State := { s with link.errors := s.link.errors + 1 }

/-- A message that is heard for presence only (R12). -/
def heardOnly (source : Station) (role : Role) (s : State) : State := hear source role id s

def execPresence (e : Envelope) (s : State) : Host.Outcome State Fault Refusal := .next (heardOnly e.source .desk s)
def execInvalidMessage (source : Station) (kind : Byte) (s : State) : Host.Outcome State Fault Refusal :=
  .next (hear source (roleOf kind) countError s)
def execLinkCandidate (e : Envelope) (group flags candidate locked backoff : Byte) (s : State) :
    Host.Outcome State Fault Refusal :=
  .next (hear e.source .box (takeLink e.source group flags candidate locked backoff) s)
def execReply (e : Envelope) (s : State) : Host.Outcome State Fault Refusal := .next (heardOnly e.source .box s)
def execChannelState (e : Envelope) (s : State) : Host.Outcome State Fault Refusal := .next (heardOnly e.source .box s)
def execBoxState (e : Envelope) (s : State) : Host.Outcome State Fault Refusal := .next (heardOnly e.source .box s)

end Sys2Proof.Machine
end

