-- ==== Sys2Proof/Machine/Demand.lean ====
section
/-! DEFINITION. The demand table: writing and removing entries (Chapter 4), and the batch buffer's notices (R155). -/

namespace Sys2Proof.Machine

/-- What a request writes to each channel of its range: the optional gain, the mute and the phantom field (section 4.4). -/
structure DemandWrite where
  gain    : Option Int
  mute    : Setting
  phantom : Setting
deriving DecidableEq, Repr

/-- The entry of a feed on a channel. -/
def State.entry (s : State) (c : Chan) (f : Feed) : Option Entry := (s.demand.get c).entries.get f

/-- A requested gain limited to -24.0 to +63.0 dB (R55). -/
def limitGain (g : Int) : Int := max (-48) (min 126 g)

/-- The entry that a write creates where the feed has none: at A + B_eff, so that its trim is 0 (R54). -/
def createdEntry (s : State) (c : Chan) : Entry :=
  let g := s.settled c + (s.gain.recs.get c).beff
  { gain := min 126 g, mute := false, phantom := false, clamped := decide (126 < g), last := s.timing.counter }

/-- The entry with its gain written (R55). -/
def writeGain (g : Option Int) (e : Entry) : Entry :=
  match g with
  | some n => { e with gain := limitGain n, clamped := decide (limitGain n ≠ n) }
  | none => e

/-- The entry of a feed on a channel after a write (R54 to R56); `blk` is its last-written block. -/
def writtenEntry (s : State) (f : Feed) (w : DemandWrite) (blk : Word16) (c : Chan) : Entry :=
  let e := writeGain w.gain ((s.entry c f).getD (createdEntry s c))
  { e with mute := w.mute.apply e.mute, phantom := w.phantom.apply e.phantom, last := blk }

/-- Replace the entry of a feed on a channel; the channel becomes dirty, CHANNEL(c) is asked for (R52), and a change of
the requested condition is handed to the phantom controller (R51). -/
def putEntry (f : Feed) (o : Option Entry) (c : Chan) (s : State) : State :=
  let r := s.demand.get c
  let es := r.entries.set f o
  handWant c (wanted r.entries) (wanted es)
    (ask (.channel c) { s with demand := s.demand.set c { r with entries := es, dirty := true } })

/-- Write one channel (R54 to R56). -/
def writeChannel (f : Feed) (w : DemandWrite) (blk : Word16) (c : Chan) (s : State) : State :=
  putEntry f (some (writtenEntry s f w blk c)) c s

/-- Remove the entry of a feed from a channel, where there is one (R58, R59). -/
def removeEntry (f : Feed) (c : Chan) (s : State) : State :=
  if (s.entry c f).isSome then putEntry f none c s else s

/-- The write to a channel ends with its clamped flag set by this request (R57). -/
def clampsAt (s : State) (f : Feed) (w : DemandWrite) (c : Chan) : Bool :=
  ((s.entry c f).isNone || w.gain.isSome) && (writtenEntry s f w s.timing.counter c).clamped

/-- The notice of a carried out demand request: it botches the batch that its source is loading on that feed (R155). -/
def noticeBatch (f : Feed) (st : Station) (s : State) : State :=
  match s.batch.record with
  | .loading b _ => if b.owner = st ∧ b.feed = f then dropBatch .botched s else s
  | .idle => s
  | .committing _ => s

/-- SET DEMAND from the holder, once its fields are read (R53 to R57). -/
def setDemandDone (e : Envelope) (f : Feed) (cs : List Chan) (w : DemandWrite) (s : State) : State :=
  noticeBatch f e.source
    (place e.source { plain 4 .done e.tag with clamped := cs.any (clampsAt s f w) }
      (forEach cs (writeChannel f w s.timing.counter) s))

/-- SET DEMAND taken (R53): the holder check, the range check, the field check, then the writes. -/
def takeSetDemand (e : Envelope) (feed first last flags gain : Byte) (s : State) : State :=
  withHolder e 4 feed (fun f t =>
    if rangeOk first last then
      match muteOf flags, phantomOf flags with
      | some m, some p => setDemandDone e f (rangeOf first last) ⟨gainOf flags gain, m, p⟩ t
      | _, _ => answer e 4 .badRange t
    else answer e 4 .badRange t) s

/-- CLEAR DEMAND taken (R58). -/
def takeClearDemand (e : Envelope) (feed first last : Byte) (s : State) : State :=
  withHolder e 5 feed (fun f t =>
    if rangeOk first last then
      noticeBatch f e.source (answer e 5 .done (forEach (rangeOf first last) (removeEntry f) t))
    else answer e 5 .badRange t) s

/-- The release of a feed removes all of its entries (R59). -/
def removeFeedEntries (f : Feed) (s : State) : State := forEach channels (removeEntry f) s

/-- The entries of every channel are presented as the block-start view (R50). -/
def presentView (s : State) : State :=
  { s with demand := s.demand.map (fun r => { r with view := r.entries }) }

def execSetDemand (e : Envelope) (feed first last flags gain : Byte) (s : State) : Host.Outcome State Fault Refusal :=
  .next (request e (takeSetDemand e feed first last flags gain) s)
def execClearDemand (e : Envelope) (feed first last : Byte) (s : State) : Host.Outcome State Fault Refusal :=
  .next (request e (takeClearDemand e feed first last) s)

end Sys2Proof.Machine
end

