-- ==== Sys2Proof/Machine/BatchBuf.lean ====
section
/-! DEFINITION. The batch buffer (Chapter 10). -/

namespace Sys2Proof.Machine

/-- BATCH OPEN from a holder with an acceptable count begins LOADING (R153). -/
def openBatch (e : Envelope) (f : Feed) (count : Byte) (s : State) : State :=
  answer e 10 .done
    (setBatch (.loading { owner := e.source, feed := f, count := count.toNat, items := [], tag := e.tag } 0) s)

/-- The state of the record decides a BATCH OPEN (R153). -/
def decideOpen (e : Envelope) (f : Feed) (count : Byte) (s : State) : State :=
  match s.batch.record with
  | .idle => openBatch e f count s
  | .loading b _ => if b.owner = e.source then openBatch e f count s else answer e 10 .busy s
  | .committing _ => answer e 10 .busy s

/-- BATCH OPEN taken (R153). -/
def takeOpen (e : Envelope) (feed count : Byte) (s : State) : State :=
  withHolder e 10 feed (fun f t =>
    if 1 ≤ count.toNat ∧ count.toNat ≤ 64 then decideOpen e f count t else answer e 10 .badRange t) s

/-- The item of an entry that fits the batch: a free place, the batch's feed, a channel and a permitted mute (R154). -/
def itemOf (b : BatchBody) (feed chan flags gain : Byte) : Option BatchItem :=
  if b.items.length < b.count ∧ feedOf feed = some b.feed then
    match chanOf chan, muteOf flags with
    | some c, some m => some ⟨c, gainOf flags gain, m⟩
    | _, _ => none
  else none

/-- A botching entry: the batch is dropped, BOTCHED is set, and the outcome is SEQUENCE (R154). -/
def botchEntry (e : Envelope) (s : State) : State := answer e 11 .sequence (dropBatch .botched s)

/-- BATCH ENTRY taken (R154). -/
def takeEntry (e : Envelope) (feed chan flags gain : Byte) (s : State) : State :=
  match s.batch.record with
  | .idle => answer e 11 .noBatch s
  | .loading b _ =>
    if b.owner = e.source then
      match itemOf b feed chan flags gain with
      | some i => { s with batch.record := .loading { b with items := b.items ++ [i] } 0 }
      | none => botchEntry e s
    else answer e 11 .notOwner s
  | .committing b => if b.owner = e.source then botchEntry e s else answer e 11 .notOwner s

/-- DONE with the count (R156, R179). -/
def commitDone (e : Envelope) (b : BatchBody) (s : State) : State :=
  place e.source { plain 12 .done e.tag with value := BitVec.ofNat 8 b.count } s

/-- BATCH COMMIT taken (R156). -/
def takeCommit (e : Envelope) (s : State) : State :=
  match s.batch.record with
  | .idle => answer e 12 .noBatch s
  | .loading b _ =>
    if b.owner = e.source then
      if b.items.length = b.count then commitDone e b (setBatch (.committing b) s)
      else answer e 12 .shortBatch (dropBatch .botched s)
    else answer e 12 .notOwner s
  | .committing b => if b.owner = e.source then commitDone e b s else answer e 12 .notOwner s

/-- BATCH CANCEL taken (R158). -/
def takeCancel (e : Envelope) (s : State) : State :=
  match s.batch.record.body with
  | none => answer e 13 .noBatch s
  | some b => if b.owner = e.source then answer e 13 .done (setBatch .idle s) else answer e 13 .notOwner s

/-- One item of the batch written to its feed; no phantom want (R60). -/
def writeItem (f : Feed) (blk : Word16) (i : BatchItem) (s : State) : State :=
  writeChannel f ⟨i.gain, i.mute, .keep⟩ blk i.chan s

/-- The committed batch is written, the record returns to IDLE and COMMITTED is set (R157). -/
def writeBatch (b : BatchBody) (blk : Word16) (s : State) : State :=
  dropBatch .committed (forEach b.items (writeItem b.feed blk) s)

/-- The idle age reached 100: the batch is dropped and TIMED OUT placed in the owner's slot (R159, R164). -/
def timeOut (b : BatchBody) (s : State) : State :=
  place b.owner (plain 10 .timedOut b.tag) (dropBatch .timedOut s)

/-- The batch buffer at a block start: a committed batch is written, a loading one ages (R157, R159). -/
def batchAtBlock (s : State) : State :=
  match s.batch.record with
  | .idle => s
  | .loading b age =>
    if age + 1 < 100 then { s with batch.record := .loading b (age + 1) } else timeOut b s
  | .committing b => writeBatch b s.timing.counter s

/-- BATCH_WRITE (R157): the committed batch is written at the block start that comes; its block is the one that begins
there (log entries 1, 18). -/
def batchWrite (s : State) : State :=
  if s.running then
    match s.batch.record with
    | .committing b => writeBatch b (s.timing.counter + 1) s
    | .idle => s
    | .loading _ _ => s
  else s

/-- BATCH_TIMEOUT (R159): the coming block start brings the idle age to 100 (log entry 1). -/
def batchTimeout (s : State) : State :=
  if s.running then
    match s.batch.record with
    | .loading b age => if age + 1 < 100 then s else timeOut b s
    | .idle => s
    | .committing _ => s
  else s

def execBatchOpen (e : Envelope) (feed count : Byte) (s : State) : Host.Outcome State Fault Refusal :=
  .next (request e (takeOpen e feed count) s)
def execBatchEntry (e : Envelope) (feed chan flags gain : Byte) (s : State) : Host.Outcome State Fault Refusal :=
  .next (request e (takeEntry e feed chan flags gain) s)
def execBatchCommit (e : Envelope) (s : State) : Host.Outcome State Fault Refusal := .next (request e (takeCommit e) s)
def execBatchCancel (e : Envelope) (s : State) : Host.Outcome State Fault Refusal := .next (request e (takeCancel e) s)
def execBatchWrite (s : State) : Host.Outcome State Fault Refusal := .next (batchWrite s)
def execBatchTimeout (s : State) : Host.Outcome State Fault Refusal := .next (batchTimeout s)

end Sys2Proof.Machine
end

