-- ==== Sys2Proof/Machine/Locks.lean ====
section
/-! DEFINITION. Channel locks and the headroom guard (Chapter 8). -/

namespace Sys2Proof.Machine

/-! ## Lock records -/

/-- Change a lock record: the channel becomes dirty, its LOCK bit is set and CHANNEL(c) asked for; a record left as it
stands does none of these (R116). -/
def setLock (c : Chan) (l : Lock) (s : State) : State :=
  if (s.gain.recs.get c).lock = l then s
  else setEvent c .lock
    (markDirty c { s with gain.recs := s.gain.recs.modify c (fun r => { r with lock := l }) })

/-- Whether a lock record refuses a LOCK or UNLOCK naming a feed, and how. `unlocking`: a FIXED record refuses whatever
feed fixed it (R118, R120). -/
def refusal (f : Feed) (unlocking : Bool) : Lock → Option OutcomeCode
  | .opened => none
  | .held g _ => if g = f then none else some .locked
  | .fixed g _ => if g = f ∧ !unlocking then none else some .fixed

/-- The channel pass: the first refused channel of a range, with its refusal (R117, R120). -/
def firstRefused (f : Feed) (unlocking : Bool) (s : State) : List Chan → Option (Chan × OutcomeCode)
  | [] => none
  | c :: cs =>
    match refusal f unlocking (s.gain.recs.get c).lock with
    | some code => some (c, code)
    | none => firstRefused f unlocking s cs

/-- What a LOCK makes of an accepted lock record (R118). -/
def lockedBy (f : Feed) (fix : Bool) (settled : Int) : Lock → Lock
  | .opened => if fix then .fixed f settled else .held f settled
  | .held g n => if fix then .fixed g n else .held g n
  | .fixed g n => .fixed g n

/-- The number of a channel as a value byte (R179). -/
def chanByte (c : Chan) : Byte := BitVec.ofNat 8 (c.val + 1)

/-- LOCK of one channel (R118). -/
def lockChannel (f : Feed) (fix : Bool) (c : Chan) (s : State) : State :=
  setLock c (lockedBy f fix (s.settled c) (s.gain.recs.get c).lock) s

/-- UNLOCK of one channel (R120). -/
def unlockChannel (c : Chan) (s : State) : State := setLock c .opened s

/-- The mode byte of a LOCK: 0 HOLD, 1 FIX (R179). -/
def fixOf (mode : Byte) : Option Bool := if mode = 0 then some false else if mode = 1 then some true else none

/-- A range decided whole: refused with the first channel in the way, or carried out (R117, R120). -/
def lockPass (e : Envelope) (kind : Byte) (f : Feed) (unlocking : Bool) (cs : List Chan) (k : Chan → State → State)
    (s : State) : State :=
  match firstRefused f unlocking s cs with
  | some (c, code) => place e.source { plain kind code e.tag with value := chanByte c } s
  | none => answer e kind .done (forEach cs k s)

/-- LOCK taken (R117). -/
def takeLock (e : Envelope) (feed first last mode : Byte) (s : State) : State :=
  withHolder e 6 feed (fun f t =>
    if rangeOk first last then
      match fixOf mode with
      | some fix => lockPass e 6 f false (rangeOf first last) (lockChannel f fix) t
      | none => answer e 6 .badRange t
    else answer e 6 .badRange t) s

/-- UNLOCK taken (R120). -/
def takeUnlock (e : Envelope) (feed first last : Byte) (s : State) : State :=
  withHolder e 7 feed (fun f t =>
    if rangeOk first last then lockPass e 7 f true (rangeOf first last) unlockChannel t
    else answer e 7 .badRange t) s

/-- Open a channel that is HELD by a feed that meets a condition (R122, R123). -/
def openHeld (p : Feed → Bool) (c : Chan) (s : State) : State :=
  match (s.gain.recs.get c).lock with
  | .held g _ => if p g then setLock c .opened s else s
  | .opened => s
  | .fixed _ _ => s

/-! ## Headroom monitor -/

/-- Replace the headroom record of a channel. -/
def putHead (c : Chan) (r : HeadRec) (s : State) : State := { s with head.recs := s.head.recs.set c r }

/-- HEADROOM RESET of one channel: its backoff returns to 0 and it becomes dirty (R130). -/
def clearBackoff (c : Chan) (s : State) : State :=
  markDirty c (putHead c { s.head.recs.get c with backoff := 0 } s)

/-- HEADROOM RESET taken (R130). -/
def takeHeadroomReset (e : Envelope) (feed first last : Byte) (s : State) : State :=
  withHolder e 8 feed (fun _ t =>
    if rangeOk first last then answer e 8 .done (forEach (rangeOf first last) clearBackoff t)
    else answer e 8 .badRange t) s

/-- Box reset: a backoff that was not 0 returns to 0 and makes its channel dirty; the window count returns to 0 (R131). -/
def resetHead (c : Chan) (s : State) : State :=
  let r := s.head.recs.get c
  let t := putHead c { r with backoff := 0, window := 0 } s
  if r.backoff = 0 then t else markDirty c t

/-- The magnitude of a converter sample (R126). -/
def magnitude (x : Sample) : Nat := x.toInt.natAbs

/-- A sample counts on a channel in REPORT or BACKOFF at or above the threshold (R126). -/
def clips (cfg : Configuration) (c : Chan) (x : Sample) : Bool :=
  (cfg.chans.get c).guard != .off && decide (clipThreshold cfg ≤ magnitude x)

/-- The converter frame as the headroom monitor counts it (R108, R126). -/
def countClips (frame : Tab Sample 32) (s : State) : State :=
  { s with head.recs := Tab.gen (fun c =>
      let r := s.head.recs.get c
      if clips s.config c (frame.get c) then { r with window := r.window + 1 } else r) }

/-- The action on a channel in guard mode BACKOFF (R128). -/
def raiseBackoff (c : Chan) (s : State) : State :=
  let r := s.head.recs.get c
  if (s.gain.recs.get c).lock = .opened ∧ r.backoff < 36 then
    markDirty c (setEvent c .backoff (putHead c { r with backoff := r.backoff + 6 } s))
  else setEvent c .guardLimit s

/-- A clip episode (R127). -/
def episode (c : Chan) (s : State) : State :=
  let r := s.head.recs.get c
  let t := setEvent c .clip (putHead c { r with episodes := r.episodes + 1 } s)
  if (s.config.chans.get c).guard = .backoff then raiseBackoff c t else t

/-- A channel judged against the count rule (R127). -/
def judgeWindow (c : Chan) (s : State) : State :=
  if countRule s.config ≤ (s.head.recs.get c).window then episode c s else s

/-- The close of a window (R127). -/
def closeWindow (s : State) : State :=
  let t := forEach channels judgeWindow s
  { t with
    head.recs := t.head.recs.map (fun r => { r with window := 0 })
    head.windowAge := 0 }

/-- A block's end: the window age advances, and the tenth closes the window (R127), unless WINDOW_CLOSE has. -/
def windowAtBlock (s : State) : State :=
  if Ahead.window ∈ s.ahead then s
  else if s.head.windowAge + 1 < 10 then { s with head.windowAge := s.head.windowAge + 1 }
  else closeWindow s

/-- WINDOW_CLOSE (R127): the block that runs is the tenth of its window (log entry 1). -/
def windowClose (s : State) : State :=
  if s.running && !decide (s.head.windowAge + 1 < 10) then closeWindow { s with ahead := .window :: s.ahead } else s

def execLock (e : Envelope) (feed first last mode : Byte) (s : State) : Host.Outcome State Fault Refusal :=
  .next (request e (takeLock e feed first last mode) s)
def execUnlock (e : Envelope) (feed first last : Byte) (s : State) : Host.Outcome State Fault Refusal :=
  .next (request e (takeUnlock e feed first last) s)
def execHeadroomReset (e : Envelope) (feed first last : Byte) (s : State) : Host.Outcome State Fault Refusal :=
  .next (request e (takeHeadroomReset e feed first last) s)
def execWindowClose (s : State) : Host.Outcome State Fault Refusal := .next (windowClose s)

end Sys2Proof.Machine
end

