-- ==== Sys2Proof/Machine/Marks.lean ====
section
/-! DEFINITION. The timing unit: ticks, marks, clock states and block lengths (Chapter 2), and the meanings of the mark
commands. -/

namespace Sys2Proof.Machine

/-- The tick count stops at 16,777,215 (R20). -/
def tickLimit : Nat := 16777215

/-- How many missing marks have fallen due by a tick count: at 36,864 and each further 24,576 (R21). -/
def missedBy (n : Nat) : Nat := if n < 36864 then 0 else (n - 36864) / 24576 + 1

/-- The clock state changes; BOX is asked for (R165). -/
def setClock (c : ClockState) (s : State) : State :=
  if s.timing.clock = c then s else ask .box { s with timing.clock := c }

/-- A bad mark in LOCKED; the third takes the part to HOLDOVER (R26). -/
def countBad (s : State) : State :=
  if s.timing.badCount + 1 < 3 then { s with timing.badCount := s.timing.badCount + 1 }
  else setClock .holdover { s with timing.badCount := 3 }

/-- A missing mark, by clock state (R22, R23, R26, R27). -/
def missMark (s : State) : State :=
  match s.timing.clock with
  | .acquiring => { s with timing.lockCount := 0 }
  | .locked => countBad s
  | .free => s
  | .holdover => s

/-- The number of missing marks that fall due while the tick count goes on by `d`: none before the first mark (R21). -/
def missesDue (d : Nat) (t : Timing) : Nat :=
  if t.lastOffset.isSome then missedBy (min (t.tickCount + d) tickLimit) - missedBy t.tickCount else 0

/-- The counts that go on with the reference, by `d` ticks (R19, R20). -/
def tickOn (d : Nat) (t : Timing) : Timing :=
  { t with
    tickCount := min (t.tickCount + d) tickLimit
    blockTicks := t.blockTicks + d
    driveLeft := t.driveLeft.bind (fun n => if d < n then some (n - d) else none) }

/-- `d` ticks pass, and the missing marks that fall due in the first `checked` of them are declared (R21). -/
def passTicks (d checked : Nat) (s : State) : State :=
  (missMark)^[missesDue checked s.timing] { s with timing := tickOn d s.timing }

/-- The block length set from a mark, limited to its range (R25). -/
def limitLength (n : Int) : Nat := (max 24552 (min 24600 n)).toNat

/-- The block that is running ends at the mark, as a short block with SLIP; the next is of nominal length (R24). The
block start itself follows as its own command (log entry 9). -/
def realign (s : State) : State := { s with timing.slip := true, timing.nextLen := nominal }

/-- The block length from a good mark: of the running block too when the mark came after its boundary (R25). -/
def setLength (len : Nat) (after : Bool) (s : State) : State :=
  if after then { s with timing.blockLen := len, timing.nextLen := len } else { s with timing.nextLen := len }

/-- A mark is well placed within one sample of the local boundary (R21). -/
def wellPlaced (e : Int) : Bool := decide (-512 ≤ e) && decide (e ≤ 512)

/-- An interval is in window within 25 ticks of 24,576 (R21). -/
def inWindow (m : Nat) : Bool := decide (24551 ≤ m) && decide (m ≤ 24601)

/-- Enter ACQUIRING at a mark with the lock count at 0 and the nominal rate; a misplaced mark realigns (R22, R24, R27). -/
def enterAcquiring (e : Int) (s : State) : State :=
  let t := setClock .acquiring
    { s with timing.lockCount := 0, timing.blockLen := nominal, timing.nextLen := nominal }
  if wellPlaced e then t else realign t

/-- The sixteenth in-window interval: LOCKED, with that mark the first for the block length; a misplaced one realigns
and counts as offset 0 (R23, R25). -/
def lockOn (m : Nat) (e : Int) (after : Bool) (s : State) : State :=
  let t := setClock .locked { s with timing.lockCount := 16, timing.badCount := 0 }
  if wellPlaced e then setLength (limitLength (m + e)) after t
  else { realign t with timing.nextLen := limitLength m }

/-- A mark in ACQUIRING (R23). An absent interval is neither in nor out of window (R21). -/
def markAcquiring (m : Option Nat) (e : Int) (after : Bool) (s : State) : State :=
  match m with
  | some n =>
    if inWindow n then
      if s.timing.lockCount + 1 < 16 then
        let t := { s with timing.lockCount := s.timing.lockCount + 1 }
        if wellPlaced e then t else realign t
      else lockOn n e after s
    else
      let t := { s with timing.lockCount := 0 }
      if wellPlaced e then t else realign t
  | none => if wellPlaced e then s else realign s

/-- A mark in LOCKED: good, or bad (R25, R26). -/
def markLocked (m : Option Nat) (e : Int) (after : Bool) (s : State) : State :=
  match m with
  | some n =>
    if inWindow n && wellPlaced e then
      setLength (limitLength (n + e)) after { s with timing.badCount := 0 }
    else countBad s
  | none => if wellPlaced e then s else countBad s

/-- A mark in HOLDOVER (R27). -/
def markHoldover (m : Option Nat) (e : Int) (s : State) : State :=
  match m with
  | some n => if inWindow n then enterAcquiring e s else s
  | none => s

/-- The interval M: absent at the first mark event (R20). -/
def Timing.interval (t : Timing) : Option Nat := if t.lastOffset.isSome then some t.tickCount else none

/-- A mark event with offset `e`: measured, then taken under the clock state (R20 to R27). `after`: it came after the
boundary nearest to it. -/
def takeMark (e : Int) (after : Bool) (s : State) : State :=
  let m := s.timing.interval
  let t := { s with timing.tickCount := 0, timing.quietCount := 0, timing.lastOffset := some e }
  match s.timing.clock with
  | .free => enterAcquiring e t
  | .acquiring => markAcquiring m e after t
  | .locked => markLocked m e after t
  | .holdover => markHoldover m e t

/-- A tick of the block lies nearest its start, not its end. -/
def nearStart (tick len : Nat) : Bool := decide (2 * tick < len)

/-- The offset of a mark at a tick of a block of a given length, limited to its range (R20; log entry 11). -/
def offsetOf (tick len : Nat) : Int :=
  max (-12288) (min 12287 (if nearStart tick len then (tick : Int) else (tick : Int) - len))

/-- The part is still driving the mark line `d` ticks on (R19): the line is active, so there is no activation. -/
def drivingAfter (d : Nat) (t : Timing) : Bool :=
  match t.driveLeft with
  | some n => decide (d < n)
  | none => false

/-- An activation of the mark line at a tick of the running block (R2, R20). -/
def markAt (tick : Nat) (s : State) : State :=
  let d := tick - s.timing.blockTicks
  if drivingAfter d s.timing then s
  else takeMark (offsetOf tick s.timing.blockLen) (nearStart tick s.timing.blockLen) (passTicks d (d - 1) s)

/-- At a block start, with mark lead and the line not already active, the part drives the line; that activation is a
mark event on its own boundary (R19, R20; log entry 10). -/
def driveMark (lineActive : Bool) (s : State) : State :=
  if s.config.markLead && !lineActive && !s.timing.driveLeft.isSome then
    takeMark 0 true { s with timing.driveLeft := some 2048 }
  else s

/-- Return to FREE at the nominal rate (R23, R27). The lock count is 0 in FREE: R27 does not say so of a return from
HOLDOVER (DESIGN CHOICE, log entry 34). -/
def toFree (s : State) : State :=
  setClock .free { s with timing.lockCount := 0, timing.blockLen := nominal, timing.nextLen := nominal }

/-- ACQUIRING or HOLDOVER: the states that a quiet count of 1,000 ends (R23, R27). -/
def quietEnds : ClockState → Bool
  | .acquiring | .holdover => true
  | .free | .locked => false

/-- The next tick count at which a missing mark falls due (R21). -/
def nextMiss (t : Timing) : Nat := 36864 + 24576 * missedBy t.tickCount

/-- Run something only while the part runs (R172). -/
def whileRunning (f : State → State) (s : State) : State := if s.running then f s else s

/-! ## The commands -/

/-- MARK_EVENT (R20). -/
def markEvent (tick : Nat) (s : State) : State := whileRunning (markAt tick) s

/-- ENTER_LOCKED (R23): the mark at this tick, when it is the one that completes the lock count (log entries 1, 2). -/
def enterLockedAt (tick : Nat) (s : State) : State :=
  let t := markEvent tick s
  if s.timing.clock = .acquiring ∧ t.timing.clock = .locked then t else s

/-- A missing mark falls due in the running block (R21; log entry 29). -/
def missInBlock (t : Timing) : Bool :=
  t.lastOffset.isSome && decide (nextMiss t ≤ tickLimit)
    && decide (nextMiss t - t.tickCount ≤ t.blockLen - t.blockTicks)

/-- MISSING_MARK (R21): the ticks pass up to the count at which the mark is declared missing. -/
def declareMissing (s : State) : State :=
  whileRunning (fun t =>
    if missInBlock t.timing then
      passTicks (nextMiss t.timing - t.timing.tickCount) (nextMiss t.timing - t.timing.tickCount) t
    else t) s

/-- ENTER_HOLDOVER (R26): the bad mark that is the third (log entries 1, 2). -/
def enterHoldoverBy (cause : BadMark) (s : State) : State :=
  let t := match cause with
    | .mark tick => markEvent tick s
    | .missing => declareMissing s
  if s.timing.clock = .locked ∧ t.timing.clock = .holdover then t else s

/-- QUIET_COUNT_EXPIRY (R23, R27): the coming block start brings the quiet count to 1,000 (log entry 1). The clock state
that ends there is noted for the header of the block that ends (R29). -/
def expireQuiet (s : State) : State :=
  whileRunning (fun t =>
    if quietEnds t.timing.clock ∧ 999 ≤ t.timing.quietCount then
      toFree { t with ahead := .quiet t.timing.clock :: t.ahead }
    else t) s

/-- MARK_LINE_RELEASE (R19): the 2,048 ticks of the part's drive have passed. -/
def releaseMark (s : State) : State :=
  whileRunning (fun t =>
    match t.timing.driveLeft with
    | some n => passTicks n n t
    | none => t) s

def execMarkEvent (tick : Nat) (s : State) : Host.Outcome State Fault Refusal := .next (markEvent tick s)
def execEnterLocked (tick : Nat) (s : State) : Host.Outcome State Fault Refusal := .next (enterLockedAt tick s)
def execEnterHoldover (cause : BadMark) (s : State) : Host.Outcome State Fault Refusal :=
  .next (enterHoldoverBy cause s)
def execMissingMark (s : State) : Host.Outcome State Fault Refusal := .next (declareMissing s)
def execQuietCountExpiry (s : State) : Host.Outcome State Fault Refusal := .next (expireQuiet s)
def execMarkLineRelease (s : State) : Host.Outcome State Fault Refusal := .next (releaseMark s)

end Sys2Proof.Machine
end

