-- ==== Sys2Proof/Machine/Steps.lean ====
section
/-! DEFINITION. The step controller: step exchanges, compensation, mismatch, fault and retry (Chapter 6). -/

namespace Sys2Proof.Machine

/-- Replace a step record. (A record that stays as it is leaves the table as it is: the same table, sooner evaluated.) -/
def putStep (c : Chan) (r : StepRec) (s : State) : State :=
  if s.steps.get c = r then s else { s with steps := s.steps.set c r }

/-- Replace a step record, and ask for CHANNEL(c) when A, the move state or the front-end state changed (R85, R100). -/
def changeStep (c : Chan) (r : StepRec) (s : State) : State :=
  let old := s.steps.get c
  let t := putStep c r s
  if old.applied = r.applied ∧ old.moving = r.moving ∧ old.front.isFault = r.front.isFault then t
  else ask (.channel c) t

/-- The gain code of a gain: code n sets the preamp to n dB (R88). -/
def codeOf (gain : Int) : Int := gain / 2

/-- The exchange matches when the code read back equals the code written (R88). -/
def readMatches (rb : Readback) (c : Chan) (gain : Int) : Bool := readsBack rb c (codeOf gain) == codeOf gain

/-- Enter FAULT: the mismatch count and the retry age are 0, the channel is IDLE, and the event bit is set (R95). -/
def enterFault (c : Chan) (r : StepRec) (s : State) : State :=
  setEvent c .frontEndFault
    (changeStep c { r with moving := false, mismatch := 0, front := .fault 0 } s)

/-- An exchange that mismatches: the first only counts (R94), the second is a fault (R95). -/
def mismatched (c : Chan) (r : StepRec) (s : State) : State :=
  if r.mismatch = 0 then changeStep c { r with mismatch := 1 } s else enterFault c r s

/-- The gain one step from A toward the target (R87). -/
def stepToward (a target : Int) : Int := if a < target then a + 2 else a - 2

/-- A step exchange on a channel whose record is `r` (R88). -/
def stepExchange (rb : Readback) (c : Chan) (target : Int) (r : StepRec) (s : State) : State :=
  let g := stepToward r.applied target
  let w := { r with code := codeOf g }
  if readMatches rb c g then
    changeStep c
      { w with pending := some ⟨g, s.config.latency, true⟩, age := 0, mismatch := 0, moving := true } s
  else mismatched c w s

/-- A restore write of the code for A (R94). -/
def restoreWrite (rb : Readback) (c : Chan) (r : StepRec) (s : State) : State :=
  let w := { r with code := codeOf r.applied }
  if readMatches rb c r.applied then changeStep c { w with mismatch := 0 } s else mismatched c w s

/-- The decision on a GOOD channel whose step age and move state are already those of this block start (R87, R94). -/
def decideStep (rb : Readback) (c : Chan) (target : Int) (r : StepRec) (s : State) : State :=
  if r.pending.isSome then changeStep c r s
  else if r.mismatch = 0 then
    if r.applied = target ∨ r.age < stepInterval s.config then changeStep c r s
    else stepExchange rb c target r s
  else if r.applied = target then restoreWrite rb c r s
  else stepExchange rb c target r s

/-- The retry write of R97: the code for A, written and read back. -/
def retryExchange (rb : Readback) (c : Chan) (r : StepRec) (s : State) : State :=
  let w := { r with code := codeOf r.applied }
  if readMatches rb c r.applied then changeStep c { w with front := .good, mismatch := 0 } s
  else changeStep c { w with front := .fault 0 } s

/-- The step controller at a block start, on one channel (R85 to R88, R94 to R97). -/
def stepAtBlock (rb : Readback) (c : Chan) (s : State) : State :=
  let old := s.steps.get c
  let target := (s.gain.recs.get c).target
  let r := { old with age := min 8 (old.age + 1) }
  if Ahead.retry c ∈ s.ahead then putStep c r s
  else match r.front with
    | .good =>
      decideStep rb c target { r with moving := decide (r.applied ≠ target) || r.pending.isSome } s
    | .fault n =>
      if n + 1 < 100 then putStep c { r with front := .fault (n + 1) } s
      else retryExchange rb c r s

/-- The step controller at a block start. -/
def stepAll (rb : Readback) (s : State) : State := forEach channels (stepAtBlock rb) s

/-! ## Compensation -/

/-- Write the trims of a channel (R72, R90). -/
def putTrims (c : Chan) (t : Tab Trim 6) (s : State) : State :=
  { s with gain.recs := s.gain.recs.modify c (fun r => { r with trims := t }) }

/-- The compensation of a pending step: A takes its value, and the trims are recomputed from the view in force and the
B_eff held (R90). -/
def compensate (c : Chan) (s : State) : State :=
  let r := s.steps.get c
  match r.pending with
  | some p =>
    ask (.channel c)
      (putTrims c (trimsOf (s.gain.recs.get c).beff p.value (s.demand.get c).view)
        (putStep c { r with applied := p.value, pending := none } s))
  | none => s

/-- What the countdown of a pending step is at the start of the coming sample period (R89). -/
def PendingStep.coming (p : PendingStep) : Nat := if p.atIssue then p.countdown else p.countdown - 1

/-- The start of a sample period for the pending step of a channel: the countdown falls, except at the issue sample, and
at 0 the step is compensated (R89, R90). -/
def countDown (c : Chan) (s : State) : State :=
  let r := s.steps.get c
  match r.pending with
  | some p =>
    if p.coming = 0 then compensate c s
    else putStep c { r with pending := some { p with countdown := p.coming, atIssue := false } } s
  | none => s

/-- The running block is over: its 48th sample period has begun, or a mark has realigned it (R17, R24). -/
def Timing.blockOver (t : Timing) : Bool := t.slip || decide (48 ≤ t.begun)

/-- COMPENSATION (R90): the countdown of the channel's step reaches 0 at the coming sample period (log entry 1). -/
def compensation (c : Chan) (s : State) : State :=
  if s.running && !s.timing.blockOver then
    match (s.steps.get c).pending with
    | some p => if p.coming = 0 then compensate c s else s
    | none => s
  else s

/-- RETRY_WRITE (R97): the coming block start brings the retry age of the channel to 100 (log entry 1). -/
def retryWrite (c : Chan) (code : Byte) (s : State) : State :=
  if s.running then
    match (s.steps.get c).front with
    | .fault n =>
      if n + 1 < 100 then s
      else retryExchange [(c, code)] c (s.steps.get c) { s with ahead := .retry c :: s.ahead }
    | .good => s
  else s

/-- The box reset retry of a channel in FAULT (R99). -/
def boxResetRetry (rb : Readback) (c : Chan) (s : State) : State :=
  let r := s.steps.get c
  match r.front with
  | .fault _ =>
    let w := { r with code := codeOf r.applied, front := .good }
    if readMatches rb c r.applied then changeStep c w s
    else setEvent c .frontEndFault (putStep c { w with front := .fault 0 } s)
  | .good => s

def execCompensation (c : Chan) (s : State) : Host.Outcome State Fault Refusal := .next (compensation c s)
def execRetryWrite (c : Chan) (code : Byte) (s : State) : Host.Outcome State Fault Refusal := .next (retryWrite c code s)

end Sys2Proof.Machine
end

