-- ==== Sys2Proof/Machine/FeedPath.lean ====
section
/-! DEFINITION. The feed sample path: tone sets, rows, feed blocks and ports (Chapter 7). -/

namespace Sys2Proof.Machine

/-! ## Tone sets -/

/-- Change the path of one feed. -/
def modPath (f : Feed) (g : FeedPath → FeedPath) (s : State) : State := { s with paths := s.paths.modify f g }

/-- Add the channels of a range to a tone set, or remove them (R110). -/
def setTone (first last : Byte) (on : Bool) (p : FeedPath) : FeedPath :=
  { p with tone := Tab.gen (fun c => if inRange first last c then on else p.tone.get c) }

/-- Empty a tone set (R111). -/
def emptyTone (p : FeedPath) : FeedPath := { p with tone := Tab.const false }

/-- The state byte of a TONE: 0 OFF, 1 ON (R179). -/
def toneOf (state : Byte) : Option Bool := if state = 0 then some false else if state = 1 then some true else none

/-- TONE taken (R110). -/
def takeTone (e : Envelope) (feed first last state : Byte) (s : State) : State :=
  withHolder e 9 feed (fun f t =>
    if rangeOk first last then
      match toneOf state with
      | some on => answer e 9 .done (modPath f (setTone first last on) t)
      | none => answer e 9 .badRange t
    else answer e 9 .badRange t) s

/-! ## Rows -/

/-- The trimmed sample: scaled, rounded half upward, and limited (R106). -/
def trimmed (x : Sample) (t : Int) : Sample :=
  BitVec.ofInt 24 (max (-8388608) (min 8388607 ((x.toInt * coefficient t + 524288) / 1048576)))

/-- What decides a word (R102). -/
inductive Decider where
  | tone | settle | muted | trim
deriving DecidableEq, Repr

/-- The feed has an entry on the channel in the view, and its mute is on (R104). -/
def viewMuted (s : State) (f : Feed) (c : Chan) : Bool := ((s.demand.get c).view.get f).any (fun e => e.mute)

/-- The first of the four conditions that holds (R102). -/
def deciderOf (s : State) (f : Feed) (c : Chan) : Decider :=
  if (s.paths.get f).tone.get c then .tone
  else if (s.phantom.recs.get c).state.settling then .settle
  else if viewMuted s f c then .muted
  else .trim

/-- The trim in force for a feed on a channel (R107). -/
def trimInForce (s : State) (f : Feed) (c : Chan) : Trim := (s.gain.recs.get c).trims.get f

/-- The output word of a row for a feed and a channel (R102). -/
def wordOf (s : State) (f : Feed) (frame : Tab Sample 32) (c : Chan) : Sample :=
  match deciderOf s f c with
  | .tone => toneSample s.timing.begun
  | .settle => 0
  | .muted => 0
  | .trim => trimmed (frame.get c) (trimInForce s f c).count

/-- The flags of R113 after a row. -/
def flagsAfter (s : State) (f : Feed) (c : Chan) (x : ChanFlags) : ChanFlags :=
  match deciderOf s f c with
  | .tone => { x with tone := true }
  | .settle => { x with settle := true }
  | .muted => { x with muted := true }
  | .trim => { x with short := x.short || (trimInForce s f c).short }

/-- The row of a sample period on one feed; an ABSENT feed has none (R101, R112). -/
def buildRow (s : State) (frame : Tab Sample 32) (f : Feed) : FeedPath :=
  let p := s.paths.get f
  if (s.feeds.get f).binding.installed then
    { p with
      rows := p.rows ++ [Tab.gen (wordOf s f frame)]
      flags := Tab.gen (fun c => flagsAfter s f c (p.flags.get c)) }
  else p

/-- The rows of a sample period (R101). -/
def buildRows (frame : Tab Sample 32) (s : State) : State := { s with paths := Tab.gen (buildRow s frame) }

/-- The tick of the block at which sample i begins (R17). -/
def sampleStart (i len : Nat) : Nat := i * len / 48

/-- The ticks up to the start of the coming sample period pass (R17). -/
def toSample (s : State) : State :=
  let d := sampleStart s.timing.begun s.timing.blockLen - s.timing.blockTicks
  passTicks d d s

/-- A sample period: the ticks, the countdowns and compensations that fall at it, the rows, the clip counts (R89, R101,
R108). -/
def sampleWork (frame : Tab Sample 32) (s : State) : State :=
  let t := countClips frame (buildRows frame (forEach channels countDown (toSample s)))
  { t with timing.begun := t.timing.begun + 1 }

/-- SAMPLE_PERIOD: a block that is over takes no further sample period (R17; log entry 8). -/
def samplePeriod (frame : Tab Sample 32) (s : State) : State :=
  if s.running && !s.timing.blockOver then sampleWork frame s else s

/-! ## Feed blocks -/

/-- The clock state that a QUIET_COUNT_EXPIRY commanded by itself has ended ahead of its block start. -/
def Ahead.endedClock : Ahead → Option ClockState
  | .quiet c => some c
  | .settle _ | .retry _ | .window | .overload => none

/-- The clock state as it stands when the running block ends (R29, R112): the quiet count's return to FREE belongs to the
block that begins, and a missing mark or a mark that ends the block to the block that ends (log entry 12). -/
def State.clockAtEnd (s : State) : ClockState := (s.ahead.findSome? Ahead.endedClock).getD s.timing.clock

/-- The feed block of the block that ends (R112). -/
def feedBlock (s : State) (p : FeedPath) : FeedBlock :=
  { header :=
      { source := s.own, counter := s.timing.counter, clock := s.clockAtEnd, slip := s.timing.slip
        count := s.timing.begun, flags := p.flags }
    rows := p.rows }

/-- Offer the completed feed block: it is sent, or waits, if the line is UP, and is discarded if DOWN (R114). -/
def offerBlock (s : State) (f : Feed) : FeedPath :=
  let p := s.paths.get f
  if (s.feeds.get f).binding.installed then
    { p with
      rows := [], flags := noFlags
      port := if (s.feeds.get f).lineUp then p.port ++ [feedBlock s p] else p.port }
  else p

/-- The feed blocks of the block that ends (R112, R114). -/
def offerBlocks (s : State) : State := { s with paths := Tab.gen (offerBlock s) }

/-- A port finishes sending; the next waiting feed block is the one it now sends (R114). -/
def feedBlockSent (f : Feed) (s : State) : State :=
  whileRunning (modPath f (fun p => { p with port := p.port.tail })) s

/-- A line that goes DOWN loses the feed block being sent and those waiting (R114). -/
def lineDown (p : FeedPath) : FeedPath := { p with port := [] }

/-- The transceiver reports a line change: the field follows it (R32). An ABSENT feed's is held at DOWN. -/
def lineChange (f : Feed) (up : Bool) (s : State) : State :=
  let r := s.feeds.get f
  if r.binding.installed then
    let t := setFeeds (s.feeds.set f { r with lineUp := up }) s
    if up then t else modPath f lineDown t
  else s

def execTone (e : Envelope) (feed first last state : Byte) (s : State) : Host.Outcome State Fault Refusal :=
  .next (request e (takeTone e feed first last state) s)
def execSamplePeriod (frame : Tab Sample 32) (s : State) : Host.Outcome State Fault Refusal :=
  .next (samplePeriod frame s)
def execFeedBlockSent (f : Feed) (s : State) : Host.Outcome State Fault Refusal := .next (feedBlockSent f s)
def execPortLineChange (f : Feed) (up : Bool) (s : State) : Host.Outcome State Fault Refusal :=
  .next (whileRunning (lineChange f up) s)

end Sys2Proof.Machine
end

