-- ==== Sys2Proof/Machine/Bindings.lean ====
section
/-! DEFINITION. The binding table (Chapter 3), the loss of a station (R14), and the box reset (R177). -/

namespace Sys2Proof.Machine

/-- Replace the binding of a feed (R31), and ask for BOX when it changes. -/
def bindFeed (f : Feed) (b : Binding) (s : State) : State :=
  setFeeds (s.feeds.modify f (fun r => { r with binding := b })) s

/-! ## CLAIM -/

/-- The feed stood ORPHANED with this holder. -/
def orphanedBy (feeds : Tab FeedRec 6) (f : Feed) (st : Station) : Bool :=
  match (feeds.get f).binding with
  | .orphaned h _ => h == st
  | _ => false

/-- A station number as a value byte (R179). -/
def stationByte (st : Station) : Byte := BitVec.ofNat 8 st.val

/-- CLAIM taken (R34); `before` is the binding table before the claim's own hearing resumed any feed (R36). -/
def takeClaim (e : Envelope) (feed : Byte) (before : Tab FeedRec 6) (s : State) : State :=
  match feedOf feed with
  | none => answer e 2 .noFeed s
  | some f =>
    match (s.feeds.get f).binding with
    | .absent => answer e 2 .noFeed s
    | .free => answer e 2 .done (bindFeed f (.bound e.source s.timing.counter) s)
    | .bound h _ =>
      if h = e.source then
        place e.source { plain 2 .done e.tag with resumed := orphanedBy before f e.source } s
      else place e.source { plain 2 .feedTaken e.tag with value := stationByte h } s
    | .orphaned h since =>
      if h = e.source then
        place e.source { plain 2 .done e.tag with resumed := true } (bindFeed f (.bound h since) s)
      else
        place e.source { plain 2 .done e.tag with takeover := true }
          (bindFeed f (.bound e.source s.timing.counter) s)

/-! ## RELEASE -/

/-- A feed becomes FREE, and the four neighbours act on the release (R39, R40). -/
def releaseFeed (f : Feed) (s : State) : State :=
  discardBatch (fun b => b.feed == f)
    (modPath f emptyTone
      (forEach channels (openHeld (fun g => g == f))
        (removeFeedEntries f (bindFeed f .free s))))

/-- RELEASE taken (R39). -/
def takeRelease (e : Envelope) (feed : Byte) (s : State) : State :=
  withHolder e 3 feed (fun f t => answer e 3 .done (releaseFeed f t)) s

/-! ## Loss of a station -/

/-- A BOUND feed whose holder meets a condition becomes ORPHANED (R41, R43). -/
def orphan (p : Station → Bool) (r : FeedRec) : FeedRec :=
  match r.binding with
  | .bound h since => if p h then { r with binding := .orphaned h since } else r
  | _ => r

/-- The loss of a desk: its feeds are orphaned and its batch discarded (R14, R41, R160). -/
def loseDesk (st : Station) (s : State) : State :=
  discardBatch (fun b => b.owner == st) (setFeeds (s.feeds.map (orphan (fun h => h == st))) s)

/-- The entry of a PRESENT station becomes LOST, and the loss is delivered by its role (R14, R78). -/
def loseStation (st : Station) (role : Role) (s : State) : State :=
  let t := { s with link.stations := s.link.stations.set st (.lost role) }
  match role with
  | .desk => loseDesk st t
  | .box => removeLinks (fun x => x.source == st) t

/-- The ageing of one station's entry at a block start (R14). -/
def ageStation (st : Station) (s : State) : State :=
  match s.link.stations.get st with
  | .present role age =>
    if age + 1 < 200 then { s with link.stations := s.link.stations.set st (.present role (age + 1)) }
    else loseStation st role s
  | .self => s
  | .absent => s
  | .lost _ => s

/-- The ageing of the station table at a block start (R14). -/
def ageStations (s : State) : State := forEach allStations ageStation s

/-- STATION_LOSS (R14): the coming block start brings the station's age to 200 (log entry 1). -/
def stationLoss (st : Station) (s : State) : State :=
  whileRunning (fun t =>
    match t.link.stations.get st with
    | .present role age => if age + 1 < 200 then t else loseStation st role t
    | .self => t
    | .absent => t
    | .lost _ => t) s

/-- LINK_ENTRY_EXPIRY (R77): the coming block start brings the entry's age to 50 (log entry 1). -/
def linkExpiry (g : Group) (source : Station) (s : State) : State :=
  whileRunning (removeLinks (fun x => x.group == g && x.source == source && decide (50 ≤ x.age + 1))) s

/-! ## BOX RESET -/

/-- The source holds at least one BOUND feed (R177). -/
def holdsAny (s : State) (st : Station) : Bool := allFeeds.any (fun f => holds s f st)

/-- The report queue empties its key list and every reply slot, and queues BOX (R171). -/
def resetReport (s : State) : State :=
  ask .box { s with report.keys := [], report.slots := Tab.const none }

/-- A station table entry at a box reset: PRESENT and LOST become ABSENT (R15). -/
def Presence.forget : Presence → Presence
  | .self => .self
  | _ => .absent

/-- The effects of a box reset on every block (R177). -/
def resetBlocks (rb : Readback) (s : State) : State :=
  let s := resetReport s
  let s := { s with link.stations := s.link.stations.map Presence.forget }
  let s := setFeeds (s.feeds.map (orphan (fun _ => true))) s
  let s := freeRoom (removeLinks (fun _ => true) s)
  let s := forEach channels (openHeld (fun _ => true)) s
  let s := forEach channels resetHead s
  let s := forEach channels (boxResetRetry rb) s
  let s := { s with paths := s.paths.map emptyTone }
  discardBatch (fun _ => true) s

/-- BOX RESET taken (R177). -/
def takeBoxReset (e : Envelope) (rb : Readback) (s : State) : State :=
  if holdsAny s e.source then answer e 14 .done (resetBlocks rb s) else answer e 14 .notHolder s

def execClaim (e : Envelope) (feed : Byte) (s : State) : Host.Outcome State Fault Refusal :=
  .next (request e (takeClaim e feed s.feeds) s)
def execRelease (e : Envelope) (feed : Byte) (s : State) : Host.Outcome State Fault Refusal :=
  .next (request e (takeRelease e feed) s)
def execBoxReset (e : Envelope) (rb : Readback) (s : State) : Host.Outcome State Fault Refusal :=
  .next (request e (takeBoxReset e rb) s)
def execStationLoss (st : Station) (s : State) : Host.Outcome State Fault Refusal := .next (stationLoss st s)
def execLinkEntryExpiry (g : Group) (source : Station) (s : State) : Host.Outcome State Fault Refusal :=
  .next (linkExpiry g source s)

end Sys2Proof.Machine
end

