-- ==== Sys2Proof/Machine/PhantomCtl.lean ====
section
/-! DEFINITION. The phantom controller: settling, shorts, banks, shedding, overload and admission (Chapter 9). -/

namespace Sys2Proof.Machine

/-- Replace a phantom record without a change of state. (A record that stays as it is leaves the table as it is.) -/
def putPhantom (c : Chan) (r : PhantomRec) (s : State) : State :=
  if s.phantom.recs.get c = r then s else { s with phantom.recs := s.phantom.recs.set c r }

/-- Change a counter of a phantom record, set its event bit and ask for CHANNEL(c) (R148, R165). -/
def countPhantom (c : Chan) (e : Event) (g : PhantomRec → PhantomRec) (s : State) : State :=
  setEvent c e (putPhantom c (g (s.phantom.recs.get c)) s)

/-! ## 1. Monitors -/

/-- The monitors are read; a value above 31.875 mA is held as 31.875 mA (R140). -/
def readMonitors (m : Tab Nat 32) (s : State) : State :=
  { s with phantom.recs := Tab.gen (fun c => { s.phantom.recs.get c with current := min 255 (m.get c) }) }

/-! ## 2. Settles -/

/-- The channel is requested (R51): worked out from the entries. -/
def State.requested (s : State) (c : Chan) : Bool := wanted (s.demand.get c).entries

/-- Where a FALLING channel goes when its settle ends (R136; the causes that R136 does not list: log entry 30). -/
def afterFalling (requested : Bool) (cause : OffCause) : PhantomState :=
  if requested then
    match cause with
    | .shedBudget => .shed
    | .shedLoad => .shed
    | .short => .fault
    | .released => .waiting true
    | .none => .waiting true
    | .reset => .waiting true
  else .off

/-- The settle of a channel ends (R136). -/
def endSettle (c : Chan) (s : State) : State :=
  let r := s.phantom.recs.get c
  match r.state with
  | .rising _ => movePhantom c .on r.cause s
  | .falling _ => movePhantom c (afterFalling (s.requested c) r.cause) r.cause s
  | .off | .waiting _ | .on | .shed | .fault => s

/-- The settle countdown of a channel, where it has one. -/
def PhantomState.left : PhantomState → Option Nat
  | .rising n => some n
  | .falling n => some n
  | _ => none

/-- The state with its settle countdown advanced. -/
def PhantomState.counted : PhantomState → PhantomState
  | .rising n => .rising (n - 1)
  | .falling n => .falling (n - 1)
  | st => st

/-- A settle countdown advances, or its settle ends where it would reach 0 (R135, R136); a settle that a command began at
this block start does not advance (log entry 1). -/
def advanceSettle (c : Chan) (s : State) : State :=
  let r := s.phantom.recs.get c
  match r.state.left with
  | some n =>
    if Ahead.settle c ∈ s.ahead then s
    else if n ≤ 1 then endSettle c s
    else putPhantom c { r with state := r.state.counted } s
  | none => s

/-! ## 3. Shorts -/

/-- The channel is watched for shorts, its countdown not above a limit: 150 after step 2 (R146). -/
def watched (limit : Nat) : PhantomState → Bool
  | .on => true
  | .rising n => decide (n ≤ limit)
  | _ => false

/-- The short threshold in steps of 0.125 mA. -/
def shortLevel (cfg : Configuration) : Nat := 8 * cfg.shortThreshold

/-- A short trip (R146). -/
def trip (c : Chan) (s : State) : State :=
  countPhantom c .short (fun r => { r with persist := 0, shorts := r.shorts + 1 })
    (movePhantom c (.falling 250) .short s)

/-- Short persistence judged at a block start (R146). -/
def judgeShort (c : Chan) (s : State) : State :=
  let r := s.phantom.recs.get c
  if watched 150 r.state && decide (shortLevel s.config < r.current) then
    if r.persist + 1 < 50 then putPhantom c { r with persist := r.persist + 1 } s else trip c s
  else putPhantom c { r with persist := 0 } s

/-! ## 4. Banks and shedding -/

/-- The victim among the channels in RISING or ON of one priority: the highest number (R144). -/
def victimOf (s : State) (p : Priority) : Option Chan :=
  (s.poweredChannels.filter (fun c => (s.config.chans.get c).priority == p)).getLast?

/-- The shed victim: the lowest priority, and in it the highest channel number (R144). -/
def victim (s : State) : Option Chan :=
  match victimOf s .low with
  | some c => some c
  | none =>
    match victimOf s .high with
    | some c => some c
    | none => victimOf s .critical

/-- A shed (R144). -/
def shed (cause : OffCause) (c : Chan) (s : State) : State :=
  countPhantom c .shed (fun r => { r with persist := 0, sheds := r.sheds + 1 })
    (movePhantom c (.falling 250) cause s)

/-- Shed victims until the allocated load is within the budget: at most one for each channel (R144). -/
def shedToFit : Nat → State → State
  | 0, s => s
  | n + 1, s =>
    if s.load ≤ s.budget then s
    else
      match victim s with
      | some c => shedToFit n (shed .shedBudget c s)
      | none => s

/-- The line quiet count reaches 20 with the index changed: the bank in force becomes the line index, and BOX is asked
for; then the sheds for a lowered budget (R138, R144, R151). -/
def changeBank (s : State) : State :=
  shedToFit 32 (ask .box { s with phantom.bank := s.lineIndex })

/-- The line quiet count advances and a bank change is completed (R138). -/
def advanceLines (s : State) : State :=
  let t := { s with phantom.lineQuiet := min 20 (s.phantom.lineQuiet + 1) }
  if s.phantom.lineQuiet = 19 ∧ t.lineIndex ≠ t.phantom.bank then changeBank t else t

/-! ## 5. Overload -/

/-- One victim is shed for a measured overload, where there is one; the persistence returns to 0 (R145). -/
def shedForLoad (s : State) : State :=
  let t := { s with phantom.overload := 0 }
  match victim t with
  | some c => shed .shedLoad c t
  | none => t

/-- Overload persistence judged at a block start (R145), unless SHED_LOAD has. -/
def judgeOverload (s : State) : State :=
  if Ahead.overload ∈ s.ahead then s
  else if 8 * s.budget < s.measuredTotal then
    if s.phantom.overload + 1 < 20 then { s with phantom.overload := s.phantom.overload + 1 } else shedForLoad s
  else { s with phantom.overload := 0 }

/-! ## 6. Admission -/

/-- A channel takes part in the admission pass, as SHED or as WAITING (R142). -/
def queuesAs (shedFirst : Bool) : PhantomState → Bool
  | .shed => shedFirst
  | .waiting _ => !shedFirst
  | _ => false

/-- The channels of one priority in the order of the pass: SHED before WAITING, lower numbers first (R142). -/
def passOf (s : State) (p : Priority) : List Chan :=
  channels.filter (fun c => (s.config.chans.get c).priority == p && queuesAs true (s.phantom.recs.get c).state) ++
  channels.filter (fun c => (s.config.chans.get c).priority == p && queuesAs false (s.phantom.recs.get c).state)

/-- The order of the admission pass (R142). -/
def passOrder (s : State) : List Chan := passOf s .critical ++ passOf s .high ++ passOf s .low

/-- A channel enters RISING (R142). -/
def powerUp (c : Chan) (s : State) : State :=
  let t := movePhantom c (.rising 250) .none s
  putPhantom c { t.phantom.recs.get c with persist := 0 } t

/-- A channel is passed over: at its first pass that is a denial (R143). -/
def passOver (c : Chan) (s : State) : State :=
  match (s.phantom.recs.get c).state with
  | .waiting true =>
    countPhantom c .denied (fun r => { r with state := .waiting false, denials := r.denials + 1 }) s
  | _ => s

/-- One channel of the admission pass (R142). -/
def considerChannel (c : Chan) (s : State) : State :=
  if s.load + s.config.allowance ≤ s.budget then powerUp c s else passOver c s

/-- The admission pass (R142, R143). -/
def admissionPass (s : State) : State := forEach (passOrder s) considerChannel s

/-- The phantom controller at a block start, in the order of R141. -/
def phantomAtBlock (m : Tab Nat 32) (s : State) : State :=
  admissionPass (judgeOverload (advanceLines
    (forEach channels judgeShort (forEach channels advanceSettle (readMonitors m s)))))

/-! ## The commands -/

/-- A channel that lost its power between two states: it has entered FALLING. -/
def hasFallen (before after : State) (c : Chan) : Bool :=
  (before.phantom.recs.get c).state.powered && !(after.phantom.recs.get c).state.powered

/-- Mark as begun at the coming block start the settles of the channels that a command made FALLING (log entry 1). -/
def settlesAhead (before s : State) : State :=
  { s with ahead := ((channels.filter (hasFallen before s)).map (fun c => Ahead.settle c)) ++ s.ahead }

/-- SETTLE_END (R136): the coming block start would bring the channel's countdown to 0. -/
def settleEnd (c : Chan) (s : State) : State :=
  whileRunning (fun t =>
    match (t.phantom.recs.get c).state.left with
    | some n => if n ≤ 1 ∧ Ahead.settle c ∉ t.ahead then endSettle c t else t
    | none => t) s

/-- SHORT_TRIP (R146): the coming block start brings the short persistence of a watched channel to 50. -/
def shortTrip (c : Chan) (s : State) : State :=
  whileRunning (fun t =>
    let r := t.phantom.recs.get c
    if watched 151 r.state && !decide (r.persist + 1 < 50) then settlesAhead t (trip c t) else t) s

/-- SHED_LOAD (R145): the coming block start brings the overload persistence to 20. -/
def shedLoad (s : State) : State :=
  whileRunning (fun t =>
    if t.phantom.overload + 1 < 20 then t
    else settlesAhead t (shedForLoad { t with ahead := .overload :: t.ahead })) s

/-- BANK_CHANGE (R138): the coming block start brings the line quiet count to 20 with a changed line index. -/
def bankChange (s : State) : State :=
  whileRunning (fun t =>
    if t.phantom.lineQuiet = 19 ∧ t.lineIndex ≠ t.phantom.bank then
      settlesAhead t (changeBank { t with phantom.lineQuiet := 20 })
    else t) s

/-- POWER_GOOD_CHANGE (R138): a change of either line sets the line quiet count to 0. In start-up changes are not judged
(R172). -/
def powerGoodChange (mainGood auxGood : Bool) (s : State) : State :=
  if s.phantom.mainGood = mainGood ∧ s.phantom.auxGood = auxGood then s
  else
    { s with
      phantom.mainGood := mainGood
      phantom.auxGood := auxGood
      phantom.lineQuiet := if s.running then 0 else s.phantom.lineQuiet }

def execSettleEnd (c : Chan) (s : State) : Host.Outcome State Fault Refusal := .next (settleEnd c s)
def execShortTrip (c : Chan) (s : State) : Host.Outcome State Fault Refusal := .next (shortTrip c s)
def execShedLoad (s : State) : Host.Outcome State Fault Refusal := .next (shedLoad s)
def execBankChange (s : State) : Host.Outcome State Fault Refusal := .next (bankChange s)
def execPowerGoodChange (mainGood auxGood : Bool) (s : State) : Host.Outcome State Fault Refusal :=
  .next (powerGoodChange mainGood auxGood s)

end Sys2Proof.Machine
end

