-- ==== Sys2Proof/Machine/Formats.lean ====
section
/-! DEFINITION. The bytes of what the part sends: envelope, message bodies and feed block header (R178 to R180), and the
snapshot of a key (R163, R167). -/

namespace Sys2Proof.Machine

/-- A byte from a number. -/
def byte (n : Nat) : Byte := BitVec.ofNat 8 n

/-- A flag at a bit position. -/
def at_ (b : Bool) (i : Nat) : Nat := if b then 2 ^ i else 0

/-- The outcome codes of R179. -/
def OutcomeCode.code : OutcomeCode → Nat
  | .done => 0
  | .notHolder => 1
  | .badRange => 2
  | .noFeed => 3
  | .feedTaken => 4
  | .locked => 5
  | .fixed => 6
  | .busy => 7
  | .notOwner => 8
  | .sequence => 9
  | .noBatch => 10
  | .shortBatch => 11
  | .timedOut => 12

/-- A REPLY body (R179). -/
def replyBody (a : Answer) : List Byte :=
  [a.kind, byte a.code.code, byte (at_ a.resumed 0 + at_ a.takeover 1 + at_ a.clamped 2), a.value]

/-- An optional value's byte: 0 when absent (R180). -/
def optByte (o : Option Int) : Byte :=
  match o with
  | some n => gainByte n
  | none => 0

/-- A LINK CANDIDATE body (R180). -/
def linkBody (g : Group) (a : Announce) : List Byte :=
  [byte g.val, byte (at_ a.candidate.isSome 0 + at_ a.locked.isSome 1), optByte a.candidate, optByte a.locked,
    gainByte a.backoff]

def Lock.code : Lock → Nat
  | .opened => 0
  | .held _ _ => 1
  | .fixed _ _ => 2

/-- Bytes 5 and 6 of CHANNEL STATE: the feed named and the frozen gain, both 0 when OPEN (R180). -/
def Lock.bytes : Lock → List Byte
  | .opened => [0, 0]
  | .held f g => [byte f.val, gainByte g]
  | .fixed f g => [byte f.val, gainByte g]

def guardCode : Guard → Nat
  | .off => 0
  | .report => 1
  | .backoff => 2

def PhantomState.code : PhantomState → Nat
  | .off => 0
  | .waiting _ => 1
  | .rising _ => 2
  | .on => 3
  | .falling _ => 4
  | .shed => 5
  | .fault => 6

def OffCause.code : OffCause → Nat
  | .none => 0
  | .released => 1
  | .shedBudget => 2
  | .shedLoad => 3
  | .short => 4
  | .reset => 5

/-- One feed entry of CHANNEL STATE (R180). -/
def entryBytes (f : Feed) (e : Entry) (t : Trim) : List Byte :=
  [byte (f.val + at_ e.mute 3 + at_ e.phantom 4 + at_ e.clamped 5 + at_ t.short 6), gainByte e.gain, gainByte t.count]
    ++ be16 e.last

/-- The feed list of a channel, in feed letter order (R63, R167). -/
def feedList (s : State) (c : Chan) : List Byte :=
  allFeeds.flatMap (fun f =>
    match (s.demand.get c).entries.get f with
    | some e => entryBytes f e ((s.gain.recs.get c).trims.get f)
    | none => [])

/-- The number of entries of a channel. -/
def entryCount (s : State) (c : Chan) : Nat :=
  (allFeeds.filter (fun f => ((s.demand.get c).entries.get f).isSome)).length

/-- A CHANNEL STATE body (R167, R180). -/
def channelBody (s : State) (c : Chan) : List Byte :=
  let st := s.steps.get c
  let g := s.gain.recs.get c
  let p := s.phantom.recs.get c
  [byte (c.val + 1), gainByte st.applied, gainByte g.target, gainByte g.beff,
    byte (at_ st.moving 0 + at_ st.front.isFault 1 + 4 * g.lock.code + 16 * guardCode (s.config.chans.get c).guard)]
  ++ g.lock.bytes
  ++ [byte (p.state.code + 16 * p.cause.code), byte p.current, (s.head.recs.get c).episodes, p.shorts, p.sheds,
    p.denials]
  ++ be16 ((s.report.events.get c).setWidth 16)
  ++ [byte (entryCount s c)]
  ++ feedList s c

def ClockState.code : ClockState → Nat
  | .free => 0
  | .acquiring => 1
  | .locked => 2
  | .holdover => 3

/-- The four bytes of a feed record in BOX STATE (R180). -/
def feedBytes (r : FeedRec) : List Byte :=
  match r.binding with
  | .absent => [byte (at_ r.lineUp 2), 0, 0, 0]
  | .free => [byte (1 + at_ r.lineUp 2), 0, 0, 0]
  | .bound h since => [byte (2 + at_ r.lineUp 2), byte h.val] ++ be16 since
  | .orphaned h since => [byte (3 + at_ r.lineUp 2), byte h.val] ++ be16 since

def BatchRecord.code : BatchRecord → Nat
  | .idle => 0
  | .loading _ _ => 1
  | .committing _ => 2

/-- Bytes 32 to 34 of BOX STATE (R180). -/
def batchBytes (b : Batch) : List Byte :=
  byte (b.record.code + 16 * b.flags.toNat) ::
    match b.record.body with
    | some x => [byte x.owner.val, byte x.feed.val]
    | none => [0, 0]

/-- A BOX STATE body (R167, R180). -/
def boxBody (s : State) : List Byte :=
  [byte (s.timing.clock.code + 4 * s.phantom.bank.val + at_ (s.config.status == .defaults) 4 + at_ s.gain.full 5)]
  ++ be16 (BitVec.ofNat 16 s.budget)
  ++ be16 (BitVec.ofNat 16 s.load)
  ++ be16 (BitVec.ofNat 16 s.measuredTotal)
  ++ [s.link.errors]
  ++ allFeeds.flatMap (fun f => feedBytes (s.feeds.get f))
  ++ batchBytes s.batch

/-- A whole message: envelope, body and check (R178, R3). -/
def message (cls : Nat) (source : Station) (kind target tag : Byte) (body : List Byte) : List Byte :=
  let m := [byte (32 * cls + source.val), kind, target, tag, byte body.length] ++ body
  m ++ be16 (crc16 m)

/-- The outcome that REPLY(s) would carry. -/
def State.slot (s : State) (st : Station) : Answer := ((s.report.slots.get st).getD (plain 0 .done 0))

/-- The message of a key, built from the state (R4, R167). -/
def keyMessage (s : State) : Key → List Byte
  | .reply st => message 1 s.own 32 (byte st.val) (s.slot st).tag (replyBody (s.slot st))
  | .link g => message 2 s.own 33 255 0 (linkBody g (s.gain.announce.get g))
  | .channel c => message 3 s.own 34 255 0 (channelBody s c)
  | .box => message 4 s.own 35 255 0 (boxBody s)

/-- The event bits that the message of a key carries (R163). -/
def keyBits (s : State) : Key → BitVec 9
  | .channel c => s.report.events.get c
  | _ => 0

/-- The batch flags that the message of a key carries (R163). -/
def keyFlags (s : State) : Key → BitVec 4
  | .box => s.batch.flags
  | _ => 0

/-- The snapshot of a key (R163). -/
def snapshot (s : State) (k : Key) : Snapshot :=
  { key := k, bytes := keyMessage s k, bits := keyBits s k, flags := keyFlags s k }

/-- A nibble of channel flags (R180). -/
def ChanFlags.nibble (x : ChanFlags) : Nat := at_ x.tone 3 + at_ x.settle 2 + at_ x.muted 1 + at_ x.short 0

/-- The flag byte of two channels: the first in the high nibble (R180). -/
def nibblePair (flags : Tab ChanFlags 32) (i : Fin 16) : Byte :=
  byte (16 * (flags.get ⟨2 * i.val, by omega⟩).nibble + (flags.get ⟨2 * i.val + 1, by omega⟩).nibble)

/-- A feed block header on the wire: 21 bytes (R180). -/
def headerBytes (h : Header) : List Byte :=
  [byte h.source.val] ++ be16 h.counter ++ [byte (h.clock.code + at_ h.slip 7), byte h.count]
    ++ (List.finRange 16).map (nibblePair h.flags)

/-- A word on the wire: three bytes, most significant first (R178, R180). -/
def wordBytes (x : Sample) : List Byte := [x.extractLsb' 16 8, x.extractLsb' 8 8, x.extractLsb' 0 8]

/-- A feed block on the wire: its header, then its rows, channel 1 first (R112, R180). -/
def FeedBlock.wire (b : FeedBlock) : List Byte :=
  headerBytes b.header ++ b.rows.flatMap (fun r => r.list.flatMap wordBytes)

end Sys2Proof.Machine
end

