-- ==== Sys2Proof/Machine/Sending.lean ====
section
/-! DEFINITION. Getting onto the pair: attempts, losses, faults and sends (section 1.3, R162, R163), and the idle pair. -/

namespace Sys2Proof.Machine

def Key.isReply : Key → Bool
  | .reply _ => true
  | _ => false

def Key.isLink : Key → Bool
  | .link _ => true
  | _ => false

def Key.isChannel : Key → Bool
  | .channel _ => true
  | _ => false

def Key.isBox : Key → Bool
  | .box => true
  | _ => false

/-- The first key: by class REPLY, LINK, CHANNEL, BOX, and within a class the one that has stood longest (R162). -/
def firstKey (l : List Key) : Option Key :=
  (l.find? Key.isReply).or ((l.find? Key.isLink).or ((l.find? Key.isChannel).or (l.find? Key.isBox)))

/-- An attempt begins: the snapshot of the first key is taken (R5, R163). -/
def beginAttempt (s : State) : State :=
  match firstKey s.report.keys with
  | some k => { s with link.pair := .sending ⟨snapshot s k, 0, 0, false⟩ }
  | none => s

/-- TRANSMISSION_ATTEMPT: the pair is idle, a key is queued, and the part is neither in start-up nor in CLASH (R5). -/
def transmissionAttempt (s : State) : State :=
  if s.running && !s.link.clash && s.link.pair == .idle then beginAttempt s else s

/-- What an attempt in progress turns into; nothing where there is none. -/
def whileSending (f : Sending → State → State) : State → State :=
  whileRunning (fun s =>
    match s.link.pair with
    | .sending x => f x s
    | _ => s)

/-- LOST_ATTEMPT: the part goes on as a receiver of the message whose bytes it has read so far (R6); the running check
covers them (R3). The snapshot is discarded and the key stays (R163). -/
def lostAttempt (bytesRead : List Byte) (s : State) : State :=
  whileSending (fun _ t => { t with link.pair := .receiving (crc16 bytesRead) }) s

/-- TRANSMISSION_FAULT: the attempt ends, the link error count advances, and the part waits for idle (R8, R9). -/
def transmissionFault (s : State) : State :=
  whileSending (fun _ t => { t with link.pair := .waiting, link.errors := t.link.errors + 1 }) s

/-- What a snapshot carried is cleared from a word of sticky bits, except what was set again (R163). -/
def clearCarried {n : Nat} (now carried again : BitVec n) : BitVec n := now &&& ~~~(carried &&& ~~~again)

/-- What the snapshot carried is cleared, by its key (R163). -/
def clearSent (x : Sending) (s : State) : State :=
  match x.snap.key with
  | .channel c => { s with report.events := s.report.events.modify c (fun b => clearCarried b x.snap.bits x.again) }
  | .box => { s with batch.flags := clearCarried s.batch.flags x.snap.flags x.againFlags }
  | .reply st => if x.newer then ask (.reply st) s else { s with report.slots := s.report.slots.set st none }
  | .link _ => s

/-- MESSAGE_SENT: the key leaves the list and what its snapshot carried is cleared (R7, R163). -/
def messageSent (s : State) : State :=
  whileSending (fun x t =>
    clearSent x { t with
      link.pair := .ended
      report.keys := t.report.keys.filter (fun k => k != x.snap.key) }) s

/-- A reception is discarded and counted once; a framing fault makes the part wait for idle (R9, R10). -/
def discardReception (cause : ReceptionFault) (s : State) : State :=
  { s with
    link.errors := s.link.errors + 1
    link.pair := match cause with
      | .badCheck => .ended
      | .stopBit | .earlyIdle | .oversize => .waiting }

/-- RECEPTION_DISCARDED (R10), where a message can be under reception. -/
def receptionDiscarded (cause : ReceptionFault) (s : State) : State :=
  if s.canHear then discardReception cause s else s

/-- PAIR_IDLE (R1): the next start bit begins a message. During a reception it is the early idle of R10 (log entry 21). -/
def pairIdle (s : State) : State :=
  if s.running then
    match s.link.pair with
    | .waiting => { s with link.pair := .idle }
    | .ended => { s with link.pair := .idle }
    | .receiving _ => discardReception .earlyIdle s
    | .idle => s
    | .sending _ => s
  else s

def execTransmissionAttempt (s : State) : Host.Outcome State Fault Refusal := .next (transmissionAttempt s)
def execLostAttempt (bytesRead : List Byte) (s : State) : Host.Outcome State Fault Refusal :=
  .next (lostAttempt bytesRead s)
def execTransmissionFault (s : State) : Host.Outcome State Fault Refusal := .next (transmissionFault s)
def execMessageSent (s : State) : Host.Outcome State Fault Refusal := .next (messageSent s)
def execReceptionDiscarded (cause : ReceptionFault) (s : State) : Host.Outcome State Fault Refusal :=
  .next (receptionDiscarded cause s)
def execPairIdle (s : State) : Host.Outcome State Fault Refusal := .next (pairIdle s)

end Sys2Proof.Machine
end

