-- ==== Sys2Proof/Machine/Blocks.lean ====
section
/-! DEFINITION. The block start (R18): the end of the block before, the counts, and the work of every block in order. -/

namespace Sys2Proof.Machine

/-- The owner of the standing batch is lost at this block start, and the batch is written or times out there: the order
of the two shows (R157, R159; log entry 16). -/
def lossMeetsBatch (s : State) : Bool :=
  match s.batch.record with
  | .idle => false
  | .loading b age => (s.link.stations.get b.owner == .present .desk 199) && decide (99 ≤ age)
  | .committing b => s.link.stations.get b.owner == .present .desk 199

/-- The station table ages and the batch buffer does its work; where their order shows, a free value decides it (R14,
R157, R159). -/
def stationsAndBatch (s : State) : State :=
  let t := { s with seed := s.seed + 1 }
  if lossMeetsBatch s && Config.lossFirst s.seed then batchAtBlock (ageStations t)
  else ageStations (batchAtBlock t)

/-- The refresh slot of a channel (R165). -/
def refreshSlot (c : Chan) : Nat := 3 * c.val

/-- The LINK slots: every group in use whose number modulo 10 is the counter's (R81). -/
def linkSlots (s : State) (n : Nat) : List Group :=
  linkGroups.filter (fun g => s.used g && decide (g.val % 10 = n % 10))

/-- The periodic queueing (R81, R165). -/
def periodic (s : State) : State :=
  let n := s.timing.counter.toNat
  let t := forEach (linkSlots s n) (fun g => ask (.link g)) s
  let t := forEach (channels.filter (fun c => decide (refreshSlot c = n % 100))) (fun c => ask (.channel c)) t
  if n % 50 = 0 then ask .box t else t

/-- The pieces that commands took ahead of this block start have had their effect (log entry 1). -/
def clearAhead (s : State) : State := { s with ahead := [] }

/-- The work of the blocks of the part at a block start (R18): mark drive, station table and batch buffer, link table,
view, resolution, step controller, phantom controller. The loss of a box, which marks its groups dirty (R14, R79), is
taken before the resolution: R46 lets either be taken first (DESIGN CHOICE, log entry 32). -/
def blockTasks (i : BlockInputs) (s : State) : State :=
  phantomAtBlock i.monitors (stepAll i.readback (resolveAll (presentView
    (ageLinks (stationsAndBatch (driveMark i.markLine s))))))

/-- All of the work of a block start, the counts apart: the blocks' tasks, then the periodic queueing (R18). -/
def blockWork (i : BlockInputs) (s : State) : State := clearAhead (periodic (blockTasks i s))

/-- The ticks left in the running block: none when a mark has ended it (R17, R24). -/
def ticksLeft (t : Timing) : Nat := if t.slip then 0 else t.blockLen - t.blockTicks

/-- The end of the running block: its last ticks, the window (R127), the feed blocks (R112). A missing mark that falls due
at the last tick is declared here, before a mark that the part itself drives at that tick: R21 does not order the two
(DESIGN CHOICE, log entry 31). -/
def endBlock (s : State) : State :=
  offerBlocks (windowAtBlock (passTicks (ticksLeft s.timing) (ticksLeft s.timing) s))

/-- The counts of a new block (R18, R20). -/
def nextBlock (t : Timing) : Timing :=
  { t with
    counter := t.counter + 1
    begun := 0
    blockLen := t.nextLen
    blockTicks := 0
    quietCount := min 65535 (t.quietCount + 1)
    slip := false }

/-- A new block begins; a quiet count that reaches 1,000 returns ACQUIRING and HOLDOVER to FREE (R23, R27). The count
advances, and expires, before a mark that the part drives at this block start: R20 and R27 do not order the two (DESIGN
CHOICE, log entry 33). -/
def beginBlock (s : State) : State :=
  let t := { s with timing := nextBlock s.timing }
  if quietEnds t.timing.clock ∧ 1000 ≤ t.timing.quietCount then toFree t else t

/-- What a block start reads: the mark line is active at a realigned block start, which coincides with the activation
that caused it (R19). -/
def inputsAt (i : BlockInputs) (t : Timing) : BlockInputs := { i with markLine := i.markLine || t.slip }

/-- BLOCK_START (R18). -/
def blockStart (i : BlockInputs) (s : State) : State :=
  whileRunning (fun t => blockWork (inputsAt i t.timing) (beginBlock (endBlock t))) s

def execBlockStart (i : BlockInputs) (s : State) : Host.Outcome State Fault Refusal := .next (blockStart i s)

end Sys2Proof.Machine
end

