-- ==== Sys2Proof/Machine/Start.lean ====
section
/-! DEFINITION. The configuration image (R174, R175, R181), starts and start-up (R172). -/

namespace Sys2Proof.Machine

/-- A byte of the memory as the loader reads it; bytes that do not come are all ones (R174). -/
def imageByte (image : List Byte) (i : Nat) : Byte := image.getD i 0xFF#8

/-- The 54 bytes that the loader reads from address 0 (R174). -/
def imageRead (image : List Byte) : List Byte := (List.range 54).map (imageByte image)

/-- The four checks of R174, with the layout of R181. -/
def imageOk (image : List Byte) : Bool :=
  imageByte image 0 == 0x53 && imageByte image 1 == 0x32 && imageByte image 2 == 54 && imageByte image 3 == 1
    && crc16 ((imageRead image).take 52) == ofBe16 (imageByte image 52) (imageByte image 53)

/-- A field limited to its range (R175). -/
def limitField (lo hi n : Nat) : Nat := max lo (min hi n)

/-- A priority code: above the range it is LOW (R175, R181). -/
def priorityOf (code : BitVec 2) : Priority := if code = 0 then .critical else if code = 1 then .high else .low

/-- A guard code: above the range it is BACKOFF (R175, R181). -/
def guardOf (code : BitVec 2) : Guard := if code = 0 then .off else if code = 1 then .report else .backoff

/-- A channel byte (R181). -/
def chanConfigOf (b : Byte) : ChanConfig :=
  { group := (b.extractLsb' 4 4).toFin, priority := priorityOf (b.extractLsb' 2 2), guard := guardOf (b.extractLsb' 0 2) }

/-- The budget of a bank: two bytes from byte 12 on (R181). -/
def budgetOf (image : List Byte) (k : Fin 4) : Nat :=
  limitField 0 1000 (ofBe16 (imageByte image (12 + 2 * k.val)) (imageByte image (13 + 2 * k.val))).toNat

/-- The fields of an accepted image, each limited to its range (R175, R181). -/
def imageConfig (image : List Byte) : Configuration :=
  { status := .image
    markLead := (imageByte image 4).getLsbD 0
    installed := Tab.gen (fun f => (imageByte image 5).getLsbD f.val)
    latency := limitField 0 47 (imageByte image 6).toNat
    stepCode := limitField 0 3 (imageByte image 7).toNat
    clipLevel := limitField 1 24 (imageByte image 8).toNat
    countCode := limitField 0 2 (imageByte image 9).toNat
    allowance := limitField 4 15 (imageByte image 10).toNat
    shortThreshold := limitField 12 25 (imageByte image 11).toNat
    budgets := Tab.gen (budgetOf image)
    chans := Tab.gen (fun c => chanConfigOf (imageByte image (20 + c.val))) }

/-- The image or the defaults (R174, R176). -/
def loadConfig (image : List Byte) : Configuration := if imageOk image then imageConfig image else defaultConfig

/-- A step record after the start write of code 0: a mismatch sets the mismatch count to 1 (R98). -/
def startWrite (rb : Readback) (c : Chan) : StepRec :=
  if readMatches rb c 0 then StepRec.start else { StepRec.start with mismatch := 1 }

/-- A start: every record is set as power-on sets it, and start-up is in progress (R172, R173). -/
def beginStart (i : StartInputs) (s : State) : State :=
  { State.start .startUp i.straps (loadConfig i.image) s.phantom.mainGood s.phantom.auxGood s.seed s.pending with
    steps := Tab.gen (startWrite i.readback) }

/-- The reset input is asserted: the part stands as in start-up, with everything that power-on sets set (R172); the
station number and the configuration are sampled and read again only when the line is released (log entry 6). -/
def holdReset (s : State) : State :=
  State.start .held s.own s.config s.phantom.mainGood s.phantom.auxGood s.seed s.pending

/-- The port lines of the installed feeds when start-up ends (R33). -/
def readLines (lines : Tab Bool 6) (t : Tab FeedRec 6) : Tab FeedRec 6 :=
  Tab.gen (fun f =>
    let r := t.get f
    { r with lineUp := r.binding.installed && lines.get f })

/-- The part as start-up leaves it, before the work of block 0: running, port lines read, bank taken without debounce,
BOX queued (R33, R149, R170, R172). -/
def startRunning (mainGood auxGood : Bool) (lines : Tab Bool 6) (s : State) : State :=
  let t := { s with
    phase := .running
    feeds := readLines lines s.feeds
    phantom.mainGood := mainGood
    phantom.auxGood := auxGood
    phantom.lineQuiet := 20
    phantom.overload := 0 }
  ask .box { t with phantom.bank := t.lineIndex }

/-- START_UP_END: block 0 begins with the blocks' tasks (R30, R149, R172). The schedules of R81 and R165 begin with the
block start after it, so that the box's first message is BOX STATE (R170; log entry 26). -/
def startUpEnd (mainGood auxGood : Bool) (lines : Tab Bool 6) (i : BlockInputs) (s : State) : State :=
  if s.phase = .startUp then clearAhead (blockTasks i (startRunning mainGood auxGood lines s)) else s

def execPowerOn (i : StartInputs) (s : State) : Host.Outcome State Fault Refusal := .next (beginStart i s)
def execResetLine (i : StartInputs) (s : State) : Host.Outcome State Fault Refusal := .next (beginStart i s)
def execResetLineHeld (s : State) : Host.Outcome State Fault Refusal := .next (holdReset s)
def execStartUpEnd (mainGood auxGood : Bool) (lines : Tab Bool 6) (i : BlockInputs) (s : State) :
    Host.Outcome State Fault Refusal := .next (startUpEnd mainGood auxGood lines i s)

end Sys2Proof.Machine
end

