-- ==== Sys2Proof/Machine/Dispatch.lean ====
section
/-! DEFINITION. One arm for each command: its meaning. -/

namespace Sys2Proof.Machine

def exec (i : Instr) (s : State) : Host.Outcome State Fault Refusal :=
  match i with
  | .powerOn inputs => Sys2Proof.Machine.execPowerOn inputs s
  | .resetLine inputs => Sys2Proof.Machine.execResetLine inputs s
  | .startUpEnd mainGood auxGood lines inputs => Sys2Proof.Machine.execStartUpEnd mainGood auxGood lines inputs s
  | .presence e => Sys2Proof.Machine.execPresence e s
  | .invalidMessage source kind => Sys2Proof.Machine.execInvalidMessage source kind s
  | .receptionDiscarded cause => Sys2Proof.Machine.execReceptionDiscarded cause s
  | .claim e feed => Sys2Proof.Machine.execClaim e feed s
  | .release e feed => Sys2Proof.Machine.execRelease e feed s
  | .setDemand e feed first last flags gain => Sys2Proof.Machine.execSetDemand e feed first last flags gain s
  | .clearDemand e feed first last => Sys2Proof.Machine.execClearDemand e feed first last s
  | .lock e feed first last mode => Sys2Proof.Machine.execLock e feed first last mode s
  | .unlock e feed first last => Sys2Proof.Machine.execUnlock e feed first last s
  | .headroomReset e feed first last => Sys2Proof.Machine.execHeadroomReset e feed first last s
  | .tone e feed first last state => Sys2Proof.Machine.execTone e feed first last state s
  | .batchOpen e feed count => Sys2Proof.Machine.execBatchOpen e feed count s
  | .batchEntry e feed chan flags gain => Sys2Proof.Machine.execBatchEntry e feed chan flags gain s
  | .batchCommit e => Sys2Proof.Machine.execBatchCommit e s
  | .batchCancel e => Sys2Proof.Machine.execBatchCancel e s
  | .boxReset e readback => Sys2Proof.Machine.execBoxReset e readback s
  | .linkCandidate e group flags candidate locked backoff => Sys2Proof.Machine.execLinkCandidate e group flags candidate locked backoff s
  | .reply e => Sys2Proof.Machine.execReply e s
  | .channelState e => Sys2Proof.Machine.execChannelState e s
  | .boxState e => Sys2Proof.Machine.execBoxState e s
  | .transmissionAttempt => Sys2Proof.Machine.execTransmissionAttempt s
  | .lostAttempt bytesRead => Sys2Proof.Machine.execLostAttempt bytesRead s
  | .transmissionFault => Sys2Proof.Machine.execTransmissionFault s
  | .messageSent => Sys2Proof.Machine.execMessageSent s
  | .blockStart inputs => Sys2Proof.Machine.execBlockStart inputs s
  | .batchWrite => Sys2Proof.Machine.execBatchWrite s
  | .samplePeriod frame => Sys2Proof.Machine.execSamplePeriod frame s
  | .compensation c => Sys2Proof.Machine.execCompensation c s
  | .retryWrite c code => Sys2Proof.Machine.execRetryWrite c code s
  | .windowClose => Sys2Proof.Machine.execWindowClose s
  | .markEvent tick => Sys2Proof.Machine.execMarkEvent tick s
  | .enterLocked tick => Sys2Proof.Machine.execEnterLocked tick s
  | .enterHoldover cause => Sys2Proof.Machine.execEnterHoldover cause s
  | .missingMark => Sys2Proof.Machine.execMissingMark s
  | .quietCountExpiry => Sys2Proof.Machine.execQuietCountExpiry s
  | .markLineRelease => Sys2Proof.Machine.execMarkLineRelease s
  | .stationLoss station => Sys2Proof.Machine.execStationLoss station s
  | .linkEntryExpiry group source => Sys2Proof.Machine.execLinkEntryExpiry group source s
  | .batchTimeout => Sys2Proof.Machine.execBatchTimeout s
  | .settleEnd c => Sys2Proof.Machine.execSettleEnd c s
  | .shortTrip c => Sys2Proof.Machine.execShortTrip c s
  | .shedLoad => Sys2Proof.Machine.execShedLoad s
  | .bankChange => Sys2Proof.Machine.execBankChange s
  | .powerGoodChange mainGood auxGood => Sys2Proof.Machine.execPowerGoodChange mainGood auxGood s
  | .portLineChange f up => Sys2Proof.Machine.execPortLineChange f up s
  | .feedBlockSent f => Sys2Proof.Machine.execFeedBlockSent f s
  | .pairIdle => Sys2Proof.Machine.execPairIdle s
  | .resetLineHeld => Sys2Proof.Machine.execResetLineHeld s

end Sys2Proof.Machine
end

