-- ==== Sys2Proof/Safety.lean ====
section
/-! DEFINITION. The words in which the statements speak of commands, and the laws of the part: the properties of a state
that the manual calls laws, or gives as the range of a record, and that every step keeps. -/

namespace Sys2Proof

/-! ## Kinds of command -/

/-- The commands that begin a start or hold the part in reset (R172). -/
def Instr.isStart : Instr → Bool
  | .powerOn _ | .resetLine _ | .resetLineHeld => true
  | _ => false

/-- The source of a heard message (R11). -/
def Instr.sender : Instr → Option Station
  | .presence e | .claim e _ | .release e _ | .setDemand e _ _ _ _ _ | .clearDemand e _ _ _ | .lock e _ _ _ _
  | .unlock e _ _ _ | .headroomReset e _ _ _ | .tone e _ _ _ _ | .batchOpen e _ _ | .batchEntry e _ _ _ _
  | .batchCommit e | .batchCancel e | .boxReset e _ | .linkCandidate e _ _ _ _ _ | .reply e | .channelState e
  | .boxState e => some e.source
  | .invalidMessage source _ => some source
  | _ => none

/-- The envelope of a desk request other than PRESENCE (R12). -/
def Instr.deskRequest : Instr → Option Envelope
  | .claim e _ | .release e _ | .setDemand e _ _ _ _ _ | .clearDemand e _ _ _ | .lock e _ _ _ _ | .unlock e _ _ _
  | .headroomReset e _ _ _ | .tone e _ _ _ _ | .batchOpen e _ _ | .batchEntry e _ _ _ _ | .batchCommit e
  | .batchCancel e | .boxReset e _ => some e
  | _ => none

/-- The envelope, kind code and feed byte of a request that is put to the holder check (R38, R178). -/
def Instr.holderCheck : Instr → Option (Envelope × Byte × Byte)
  | .release e f => some (e, 3, f)
  | .setDemand e f _ _ _ _ => some (e, 4, f)
  | .clearDemand e f _ _ => some (e, 5, f)
  | .lock e f _ _ _ => some (e, 6, f)
  | .unlock e f _ _ => some (e, 7, f)
  | .headroomReset e f _ _ => some (e, 8, f)
  | .tone e f _ _ _ => some (e, 9, f)
  | .batchOpen e f _ => some (e, 10, f)
  | _ => none

/-- The envelope, kind code and range bytes of a request whose range is checked (R53, R110, R117). -/
def Instr.rangeCheck : Instr → Option (Envelope × Byte × Byte × Byte × Byte)
  | .setDemand e f a b _ _ => some (e, 4, f, a, b)
  | .clearDemand e f a b => some (e, 5, f, a, b)
  | .lock e f a b _ => some (e, 6, f, a, b)
  | .unlock e f a b => some (e, 7, f, a, b)
  | .headroomReset e f a b => some (e, 8, f, a, b)
  | .tone e f a b _ => some (e, 9, f, a, b)
  | _ => none

namespace Machine

/-! ## Requests -/

/-- The part hears the request and takes it: it can hear, the source is not its own number, and the target is its own
number or ALL (R11, R12). -/
def Takes (e : Envelope) (s : State) : Prop := s.canHear = true ∧ e.source ≠ s.own ∧ forUs e s = true

/-- The state in which a desk request is decided: its own hearing has been recorded (R11, R13). -/
def heard (e : Envelope) (s : State) : State := recordHearing e.source .desk (messageEnded s)

/-- The outcome stands in the station's slot, other slots are as they were, and REPLY is queued (R164). -/
def Replied (st : Station) (a : Answer) (s t : State) : Prop :=
  t.report.slots = s.report.slots.set st (some a) ∧ Key.reply st ∈ t.report.keys

/-- The state with the outcome placed and nothing else changed. -/
def answered (st : Station) (a : Answer) (s : State) : State :=
  { s with
    report.slots := s.report.slots.set st (some a)
    report.keys := if Key.reply st ∈ s.report.keys then s.report.keys else s.report.keys ++ [.reply st] }

/-- The feed byte names a feed BOUND to the source (R38). -/
def HeldBy (e : Envelope) (feed : Byte) (f : Feed) (s : State) : Prop := feedOf feed = some f ∧ holds s f e.source = true

/-- The feed byte names no feed BOUND to the source (R38). -/
def NotHeld (e : Envelope) (feed : Byte) (s : State) : Prop := ∀ f, feedOf feed = some f → holds s f e.source = false

/-- The channel lies in the range (R53). -/
abbrev InRange (first last : Byte) (c : Chan) : Prop := first.toNat ≤ c.val + 1 ∧ c.val + 1 ≤ last.toNat

/-- The range is acceptable (R53). -/
abbrev RangeOk (first last : Byte) : Prop := 1 ≤ first.toNat ∧ first.toNat ≤ last.toNat ∧ last.toNat ≤ 32

/-- A feed is bound: its record has this binding, the other records stand, and nothing else changes but the outcome placed
and the keys queued (R31, R34). -/
def BoundWith (f : Feed) (b : Binding) (st : Station) (a : Answer) (s t : State) : Prop :=
  t = { s with
      feeds := s.feeds.set f { s.feeds.get f with binding := b }
      report := { s.report with slots := s.report.slots.set st (some a), keys := t.report.keys } }
    ∧ Key.reply st ∈ t.report.keys ∧ Key.box ∈ t.report.keys

/-- The batch takes this value and an outcome is placed; nothing else changes but the keys queued (R161, R164). -/
def BatchAnswered (b : Batch) (st : Station) (a : Answer) (s t : State) : Prop :=
  t = { s with
      batch := b
      report := { s.report with slots := s.report.slots.set st (some a), keys := t.report.keys } }
    ∧ Key.reply st ∈ t.report.keys ∧ Key.box ∈ t.report.keys

/-- A demand request carried out on a feed botches the batch that its source is loading there (R155). -/
def BotchedBy (st : Station) (f : Feed) (s t : State) : Prop :=
  (∀ b age, s.batch.record = .loading b age → b.owner = st → b.feed = f →
      t.batch = ⟨.idle, s.batch.flags ||| 2#4⟩ ∧ Key.box ∈ t.report.keys)
    ∧ ((∀ b age, s.batch.record = .loading b age → ¬ (b.owner = st ∧ b.feed = f)) → t.batch = s.batch)

/-- A standing batch is discarded where the condition holds, and stays as it is elsewhere (R160). -/
def DiscardedWhere (p : BatchBody → Prop) (s t : State) : Prop :=
  (∀ b, s.batch.record.body = some b → p b →
      t.batch = ⟨.idle, s.batch.flags ||| 8#4⟩ ∧ Key.box ∈ t.report.keys)
    ∧ ((∀ b, s.batch.record.body = some b → ¬ p b) → t.batch = s.batch)

/-- The lock record lets a LOCK (or an UNLOCK) naming a feed pass (R118, R120). -/
def LockPasses (f : Feed) (unlocking : Bool) (l : Lock) : Prop :=
  l = .opened ∨ (∃ n, l = .held f n) ∨ (unlocking = false ∧ ∃ n, l = .fixed f n)

/-- The lock records become these; each that changes makes its channel dirty, sets its LOCK bit and asks for CHANNEL
(R116). -/
def LocksBecome (new : Chan → Lock) (s t : State) : Prop :=
  ∀ c, t.gain.recs.get c = { s.gain.recs.get c with lock := new c }
    ∧ t.demand.get c
      = { s.demand.get c with dirty := (s.demand.get c).dirty || decide ((s.gain.recs.get c).lock ≠ new c) }
    ∧ t.report.events.get c
      = (if (s.gain.recs.get c).lock = new c then s.report.events.get c else s.report.events.get c ||| 8#9)
    ∧ ((s.gain.recs.get c).lock ≠ new c → Key.channel c ∈ t.report.keys)

/-- The entry that a write creates where the feed has none (R54). -/
def freshEntry (s : State) (c : Chan) : Entry :=
  { gain := min 126 (s.settled c + (s.gain.recs.get c).beff), mute := false, phantom := false
    clamped := decide (126 < s.settled c + (s.gain.recs.get c).beff), last := s.timing.counter }

/-- The place of a priority in the admission pass (R142). -/
def Priority.place : Priority → Nat
  | .critical => 0
  | .high => 1
  | .low => 2

/-- The place of the channel's priority. -/
def State.place (s : State) (c : Chan) : Nat := Priority.place (s.config.chans.get c).priority

/-- The channel is chosen as shed victim before another: lower priority, or of equal priority the higher number
(R144). -/
def ShedsBefore (s : State) (c d : Chan) : Prop := s.place d < s.place c ∨ (s.place c = s.place d ∧ d < c)

/-- The record of a channel that has been shed with a cause (R144). -/
def shedRecord (cause : OffCause) (r : PhantomRec) : PhantomRec :=
  { r with state := .falling 250, cause := cause, persist := 0, sheds := r.sheds + 1 }

/-- The channel waits for power: SHED or WAITING (R142). -/
def Queued (r : PhantomRec) : Prop := r.state = .shed ∨ ∃ b, r.state = .waiting b

/-- The channel is taken by an admission pass before another (R142). -/
def AdmittedBefore (s : State) (c d : Chan) : Prop :=
  s.place c < s.place d
    ∨ (s.place c = s.place d
      ∧ (((s.phantom.recs.get c).state = .shed ∧ (s.phantom.recs.get d).state ≠ .shed)
        ∨ (((s.phantom.recs.get c).state = .shed ↔ (s.phantom.recs.get d).state = .shed) ∧ c < d)))

/-- No missing mark falls due strictly before `d` more ticks have passed (R21). -/
def NoMissBefore (d : Nat) (t : Timing) : Prop :=
  t.lastOffset = none ∨ ∀ k, 36864 + 24576 * k ≤ t.tickCount ∨ t.tickCount + d ≤ 36864 + 24576 * k

/-- How many missing marks fall due within `d` more ticks: at 36,864 and each further 24,576, up to where the tick count
stops, and none before the first mark (R21). -/
def missedWithin (d : Nat) (t : Timing) : Nat :=
  if t.lastOffset = none then 0
  else (List.range 682).countP (fun k =>
    decide (t.tickCount < 36864 + 24576 * k ∧ 36864 + 24576 * k ≤ min (t.tickCount + d) 16777215))

/-- The timing unit after `d` more ticks with no mark event: the missing marks that fall due are taken by clock state, and
the block lengths stay (R19 to R22, R23, R26, R27). -/
def ticked (d : Nat) (t : Timing) : Timing :=
  let missed := missedWithin d t
  { t with
    clock := if t.clock = .locked ∧ 0 < missed ∧ 3 ≤ t.badCount + missed then .holdover else t.clock
    lockCount := if t.clock = .acquiring ∧ 0 < missed then 0 else t.lockCount
    badCount := if t.clock = .locked ∧ 0 < missed then min 3 (t.badCount + missed) else t.badCount
    tickCount := min (t.tickCount + d) 16777215
    blockTicks := t.blockTicks + d
    driveLeft := t.driveLeft.bind (fun n => if d < n then some (n - d) else none) }

/-- A block length set from a mark (R25). -/
def setFrom (n : Int) : Nat := (max 24552 (min 24600 n)).toNat

/-- The class order of the keys: REPLY, LINK, CHANNEL, BOX (R162). -/
def Key.rank : Key → Nat
  | .reply _ => 0
  | .link _ => 1
  | .channel _ => 2
  | .box => 3

/-- An attempt that has just begun on a key: the content is that of the state at this moment, and nothing has been set
again since (R163). -/
def freshAttempt (s : State) (k : Key) : Sending :=
  { snap :=
      { key := k, bytes := keyMessage s k
        bits := match k with
          | .channel c => s.report.events.get c
          | _ => 0
        flags := match k with
          | .box => s.batch.flags
          | _ => 0 }
    again := 0, againFlags := 0, newer := false }

/-- What becomes of a phantom record whose channel becomes requested (R134). -/
def afterWant (r : PhantomRec) : PhantomRec :=
  match r.state with
  | .off => { r with state := .waiting true }
  | _ => r

/-- What becomes of a phantom record whose channel ceases to be requested (R134). -/
def afterWithdrawal (r : PhantomRec) : PhantomRec :=
  match r.state with
  | .waiting _ => { r with state := .off }
  | .shed => { r with state := .off, cause := .released }
  | .rising _ => { r with state := .falling 250, cause := .released }
  | .on => { r with state := .falling 250, cause := .released }
  | .fault => { r with state := .off, cause := .reset }
  | .falling _ => r
  | .off => r

/-- Each phantom record has answered the change of its channel's requested condition between two states (R51, R134). -/
def PhantomFollows (s t : State) : Prop :=
  ∀ c, (s.requested c = t.requested c → t.phantom.recs.get c = s.phantom.recs.get c)
    ∧ (s.requested c = false → t.requested c = true → t.phantom.recs.get c = afterWant (s.phantom.recs.get c))
    ∧ (s.requested c = true → t.requested c = false → t.phantom.recs.get c = afterWithdrawal (s.phantom.recs.get c))

/-- The keys asked for between two states: those that stood keep their places, and the others asked for come after them
(R162). -/
def KeysAsked (asked : Key → Prop) (s t : State) : Prop :=
  s.report.keys <+: t.report.keys ∧ ∀ k, k ∈ t.report.keys ↔ k ∈ s.report.keys ∨ asked k

/-- The PHANTOM CHANGE bit of a channel whose phantom state differs between two states (R134, R166). -/
def phantomChangeBit (s t : State) (c : Chan) : BitVec 9 :=
  if (t.phantom.recs.get c).state = (s.phantom.recs.get c).state then 0 else 16

/-- The LOCK bit of a channel whose lock record differs between two states (R116, R166). -/
def lockBit (s t : State) (c : Chan) : BitVec 9 :=
  if (t.gain.recs.get c).lock = (s.gain.recs.get c).lock then 0 else 8

/-- A channel's switch changes, and with it the allocated load (R133, R165). -/
def LoadMoves (s t : State) : Prop := ∃ c, ¬ (c ∈ s.poweredChannels ↔ c ∈ t.poweredChannels)

/-- The four checks of R174, on the bytes as the loader reads them (R181). -/
def ImageGood (image : List Byte) : Prop :=
  imageByte image 0 = 0x53 ∧ imageByte image 1 = 0x32 ∧ imageByte image 2 = 54 ∧ imageByte image 3 = 1
    ∧ crc16 ((List.range 52).map (imageByte image)) = imageByte image 52 ++ imageByte image 53

/-- Every record as power-on sets it (R1, R9, R15, R30, R33, R61, R82, R98, R111, R116, R125, R149, R152, R170); the
mismatch counts are the start write's. -/
def AsAtPowerOn (t : State) : Prop :=
  (t.link.pair = .waiting ∧ t.link.clash = false ∧ t.link.errors = 0
      ∧ ∀ st, t.link.stations.get st = if st = t.own then .self else .absent)
    ∧ (t.timing.clock = .free ∧ t.timing.counter = 0 ∧ t.timing.blockLen = 24576 ∧ t.timing.nextLen = 24576
      ∧ t.timing.tickCount = 0 ∧ t.timing.quietCount = 0 ∧ t.timing.lastOffset = none ∧ t.timing.lockCount = 0
      ∧ t.timing.badCount = 0 ∧ t.timing.begun = 0 ∧ t.timing.blockTicks = 0 ∧ t.timing.slip = false
      ∧ t.timing.driveLeft = none)
    ∧ (∀ f, (t.feeds.get f).binding = if t.config.installed.get f then .free else .absent)
    ∧ (∀ c, (t.demand.get c).dirty = false
      ∧ ∀ f, (t.demand.get c).entries.get f = none ∧ (t.demand.get c).view.get f = none)
    ∧ (∀ c, (t.gain.recs.get c).target = 0 ∧ (t.gain.recs.get c).beff = 0 ∧ (t.gain.recs.get c).lock = .opened
      ∧ ∀ f, (t.gain.recs.get c).trims.get f = ⟨0, false⟩)
    ∧ (t.gain.table = [] ∧ t.gain.full = false ∧ ∀ g, t.gain.announce.get g = ⟨none, none, 0⟩)
    ∧ (∀ c, (t.steps.get c).applied = 0 ∧ (t.steps.get c).moving = false ∧ (t.steps.get c).pending = none
      ∧ (t.steps.get c).age = 8 ∧ (t.steps.get c).front = .good ∧ (t.steps.get c).code = 0)
    ∧ (∀ f, (∀ c, (t.paths.get f).tone.get c = false ∧ (t.paths.get f).flags.get c = ⟨false, false, false, false⟩)
      ∧ (t.paths.get f).port = [] ∧ (t.paths.get f).rows = [])
    ∧ (t.head.windowAge = 0 ∧ ∀ c, t.head.recs.get c = ⟨0, 0, 0⟩)
    ∧ (∀ c, t.phantom.recs.get c = ⟨.off, .none, 0, 0, 0, 0, 0⟩)
    ∧ t.batch = ⟨.idle, 0⟩
    ∧ (t.report.keys = [] ∧ (∀ st, t.report.slots.get st = none) ∧ ∀ c, t.report.events.get c = 0)
    ∧ t.lockLine = false ∧ t.alertLine = false ∧ t.activeLine = false ∧ t.ahead = []

/-! ## Laws -/

/-- A key that the list may hold: no REPLY to the part's own number, no LINK of a group that this box does not use
(R162). -/
def KeyAllowed (s : State) : Key → Prop
  | .reply st => st ≠ s.own
  | .link g => s.used g = true
  | .channel _ => True
  | .box => True

/-- R162, R164: the list never holds a key twice, and only keys that exist; no outcome stands for the part itself. -/
def KeyLaw (s : State) : Prop :=
  s.report.keys.Nodup ∧ (∀ k ∈ s.report.keys, KeyAllowed s k)
    ∧ (∀ x, s.link.pair = .sending x → KeyAllowed s x.snap.key)
    ∧ s.report.slots.get s.own = none
    ∧ (∀ b, s.batch.record.body = some b → b.owner ≠ s.own)

/-- R139: the allocated load never exceeds the budget of the bank in force. -/
def LoadLaw (s : State) : Prop := s.load ≤ s.budget ∧ (s.running = true ∨ s.poweredChannels = [])

/-- The feed has a holder: it is BOUND or ORPHANED (R31). -/
def Binding.hasHolder : Binding → Bool
  | .bound _ _ | .orphaned _ _ => true
  | .absent | .free => false

/-- R48, R152, R159: entries only on feeds with a holder; a standing batch is on a feed BOUND to its owner, and never
holds more entries than its declared count. -/
def HoldLaw (s : State) : Prop :=
  (∀ c f, (s.entry c f).isSome = true → (s.feeds.get f).binding.hasHolder = true)
    ∧ (∀ b, s.batch.record.body = some b →
        holds s b.feed b.owner = true ∧ 1 ≤ b.count ∧ b.count ≤ 64 ∧ b.items.length ≤ b.count)
    ∧ (∀ b, s.batch.record = .committing b → b.items.length = b.count)
    ∧ (∀ b age, s.batch.record = .loading b age → age < 100)

/-- A whole dB from 0 to 63 dB, in half-dB steps. -/
abbrev WholeDb (g : Int) : Prop := 0 ≤ g ∧ g ≤ 126 ∧ g % 2 = 0

/-- A backoff: 0, 3, 6, 9, 12, 15 or 18 dB, in half-dB steps. -/
abbrev BackoffValue (b : Int) : Prop := 0 ≤ b ∧ b ≤ 36 ∧ b % 6 = 0

/-- A requested gain: -24.0 to +63.0 dB (R47). -/
def EntryInRange (o : Option Entry) : Prop := ∀ e, o = some e → -48 ≤ e.gain ∧ e.gain ≤ 126

/-- R84, R86, R94, R97: a step record in its ranges; a pending step is 1 dB from A. -/
def StepInRange (r : StepRec) : Prop :=
  WholeDb r.applied
    ∧ (∀ p, r.pending = some p →
        WholeDb p.value ∧ (p.value = r.applied + 2 ∨ p.value = r.applied - 2) ∧ p.countdown ≤ 47)
    ∧ r.age ≤ 8 ∧ r.mismatch ≤ 1 ∧ (∀ n, r.front = .fault n → n < 100 ∧ r.mismatch = 0 ∧ r.moving = false)

/-- R64, R71: a resolution record in its ranges. -/
def ResInRange (r : ResRec) : Prop :=
  WholeDb r.target ∧ BackoffValue r.beff ∧ (∀ g, r.lock.frozen = some g → WholeDb g)
    ∧ ∀ f, -48 ≤ (r.trims.get f).count ∧ (r.trims.get f).count ≤ 48

/-- R47, R64, R71, R84, R125 and section 5.7: every gain of the part lies in its range. -/
def GainLaw (s : State) : Prop :=
  (∀ c, StepInRange (s.steps.get c)) ∧ (∀ c, ResInRange (s.gain.recs.get c))
    ∧ (∀ c, BackoffValue (s.head.recs.get c).backoff)
    ∧ (∀ c f, EntryInRange ((s.demand.get c).entries.get f) ∧ EntryInRange ((s.demand.get c).view.get f))
    ∧ (∀ x ∈ s.gain.table, BackoffValue x.backoff ∧ (∀ g, x.candidate = some g → WholeDb g)
        ∧ (∀ g, x.locked = some g → WholeDb g))
    ∧ s.config.latency ≤ 47

/-- R116, R118, R119: the settled analog gain of a HELD or FIXED channel is its frozen gain, and its target is that gain
too, or the resolution that makes it so is due. -/
def LockLaw (s : State) : Prop :=
  ∀ c g, (s.gain.recs.get c).lock.frozen = some g →
    s.settled c = g ∧ ((s.demand.get c).dirty = true ∨ (s.gain.recs.get c).target = g)

/-- Section 1.5, R15: SELF is the part's own entry and no other; an age is below 200. -/
def StationLaw (s : State) : Prop :=
  ∀ st, (s.link.stations.get st = .self ↔ st = s.own)
    ∧ ∀ role age, s.link.stations.get st = .present role age → age < 200

/-- A block length in force: 24,552 to 24,600 ticks (R25). -/
abbrev LengthInRange (n : Nat) : Prop := 24552 ≤ n ∧ n ≤ 24600

/-- R17, R20 to R27: the timing unit's items in their ranges, and the nominal length outside LOCKED and HOLDOVER. -/
def TimingLaw (s : State) : Prop :=
  LengthInRange s.timing.blockLen ∧ LengthInRange s.timing.nextLen
    ∧ (s.timing.clock = .free ∨ s.timing.clock = .acquiring →
        s.timing.blockLen = nominal ∧ s.timing.nextLen = nominal)
    ∧ s.timing.tickCount ≤ tickLimit ∧ s.timing.quietCount ≤ 65535 ∧ s.timing.begun ≤ 48
    ∧ s.timing.lockCount ≤ 16 ∧ (s.timing.clock = .acquiring → s.timing.lockCount < 16)
    ∧ s.timing.badCount ≤ 3 ∧ (s.timing.clock = .locked → s.timing.badCount < 3)
    ∧ (∀ e, s.timing.lastOffset = some e → -12288 ≤ e ∧ e ≤ 12287)
    ∧ (∀ n, s.timing.driveLeft = some n → n ≤ 2048)

/-- R134, R136, R148: what a phantom state says of the channel's wants and of its off cause. -/
def StateAgrees (requested : Bool) (r : PhantomRec) : Prop :=
  match r.state with
  | .off => requested = false
  | .waiting _ => requested = true
  | .rising n => requested = true ∧ r.cause = .none ∧ 1 ≤ n ∧ n ≤ 250
  | .on => requested = true ∧ r.cause = .none
  | .falling n =>
    (r.cause = .released ∨ r.cause = .shedBudget ∨ r.cause = .shedLoad ∨ r.cause = .short) ∧ 1 ≤ n ∧ n ≤ 250
  | .shed => requested = true ∧ (r.cause = .shedBudget ∨ r.cause = .shedLoad)
  | .fault => requested = true ∧ r.cause = .short

/-- R133, R134, R136, R147, R148: the phantom records agree with the wants and with their off causes, and the counts lie
in their ranges. -/
def PhantomLaw (s : State) : Prop :=
  (∀ c, StateAgrees (s.requested c) (s.phantom.recs.get c) ∧ (s.phantom.recs.get c).current ≤ 255
      ∧ (s.phantom.recs.get c).persist < 50)
    ∧ s.phantom.lineQuiet ≤ 20 ∧ s.phantom.overload < 20

/-- Section 5.7, R75 to R78: at most 32 entries, one for a pair of group and source, all younger than 50 blocks and for
groups in use; LINK TABLE FULL only while the table is full. -/
def LinkLaw (s : State) : Prop :=
  s.gain.table.length ≤ 32 ∧ (s.gain.table.map (fun x => (x.group, x.source))).Nodup
    ∧ (∀ x ∈ s.gain.table, x.age < 50 ∧ s.used x.group = true)
    ∧ (s.gain.full = true → s.gain.table.length = 32)

/-- R101, R111, R112, R114: one row for each sample period begun, whole feed blocks on a port, a port that sends only
while its line is UP, and no tone on a feed without a holder. -/
def PathInOrder (s : State) (f : Feed) : Prop :=
  let p := s.paths.get f
  let r := s.feeds.get f
  p.rows.length = (if r.binding.installed then s.timing.begun else 0)
    ∧ (∀ b ∈ p.port, b.rows.length = b.header.count)
    ∧ (r.lineUp = false ∨ s.running = false → p.port = [])
    ∧ (r.binding.installed = false → r.lineUp = false)
    ∧ (r.binding.hasHolder = false → p.tone = Tab.const false)

def PathLaw (s : State) : Prop := ∀ f, PathInOrder s f

end Machine

end Sys2Proof
end

