-- ==== Sys2Proof/Certificates/Slice0/Obligations.lean ====
section
/-! DEFINITION. The statements for the provers. `heard e s` is the state in which a request is decided: `s` with the
request's own hearing recorded. -/

open Sys2Proof Sys2Proof.Machine

/-! ## The machine -/

/-- A step runs the command at the front of the queue on the state with the queue's rest. On an empty queue the block
idles (the model's choice, log entry 3). -/
def Obligations.StepRunsFrontCommand : Prop :=
  (∀ (c : Instr) (s : State), step { s with pending := c :: s.pending } = exec c s)
    ∧ ∀ s : State, s.pending = [] → step s = .next s

/-- Every command answers a next state in every state, leaves the queue as it is, and only a start changes the station
number or the configuration (R173, R175). But for a start, a send and a box reset, no command takes a key from the list of
report keys or moves it: the old list stands at the head of the new one (R162). But for a start and a send, every event bit
and every batch flag that is set stays set (R161, R166). -/
def Obligations.EveryCommandAnswersNext : Prop :=
  ∀ (c : Instr) (s : State), ∃ t, exec c s = .next t ∧ t.pending = s.pending
    ∧ (c.isStart = false → t.own = s.own ∧ t.config = s.config)
    ∧ (c.isStart = false → c ≠ .messageSent → (∀ e rb, c ≠ .boxReset e rb) → s.report.keys <+: t.report.keys)
    ∧ (c.isStart = false → c ≠ .messageSent →
      (∀ ch i, (s.report.events.get ch).getLsbD i = true → (t.report.events.get ch).getLsbD i = true)
      ∧ ∀ i, s.batch.flags.getLsbD i = true → t.batch.flags.getLsbD i = true)

/-- The state after reset stands as power-on sets it, in start-up, for its station number and configuration (both DESIGN
CHOICE, log entries 4 and 5). -/
def Obligations.ResetStandsAsAtPowerOn : Prop :=
  AsAtPowerOn State.reset ∧ State.reset.phase = .startUp ∧ ∀ c, (State.reset.steps.get c).mismatch = 0

/-- The laws hold at reset. -/
def Obligations.LawsHoldAtReset : Prop :=
  KeyLaw State.reset ∧ LoadLaw State.reset ∧ HoldLaw State.reset ∧ GainLaw State.reset ∧ PhantomLaw State.reset
    ∧ TimingLaw State.reset ∧ StationLaw State.reset ∧ LinkLaw State.reset ∧ PathLaw State.reset ∧ LockLaw State.reset

/-! ## Laws that every step keeps -/

def Obligations.StepKeepsKeyLaw : Prop := ∀ s t : State, KeyLaw s → step s = .next t → KeyLaw t

def Obligations.StepKeepsLoadLaw : Prop := ∀ s t : State, LoadLaw s → step s = .next t → LoadLaw t

def Obligations.StepKeepsHoldLaw : Prop := ∀ s t : State, HoldLaw s → step s = .next t → HoldLaw t

def Obligations.StepKeepsGainLaw : Prop := ∀ s t : State, GainLaw s → step s = .next t → GainLaw t

/-- R133, R134, R136, R148, and R147: a channel in FAULT stays there under every command but a start, unless that command
withdraws its last want; then it is OFF, with off cause RESET. -/
def Obligations.StepKeepsPhantomLaw : Prop :=
  (∀ s t : State, PhantomLaw s → step s = .next t → PhantomLaw t)
    ∧ ∀ (m : Instr) (s t : State) (c : Chan), m.isStart = false → exec m s = .next t →
      (s.phantom.recs.get c).state = .fault →
      (t.phantom.recs.get c).state = .fault
        ∨ (s.requested c = true ∧ t.requested c = false ∧ (t.phantom.recs.get c).state = .off
          ∧ (t.phantom.recs.get c).cause = .reset)

def Obligations.StepKeepsTimingLaw : Prop := ∀ s t : State, TimingLaw s → step s = .next t → TimingLaw t

def Obligations.StepKeepsStationLaw : Prop := ∀ s t : State, StationLaw s → step s = .next t → StationLaw t

def Obligations.StepKeepsLinkLaw : Prop := ∀ s t : State, LinkLaw s → step s = .next t → LinkLaw t

def Obligations.StepKeepsPathLaw : Prop := ∀ s t : State, PathLaw s → step s = .next t → PathLaw t

/-- R162: the key law bounds the list to 79 keys. -/
def Obligations.KeyLawBoundsTheList : Prop := ∀ s : State, KeyLaw s → s.report.keys.length ≤ 79

/-- R121: a FIXED lock remains FIXED, with its frozen gain, under every command but a start. A LOCK of that one channel
naming its feed is accepted without change, and an UNLOCK of that one channel is refused FIXED; wider ranges, where
another channel may refuse first, are LockIsDecidedWhole and UnlockIsDecidedWhole. -/
def Obligations.FixedLockRemains : Prop :=
  (∀ (m : Instr) (s t : State) (c : Chan) (f : Feed) (g : Int), m.isStart = false →
      (s.gain.recs.get c).lock = .fixed f g → exec m s = .next t → (t.gain.recs.get c).lock = .fixed f g)
    ∧ (∀ (e : Envelope) (feed n mode : Byte) (s : State) (c : Chan) (f : Feed) (g : Int), Takes e s →
      HeldBy e feed f (heard e s) → chanOf n = some c → mode = 0 ∨ mode = 1 → (s.gain.recs.get c).lock = .fixed f g →
      exec (.lock e feed n n mode) s = .next (answered e.source (plain 6 .done e.tag) (heard e s)))
    ∧ (∀ (e : Envelope) (feed n : Byte) (s : State) (c : Chan) (f h : Feed) (g : Int), Takes e s →
      HeldBy e feed h (heard e s) → chanOf n = some c → (s.gain.recs.get c).lock = .fixed f g →
      exec (.unlock e feed n n) s
        = .next (answered e.source { plain 7 .fixed e.tag with value := n } (heard e s)))

/-- R84: outside a start, A changes only at the compensation of the channel's pending step, to that step's value. R119: a
lock stands at the channel's settled gain through every step of the machine; so while a channel is HELD or FIXED no step is
issued on it, and its A moves only by the completion of the step that was pending when the lock was taken, to the frozen
gain. -/
def Obligations.AppliedGainMovesByCompensation : Prop :=
  (∀ (m : Instr) (s t : State) (c : Chan), m.isStart = false → exec m s = .next t →
    (t.steps.get c).applied = (s.steps.get c).applied
      ∨ ∃ p, (s.steps.get c).pending = some p ∧ (t.steps.get c).applied = p.value ∧ (t.steps.get c).pending = none)
  ∧ (∀ s t : State, LockLaw s → step s = .next t → LockLaw t)
  ∧ ∀ (m : Instr) (s t : State) (c : Chan) (g : Int), m.isStart = false → LockLaw s → exec m s = .next t →
    (s.gain.recs.get c).lock.frozen = some g →
    ((s.steps.get c).pending = none →
      (t.steps.get c).pending = none ∧ (t.steps.get c).applied = (s.steps.get c).applied)
    ∧ ∀ p, (s.steps.get c).pending = some p → p.value = g
      ∧ ((∃ q, (t.steps.get c).pending = some q ∧ q.value = g
          ∧ (t.steps.get c).applied = (s.steps.get c).applied)
        ∨ ((t.steps.get c).pending = none ∧ (t.steps.get c).applied = g))

/-! ## Starts -/

/-- R172, R173, R98, R61, R82, R149, R170: power-on and the release of the reset line set every record, from the straps,
the image and the readbacks of the start writes; while the line is held the part stands as it does in start-up. -/
def Obligations.StartsSetEveryRecord : Prop :=
  (∀ (i : StartInputs) (s : State), ∃ t, exec (.powerOn i) s = .next t ∧ exec (.resetLine i) s = .next t
      ∧ t.phase = .startUp ∧ t.own = i.straps ∧ t.config = loadConfig i.image ∧ AsAtPowerOn t
      ∧ (∀ c, (t.steps.get c).mismatch = if readsBack i.readback c 0 = 0 then 0 else 1)
      ∧ t.phantom.mainGood = s.phantom.mainGood ∧ t.phantom.auxGood = s.phantom.auxGood)
    ∧ ∀ s : State, ∃ t, exec .resetLineHeld s = .next t ∧ t.phase = .held ∧ AsAtPowerOn t
      ∧ ∀ c, (t.steps.get c).mismatch = 0

/-- R174, R175, R176, R181: an image that passes the four checks gives its fields, each limited to its range; any other
is set aside for the defaults. -/
def Obligations.ConfigurationFromImage : Prop :=
  (∀ image : List Byte, ImageGood image →
      (loadConfig image).status = .image
      ∧ (loadConfig image).markLead = (imageByte image 4).getLsbD 0
      ∧ (∀ f, (loadConfig image).installed.get f = (imageByte image 5).getLsbD f.val)
      ∧ (loadConfig image).latency = min 47 (imageByte image 6).toNat
      ∧ (loadConfig image).stepCode = min 3 (imageByte image 7).toNat
      ∧ (loadConfig image).clipLevel = max 1 (min 24 (imageByte image 8).toNat)
      ∧ (loadConfig image).countCode = min 2 (imageByte image 9).toNat
      ∧ (loadConfig image).allowance = max 4 (min 15 (imageByte image 10).toNat)
      ∧ (loadConfig image).shortThreshold = max 12 (min 25 (imageByte image 11).toNat)
      ∧ (∀ k : Fin 4, (loadConfig image).budgets.get k
          = min 1000 (256 * (imageByte image (12 + 2 * k.val)).toNat + (imageByte image (13 + 2 * k.val)).toNat))
      ∧ ∀ c : Chan,
          let b := (imageByte image (20 + c.val)).toNat
          let r := (loadConfig image).chans.get c
          r.group.val = b / 16
          ∧ r.priority = (if b / 4 % 4 = 0 then .critical else if b / 4 % 4 = 1 then .high else .low)
          ∧ r.guard = (if b % 4 = 0 then .off else if b % 4 = 1 then .report else .backoff))
    ∧ ∀ image : List Byte, ¬ ImageGood image →
      let d := loadConfig image
      d.status = .defaults ∧ d.markLead = false ∧ (∀ f, d.installed.get f = true) ∧ d.latency = 0 ∧ stepInterval d = 1
      ∧ d.clipLevel = 2 ∧ countRule d = 4 ∧ d.allowance = 10 ∧ d.shortThreshold = 14 ∧ d.budgets.list = [0, 160, 400, 400]
      ∧ ∀ c, d.chans.get c = ⟨0, .high, .report⟩

/-- R30, R32, R98, R137, R140, R145, R149, R170, R172: START_UP_END completes in every state that stands in start-up as
power-on sets it, and after POWER_ON and RESET_LINE the part stands so. Block 0 begins: the port lines, the bank and the
monitors are read, the restore writes of R98 are made, and BOX is queued, with no other key but those of the channels that
a second mismatch puts in FAULT (the schedules of R81 and R165 begin later: log entry 26). The clock state is FREE, but
ACQUIRING where the part's own mark of block 0 falls (R19, R22). -/
def Obligations.StartUpEndBeginsBlockZero : Prop :=
  (∀ (i : StartInputs) (s₀ s : State), exec (.powerOn i) s₀ = .next s ∨ exec (.resetLine i) s₀ = .next s →
      s.phase = .startUp ∧ AsAtPowerOn s)
    ∧ ∀ (s : State) (mainGood auxGood : Bool) (lines : Tab Bool 6) (b : BlockInputs),
      s.phase = .startUp → AsAtPowerOn s →
      let u := s.timing
      let faulty := fun c => (s.steps.get c).mismatch ≠ 0 ∧ readsBack b.readback c 0 ≠ 0
      ∃ t, exec (.startUpEnd mainGood auxGood lines b) s = .next t
        ∧ t = { s with
            phase := .running, timing := t.timing, feeds := t.feeds, steps := t.steps, phantom := t.phantom
            report := { s.report with keys := t.report.keys, events := t.report.events }, seed := t.seed }
        ∧ t.timing = (if s.config.markLead = true ∧ b.markLine = false
            then { u with clock := .acquiring, lastOffset := some 0, driveLeft := some 2048 } else u)
        ∧ (∀ f, t.feeds.get f
            = { s.feeds.get f with lineUp := s.config.installed.get f && lines.get f })
        ∧ (∀ c, t.steps.get c = { s.steps.get c with
              mismatch := 0, code := if (s.steps.get c).mismatch = 0 then (s.steps.get c).code else 0
              front := (t.steps.get c).front }
          ∧ ((t.steps.get c).front = .fault 0 ↔ faulty c) ∧ ((t.steps.get c).front = .good ↔ ¬ faulty c)
          ∧ ((t.report.events.get c).getLsbD 8 = true ↔ faulty c))
        ∧ t.phantom.bank.val = (if mainGood then 2 else 0) + (if auxGood then 1 else 0)
        ∧ t.phantom.mainGood = mainGood ∧ t.phantom.auxGood = auxGood ∧ t.phantom.lineQuiet = 20
        ∧ t.phantom.overload = (if 8 * t.budget < t.measuredTotal then 1 else 0)
        ∧ (∀ c, t.phantom.recs.get c = { s.phantom.recs.get c with current := min 255 (b.monitors.get c) })
        ∧ ∀ k, k ∈ t.report.keys ↔ k = .box ∨ ∃ c, k = .channel c ∧ faulty c

/-- R172: in start-up, and while the reset line is held, nothing but a start, the end of start-up and the levels of the
power-good pins changes the part (the model's reading, log entry 28). -/
def Obligations.NothingElseActsBeforeStartUpEnds : Prop :=
  ∀ (c : Instr) (s : State), s.running = false → c.isStart = false →
    (∀ mainGood auxGood lines i, c ≠ .startUpEnd mainGood auxGood lines i) →
    (∀ mainGood auxGood, c ≠ .powerGoodChange mainGood auxGood) → exec c s = .next s

/-! ## The Stage Link -/

/-- R11, R16, R12: a message that is not heard changes nothing (log entries 20 and 28); one that bears the part's own
number puts the part in CLASH and goes no further; a desk request for another station is heard for presence alone. -/
def Obligations.MessagesThatGoNoFurther : Prop :=
  (∀ (m : Instr) (st : Station) (s : State), m.sender = some st → s.canHear = false → exec m s = .next s)
    ∧ (∀ (m : Instr) (s : State), m.sender = some s.own → s.canHear = true →
      exec m s = .next { s with link := { s.link with pair := .ended, clash := true } })
    ∧ ∀ (m : Instr) (e : Envelope) (s : State), m.deskRequest = some e → s.canHear = true → e.source ≠ s.own →
      forUs e s = false → exec m s = .next (heard e s)

/-- R13, R36, R42: a PRESENCE makes its source's entry PRESENT, a desk of age 0; an arrival resumes every feed that stands
ORPHANED with it as holder, and nothing else changes but the report of it. -/
def Obligations.PresenceIsRecorded : Prop :=
  ∀ (e : Envelope) (s : State), s.canHear = true → e.source ≠ s.own →
    ∃ t, exec (.presence e) s = .next t
      ∧ t = { s with
          link := { s.link with pair := .ended, stations := s.link.stations.set e.source (.present .desk 0) }
          feeds := t.feeds
          report := { s.report with keys := t.report.keys } }
      ∧ (∀ f since, (s.feeds.get f).binding = .orphaned e.source since →
          (s.link.stations.get e.source = .absent ∨ ∃ r, s.link.stations.get e.source = .lost r) →
          t.feeds.get f = { s.feeds.get f with binding := .bound e.source since } ∧ Key.box ∈ t.report.keys)
      ∧ (∀ f, (∀ since, (s.feeds.get f).binding ≠ .orphaned e.source since) → t.feeds.get f = s.feeds.get f)
      ∧ ((∃ r age, s.link.stations.get e.source = .present r age) → t.feeds = s.feeds ∧ t.report = s.report)

/-- R11, R12, R13: REPLY, CHANNEL STATE and BOX STATE make their source PRESENT as a box and are not handed on; an invalid
message renews its source's presence by its kind and advances the link error count. An invalid message that is the arrival
of a desk resumes the feeds that stand ORPHANED with it as holder (R36); otherwise the feeds stand. -/
def Obligations.OtherMessagesAreHeard : Prop :=
  (∀ (e : Envelope) (s : State), s.canHear = true → e.source ≠ s.own →
      let t := { s with
        link := { s.link with pair := .ended, stations := s.link.stations.set e.source (.present .box 0) } }
      exec (.reply e) s = .next t ∧ exec (.channelState e) s = .next t ∧ exec (.boxState e) s = .next t)
    ∧ ∀ (st : Station) (kind : Byte) (s : State), s.canHear = true → st ≠ s.own →
      ∃ t, exec (.invalidMessage st kind) s = .next t
        ∧ t.link = { s.link with
            pair := .ended
            stations := s.link.stations.set st
              (.present (if kind = 32 ∨ kind = 33 ∨ kind = 34 ∨ kind = 35 then .box else .desk) 0)
            errors := s.link.errors + 1 }
        ∧ t = { s with link := t.link, feeds := t.feeds, report := { s.report with keys := t.report.keys } }
        ∧ (let arrives := ¬ (kind = 32 ∨ kind = 33 ∨ kind = 34 ∨ kind = 35)
            ∧ (s.link.stations.get st = .absent ∨ ∃ r, s.link.stations.get st = .lost r)
          (∀ f since, arrives → (s.feeds.get f).binding = .orphaned st since →
            t.feeds.get f = { s.feeds.get f with binding := .bound st since } ∧ Key.box ∈ t.report.keys)
          ∧ (∀ f, (∀ since, (s.feeds.get f).binding ≠ .orphaned st since) → t.feeds.get f = s.feeds.get f)
          ∧ (¬ arrives → t.feeds = s.feeds ∧ t.report = s.report))

/-- R9, R10, R1: a message is heard on a pair that has been idle since the last one, or as what is left of a lost attempt,
and not otherwise. A discarded reception is counted once; after a framing fault the part waits for idle. The idle pair ends
that wait, and lets the next message begin after one that has ended; during a reception it is the early idle of R10 (log
entry 21). -/
def Obligations.DiscardedReceptionsAndIdle : Prop :=
  (∀ s : State, s.canHear = true ↔ s.running = true
      ∧ (s.link.pair = .idle ∨ ∃ check, s.link.pair = .receiving check))
    ∧
  (∀ (cause : ReceptionFault) (s : State), s.canHear = true →
      exec (.receptionDiscarded cause) s = .next { s with
        link := { s.link with errors := s.link.errors + 1, pair := if cause = .badCheck then .ended else .waiting } })
    ∧ (∀ s : State, s.running = true → s.link.pair = .waiting ∨ s.link.pair = .ended →
      exec .pairIdle s = .next { s with link := { s.link with pair := .idle } })
    ∧ (∀ (s : State) (x : Sending), s.link.pair = .idle ∨ s.link.pair = .sending x → exec .pairIdle s = .next s)
    ∧ ∀ (s : State) (check : Word16), s.running = true → s.link.pair = .receiving check →
      exec .pairIdle s = .next { s with link := { s.link with pair := .waiting, errors := s.link.errors + 1 } }

/-- R5, R162, R163: an attempt takes the first key by class, and within its class the one that has stood longest, with a
snapshot built from the state of that moment; none begins on a pair that is not idle, in CLASH, or with no key queued. -/
def Obligations.AttemptTakesTheFirstKey : Prop :=
  (∀ (s : State) (before after : List Key) (k : Key), s.running = true → s.link.clash = false → s.link.pair = .idle →
      s.report.keys = before ++ k :: after → (∀ x ∈ before, k.rank < x.rank) → (∀ x ∈ after, k.rank ≤ x.rank) →
      exec .transmissionAttempt s = .next { s with link := { s.link with pair := .sending (freshAttempt s k) } })
    ∧ ∀ s : State, s.link.clash = true ∨ s.link.pair ≠ .idle ∨ s.report.keys = [] →
      exec .transmissionAttempt s = .next s

/-- R6, R8, R9, R163: a lost attempt turns the part into a receiver whose running check covers the bytes read so far; a
transmission fault is counted and makes it wait for idle. The keys and all that they report stay as they were. -/
def Obligations.AttemptsThatAreNoSends : Prop :=
  ∀ (s : State) (x : Sending), s.running = true → s.link.pair = .sending x →
    (∀ bytes : List Byte,
      exec (.lostAttempt bytes) s = .next { s with link := { s.link with pair := .receiving (crc16 bytes) } })
    ∧ exec .transmissionFault s
      = .next { s with link := { s.link with pair := .waiting, errors := s.link.errors + 1 } }

/-- R7, R162, R163: a sent message's key leaves the list, where the others keep their places, and what its snapshot carried
is cleared, but not what was set again or placed anew since; a newer outcome queues REPLY again, as the newest key. -/
def Obligations.SentMessageClearsWhatItCarried : Prop :=
  ∀ (s : State) (x : Sending), s.running = true → s.link.pair = .sending x →
    ∃ t, exec .messageSent s = .next t
      ∧ t = { s with link := { s.link with pair := .ended }, report := t.report, batch := t.batch }
      ∧ t.batch.record = s.batch.record
      ∧ t.report.keys = s.report.keys.filter (fun k => decide (k ≠ x.snap.key))
          ++ (if x.newer = true ∧ x.snap.key.rank = 0 then [x.snap.key] else [])
      ∧ (∀ k, k ≠ x.snap.key → (k ∈ t.report.keys ↔ k ∈ s.report.keys))
      ∧ (x.snap.key ∈ t.report.keys ↔ x.newer = true ∧ ∃ st, x.snap.key = .reply st)
      ∧ (∀ c i, ((t.report.events.get c).getLsbD i = true ↔ (s.report.events.get c).getLsbD i = true
          ∧ ¬ (x.snap.key = .channel c ∧ x.snap.bits.getLsbD i = true ∧ x.again.getLsbD i = false)))
      ∧ (∀ i, (t.batch.flags.getLsbD i = true ↔ s.batch.flags.getLsbD i = true
          ∧ ¬ (x.snap.key = .box ∧ x.snap.flags.getLsbD i = true ∧ x.againFlags.getLsbD i = false)))
      ∧ ∀ st, t.report.slots.get st
          = if x.snap.key = .reply st ∧ x.newer = false then none else s.report.slots.get st

/-- R3, R4, R178 to R180: every message that the part sends has the layout of R178, with its own number as source and a
good check, and the body of its kind, byte for byte; so has the header of every feed block, with its rows after it. -/
def Obligations.SentMessageLayout : Prop :=
  let bit := fun (b : Bool) (i : Nat) => if b then 2 ^ i else 0
  let num := fun n : Nat => (BitVec.ofNat 8 n : Byte)
  let gain := fun n : Int => (BitVec.ofInt 8 n : Byte)
  let two := fun n : Nat => [num (n / 256), num n]
  let given := fun o : Option Int => match o with | some n => gain n | none => 0
  let clock := fun c : ClockState => match c with | .free => 0 | .acquiring => 1 | .locked => 2 | .holdover => 3
  let outcomes : List OutcomeCode := [.done, .notHolder, .badRange, .noFeed, .feedTaken, .locked, .fixed, .busy,
    .notOwner, .sequence, .noBatch, .shortBatch, .timedOut]
  let replyBytes := fun a : Answer =>
    [a.kind, num (outcomes.idxOf a.code), num (bit a.resumed 0 + bit a.takeover 1 + bit a.clamped 2), a.value]
  let linkBytes := fun (g : Group) (a : Announce) =>
    [num g.val, num (bit a.candidate.isSome 0 + bit a.locked.isSome 1), given a.candidate, given a.locked, gain a.backoff]
  let channelBytes := fun (s : State) (c : Chan) =>
    let st := s.steps.get c
    let r := s.gain.recs.get c
    let p := s.phantom.recs.get c
    let lock : Nat × Byte × Byte := match r.lock with
      | .opened => (0, 0, 0) | .held f n => (1, num f.val, gain n) | .fixed f n => (2, num f.val, gain n)
    let front := match st.front with | .good => 0 | .fault _ => 2
    let guard := match (s.config.chans.get c).guard with | .off => 0 | .report => 1 | .backoff => 2
    let state := match p.state with
      | .off => 0 | .waiting _ => 1 | .rising _ => 2 | .on => 3 | .falling _ => 4 | .shed => 5 | .fault => 6
    let cause := match p.cause with
      | .none => 0 | .released => 1 | .shedBudget => 2 | .shedLoad => 3 | .short => 4 | .reset => 5
    let feeds := (List.finRange 6).flatMap (fun f => match s.entry c f with
      | none => []
      | some x =>
        let trim := r.trims.get f
        [num (f.val + bit x.mute 3 + bit x.phantom 4 + bit x.clamped 5 + bit trim.short 6), gain x.gain, gain trim.count]
          ++ two x.last.toNat)
    [num (c.val + 1), gain st.applied, gain r.target, gain r.beff, num (bit st.moving 0 + front + 4 * lock.1 + 16 * guard),
      lock.2.1, lock.2.2, num (state + 16 * cause), num p.current, (s.head.recs.get c).episodes, p.shorts, p.sheds,
      p.denials] ++ two (s.report.events.get c).toNat ++ [num (feeds.length / 5)] ++ feeds
  let feedBytes := fun r : FeedRec =>
    let up := bit r.lineUp 2
    match r.binding with
    | .absent => [num up, 0, 0, 0]
    | .free => [num (1 + up), 0, 0, 0]
    | .bound h since => [num (2 + up), num h.val] ++ two since.toNat
    | .orphaned h since => [num (3 + up), num h.val] ++ two since.toNat
  let batchBytes := fun b : Batch => match b.record with
    | .idle => [num (16 * b.flags.toNat), 0, 0]
    | .loading x _ => [num (1 + 16 * b.flags.toNat), num x.owner.val, num x.feed.val]
    | .committing x => [num (2 + 16 * b.flags.toNat), num x.owner.val, num x.feed.val]
  let boxBytes := fun s : State =>
    [num (clock s.timing.clock + 4 * s.phantom.bank.val + bit (decide (s.config.status = .defaults)) 4
      + bit s.gain.full 5)] ++ two s.budget ++ two s.load ++ two s.measuredTotal ++ [s.link.errors]
      ++ (List.finRange 6).flatMap (fun f => feedBytes (s.feeds.get f)) ++ batchBytes s.batch
  let nibble := fun x : ChanFlags => bit x.tone 3 + bit x.settle 2 + bit x.muted 1 + bit x.short 0
  (∀ (s : State) (k : Key),
      let body : List Byte := match k with
        | .reply st => replyBytes ((s.report.slots.get st).getD (plain 0 .done 0))
        | .link g => linkBytes g (s.gain.announce.get g)
        | .channel c => channelBytes s c
        | .box => boxBytes s
      let kind : Byte := match k with | .reply _ => 32 | .link _ => 33 | .channel _ => 34 | .box => 35
      let cls : Nat := match k with | .reply _ => 1 | .link _ => 2 | .channel _ => 3 | .box => 4
      let target : Byte := match k with | .reply st => BitVec.ofNat 8 st.val | _ => 255
      let tag : Byte := match k with | .reply st => ((s.report.slots.get st).getD (plain 0 .done 0)).tag | _ => 0
      let m : List Byte := [BitVec.ofNat 8 (32 * cls + s.own.val), kind, target, tag, BitVec.ofNat 8 body.length] ++ body
      keyMessage s k = m ++ [(crc16 m).extractLsb' 8 8, (crc16 m).extractLsb' 0 8]
      ∧ body.length = (match k with | .reply _ => 4 | .link _ => 5 | .channel c => 16 + 5 * entryCount s c | .box => 35)
      ∧ body.length ≤ 46)
    ∧ (∀ h : Header, ∃ flags : List Byte, headerBytes h = [num h.source.val] ++ two h.counter.toNat
        ++ [num (clock h.clock + bit h.slip 7), num h.count] ++ flags ∧ flags.length = 16
        ∧ ∀ i c d, 2 * i = c.val → 2 * i + 1 = d.val →
          flags[i]? = some (num (16 * nibble (h.flags.get c) + nibble (h.flags.get d))))
    ∧ ∀ b : FeedBlock, b.wire = headerBytes b.header
      ++ b.rows.flatMap (fun r => (List.finRange 32).flatMap (fun c =>
        let n := (r.get c).toNat
        [num (n / 65536), num (n / 256), num n]))

/-! ## Desk requests -/

/-- R34, R36, R37: a CLAIM is decided on the feed's record as its own hearing left it. -/
def Obligations.ClaimIsDecidedOnTheRecord : Prop :=
  ∀ (e : Envelope) (b : Byte) (s : State), Takes e s →
    ((∀ f, feedOf b = some f → ((heard e s).feeds.get f).binding = .absent) →
        exec (.claim e b) s = .next (answered e.source (plain 2 .noFeed e.tag) (heard e s)))
    ∧ ∀ f, feedOf b = some f →
      (((heard e s).feeds.get f).binding = .free → ∃ t, exec (.claim e b) s = .next t
        ∧ BoundWith f (.bound e.source s.timing.counter) e.source (plain 2 .done e.tag) (heard e s) t)
      ∧ (∀ since r, ((heard e s).feeds.get f).binding = .bound e.source since →
        (r = true ↔ ∃ n, (s.feeds.get f).binding = .orphaned e.source n) →
        exec (.claim e b) s
          = .next (answered e.source { plain 2 .done e.tag with resumed := r } (heard e s)))
      ∧ (∀ st since, ((heard e s).feeds.get f).binding = .bound st since → st ≠ e.source →
        exec (.claim e b) s = .next (answered e.source
          { plain 2 .feedTaken e.tag with value := BitVec.ofNat 8 st.val } (heard e s)))
      ∧ (∀ since, ((heard e s).feeds.get f).binding = .orphaned e.source since → ∃ t, exec (.claim e b) s = .next t
        ∧ BoundWith f (.bound e.source since) e.source { plain 2 .done e.tag with resumed := true } (heard e s) t)
      ∧ (∀ st since, ((heard e s).feeds.get f).binding = .orphaned st since → st ≠ e.source →
        ∃ t, exec (.claim e b) s = .next t
        ∧ BoundWith f (.bound e.source s.timing.counter) e.source { plain 2 .done e.tag with takeover := true }
            (heard e s) t)

/-- R38, R53, R58, R110, R117, R120, R130, R153, R179: a request that fails its holder check, its range check or its field
check is answered so, and nothing else changes. -/
def Obligations.RequestsThatFailACheck : Prop :=
  (∀ (m : Instr) (e : Envelope) (kind feed : Byte) (s : State), m.holderCheck = some (e, kind, feed) → Takes e s →
      NotHeld e feed (heard e s) → exec m s = .next (answered e.source (plain kind .notHolder e.tag) (heard e s)))
    ∧ (∀ (m : Instr) (e : Envelope) (kind feed first last : Byte) (f : Feed) (s : State),
      m.rangeCheck = some (e, kind, feed, first, last) → Takes e s → HeldBy e feed f (heard e s) →
      ¬ RangeOk first last → exec m s = .next (answered e.source (plain kind .badRange e.tag) (heard e s)))
    ∧ ∀ (e : Envelope) (feed first last x gain : Byte) (f : Feed) (s : State), Takes e s →
      HeldBy e feed f (heard e s) →
      (RangeOk first last → x.extractLsb' 2 2 = 3 ∨ x.extractLsb' 0 2 = 3 →
        exec (.setDemand e feed first last x gain) s
          = .next (answered e.source (plain 4 .badRange e.tag) (heard e s)))
      ∧ (RangeOk first last → x ≠ 0 → x ≠ 1 →
        exec (.lock e feed first last x) s = .next (answered e.source (plain 6 .badRange e.tag) (heard e s))
        ∧ exec (.tone e feed first last x) s = .next (answered e.source (plain 9 .badRange e.tag) (heard e s)))
      ∧ (x = 0 ∨ 64 < x.toNat →
        exec (.batchOpen e feed x) s = .next (answered e.source (plain 10 .badRange e.tag) (heard e s)))

/-- R39, R40, R59, R122, R111, R160: a RELEASE frees the feed, removes its entries, opens the channels it HOLDS, empties
its tone set and discards the batch on it. The channels whose lock opens have their LOCK bit set, those whose phantom state
answers the withdrawal PHANTOM CHANGE, and the keys of what changed are asked for (R116, R134, R165). -/
def Obligations.ReleaseUndoesWhatTheFeedSet : Prop :=
  ∀ (e : Envelope) (feed : Byte) (f : Feed) (s : State), Takes e s → HeldBy e feed f (heard e s) →
    let h := heard e s
    ∃ t, exec (.release e feed) s = .next t
      ∧ t = { h with
          feeds := h.feeds.set f { h.feeds.get f with binding := .free }
          demand := t.demand, gain := { h.gain with recs := t.gain.recs }, paths := t.paths
          phantom := { h.phantom with recs := t.phantom.recs }, batch := t.batch, report := t.report }
      ∧ (∀ c, t.entry c f = none ∧ (∀ g, g ≠ f → t.entry c g = h.entry c g)
        ∧ (t.demand.get c).view = (h.demand.get c).view
        ∧ ((t.demand.get c).dirty = true ↔ (h.demand.get c).dirty = true ∨ (h.entry c f).isSome = true
            ∨ ∃ n, (h.gain.recs.get c).lock = .held f n))
      ∧ (∀ c, t.gain.recs.get c = { h.gain.recs.get c with lock := (t.gain.recs.get c).lock }
        ∧ (∀ n, (h.gain.recs.get c).lock = .held f n → (t.gain.recs.get c).lock = .opened)
        ∧ ((∀ n, (h.gain.recs.get c).lock ≠ .held f n) → (t.gain.recs.get c).lock = (h.gain.recs.get c).lock))
      ∧ PhantomFollows h t
      ∧ t.paths = h.paths.set f { h.paths.get f with tone := Tab.const false }
      ∧ DiscardedWhere (fun b => b.feed = f) h t
      ∧ Replied e.source (plain 3 .done e.tag) h t ∧ Key.box ∈ t.report.keys
      ∧ (∀ c, t.report.events.get c = h.report.events.get c ||| lockBit h t c ||| phantomChangeBit h t c)
      ∧ KeysAsked (fun k => k = .reply e.source ∨ k = .box ∨ ∃ c, k = .channel c
          ∧ ((h.entry c f).isSome = true ∨ ∃ n, (h.gain.recs.get c).lock = .held f n)) h t

/-- R53 to R57, R51, R52, R155: SET DEMAND writes every channel of its range, creating the entries that are missing, and
changes no other entry; the wants are answered at once and a batch that its source loads on the feed is botched. PHANTOM
CHANGE is set where a want or a withdrawal changes the phantom state, and no other event bit; the keys asked for are those
of the range, the requester's REPLY, and BOX where the load or the batch changes (R134, R165, R166). -/
def Obligations.SetDemandWritesItsRange : Prop :=
  ∀ (e : Envelope) (feed first last flags gain : Byte) (f : Feed) (mute phantom : Setting) (s : State), Takes e s →
    HeldBy e feed f (heard e s) → RangeOk first last → muteOf flags = some mute → phantomOf flags = some phantom →
    let h := heard e s
    ∃ t clamped, exec (.setDemand e feed first last flags gain) s = .next t
      ∧ t = { h with
          demand := t.demand, phantom := { h.phantom with recs := t.phantom.recs }, batch := t.batch
          report := t.report }
      ∧ (∀ c, InRange first last c →
        let old := (h.entry c f).getD (freshEntry h c)
        let limited := max (-48) (min 126 gain.toInt)
        t.entry c f = some
          { gain := if flags.getLsbD 7 then limited else old.gain
            mute := mute.apply old.mute
            phantom := phantom.apply old.phantom
            clamped := if flags.getLsbD 7 then decide (limited ≠ gain.toInt) else old.clamped
            last := s.timing.counter }
        ∧ (t.demand.get c).dirty = true ∧ Key.channel c ∈ t.report.keys
        ∧ (∀ g, g ≠ f → t.entry c g = h.entry c g) ∧ (t.demand.get c).view = (h.demand.get c).view)
      ∧ (∀ c, ¬ InRange first last c → t.demand.get c = h.demand.get c)
      ∧ PhantomFollows h t
      ∧ (clamped = true ↔ ∃ c x, InRange first last c ∧ (h.entry c f = none ∨ flags.getLsbD 7 = true)
          ∧ t.entry c f = some x ∧ x.clamped = true)
      ∧ Replied e.source { plain 4 .done e.tag with clamped := clamped } h t
      ∧ BotchedBy e.source f h t
      ∧ (∀ c, t.report.events.get c = h.report.events.get c ||| phantomChangeBit h t c)
      ∧ KeysAsked (fun k => k = .reply e.source ∨ (∃ c, k = .channel c ∧ InRange first last c)
          ∨ (k = .box ∧ (LoadMoves h t ∨ t.batch ≠ h.batch))) h t

/-- R58, R51, R52, R155: CLEAR DEMAND removes the feed's entries from its range and touches no other. PHANTOM CHANGE is set
where a withdrawal changes the phantom state, and no other event bit; the keys asked for are those of the channels that
lost an entry, the requester's REPLY, and BOX where the load or the batch changes (R134, R165, R166). -/
def Obligations.ClearDemandRemovesEntries : Prop :=
  ∀ (e : Envelope) (feed first last : Byte) (f : Feed) (s : State), Takes e s → HeldBy e feed f (heard e s) →
    RangeOk first last →
    let h := heard e s
    ∃ t, exec (.clearDemand e feed first last) s = .next t
      ∧ t = { h with
          demand := t.demand, phantom := { h.phantom with recs := t.phantom.recs }, batch := t.batch
          report := t.report }
      ∧ (∀ c, InRange first last c → t.entry c f = none ∧ (∀ g, g ≠ f → t.entry c g = h.entry c g)
        ∧ (t.demand.get c).view = (h.demand.get c).view
        ∧ (t.demand.get c).dirty = ((h.demand.get c).dirty || (h.entry c f).isSome)
        ∧ ((h.entry c f).isSome = true → Key.channel c ∈ t.report.keys))
      ∧ (∀ c, ¬ InRange first last c → t.demand.get c = h.demand.get c)
      ∧ PhantomFollows h t
      ∧ Replied e.source (plain 5 .done e.tag) h t
      ∧ BotchedBy e.source f h t
      ∧ (∀ c, t.report.events.get c = h.report.events.get c ||| phantomChangeBit h t c)
      ∧ KeysAsked (fun k => k = .reply e.source
          ∨ (∃ c, k = .channel c ∧ InRange first last c ∧ (h.entry c f).isSome = true)
          ∨ (k = .box ∧ (LoadMoves h t ∨ t.batch ≠ h.batch))) h t

/-- R117, R118, R116: a LOCK that every channel of its range accepts locks them, an OPEN one at its settled gain; the first
that refuses it is named in the outcome, and nothing changes. -/
def Obligations.LockIsDecidedWhole : Prop :=
  ∀ (e : Envelope) (feed first last mode : Byte) (f : Feed) (s : State), Takes e s → HeldBy e feed f (heard e s) →
    RangeOk first last → mode = 0 ∨ mode = 1 →
    let h := heard e s
    ((∀ c, InRange first last c → LockPasses f false (h.gain.recs.get c).lock) →
      ∃ t, exec (.lock e feed first last mode) s = .next t
        ∧ t = { h with demand := t.demand, gain := { h.gain with recs := t.gain.recs }, report := t.report }
        ∧ LocksBecome (fun c =>
            if InRange first last c then
              match (h.gain.recs.get c).lock with
              | .opened => if mode = 1 then .fixed f (h.settled c) else .held f (h.settled c)
              | .held g n => if mode = 1 then .fixed g n else .held g n
              | .fixed g n => .fixed g n
            else (h.gain.recs.get c).lock) h t
        ∧ Replied e.source (plain 6 .done e.tag) h t)
    ∧ ∀ c g n, InRange first last c → g ≠ f →
      (∀ d, InRange first last d → d < c → LockPasses f false (h.gain.recs.get d).lock) →
      ((h.gain.recs.get c).lock = .held g n →
        exec (.lock e feed first last mode) s = .next (answered e.source
          { plain 6 .locked e.tag with value := BitVec.ofNat 8 (c.val + 1) } h))
      ∧ ((h.gain.recs.get c).lock = .fixed g n →
        exec (.lock e feed first last mode) s = .next (answered e.source
          { plain 6 .fixed e.tag with value := BitVec.ofNat 8 (c.val + 1) } h))

/-- R120, R116: an UNLOCK that every channel of its range accepts opens those that the feed HOLDS; the first channel that
refuses it is named in the outcome, and nothing changes. -/
def Obligations.UnlockIsDecidedWhole : Prop :=
  ∀ (e : Envelope) (feed first last : Byte) (f : Feed) (s : State), Takes e s → HeldBy e feed f (heard e s) →
    RangeOk first last →
    let h := heard e s
    ((∀ c, InRange first last c → LockPasses f true (h.gain.recs.get c).lock) →
      ∃ t, exec (.unlock e feed first last) s = .next t
        ∧ t = { h with demand := t.demand, gain := { h.gain with recs := t.gain.recs }, report := t.report }
        ∧ LocksBecome (fun c => if InRange first last c then .opened else (h.gain.recs.get c).lock) h t
        ∧ Replied e.source (plain 7 .done e.tag) h t)
    ∧ ∀ c g n, InRange first last c →
      (∀ d, InRange first last d → d < c → LockPasses f true (h.gain.recs.get d).lock) →
      (g ≠ f → (h.gain.recs.get c).lock = .held g n →
        exec (.unlock e feed first last) s = .next (answered e.source
          { plain 7 .locked e.tag with value := BitVec.ofNat 8 (c.val + 1) } h))
      ∧ ((h.gain.recs.get c).lock = .fixed g n →
        exec (.unlock e feed first last) s = .next (answered e.source
          { plain 7 .fixed e.tag with value := BitVec.ofNat 8 (c.val + 1) } h))

/-- R130, R110: HEADROOM RESET returns the backoff of its range to 0 and makes it dirty; TONE adds its range to the feed's
tone set, or removes it; neither changes anything else. -/
def Obligations.HeadroomResetAndToneChangeTheirRange : Prop :=
  ∀ (e : Envelope) (feed first last : Byte) (f : Feed) (s : State), Takes e s → HeldBy e feed f (heard e s) →
    RangeOk first last →
    let h := heard e s
    exec (.headroomReset e feed first last) s = .next (answered e.source (plain 8 .done e.tag) { h with
        head := { h.head with recs := Tab.gen (fun c =>
          if InRange first last c then { h.head.recs.get c with backoff := 0 } else h.head.recs.get c) }
        demand := Tab.gen (fun c =>
          if InRange first last c then { h.demand.get c with dirty := true } else h.demand.get c) })
    ∧ ∀ state : Byte, state = 0 ∨ state = 1 →
      exec (.tone e feed first last state) s = .next (answered e.source (plain 9 .done e.tag) { h with
        paths := h.paths.set f { h.paths.get f with tone := Tab.gen (fun c =>
          if InRange first last c then decide (state = 1) else (h.paths.get f).tone.get c) } })

/-- R153: BATCH OPEN from a holder with a good count begins LOADING on an IDLE record or in place of the source's own
loading batch, with no flag set; otherwise it is answered BUSY and nothing changes. That BOX is queued also where the
source replaces its own loading batch is the model's reading (DEDUCED, log entry 19). -/
def Obligations.BatchOpenIsDecidedOnTheRecord : Prop :=
  ∀ (e : Envelope) (feed count : Byte) (f : Feed) (s : State), Takes e s → HeldBy e feed f (heard e s) →
    1 ≤ count.toNat → count.toNat ≤ 64 →
    let h := heard e s
    ((s.batch.record = .idle ∨ ∃ b age, s.batch.record = .loading b age ∧ b.owner = e.source) →
      ∃ t, exec (.batchOpen e feed count) s = .next t
        ∧ BatchAnswered ⟨.loading ⟨e.source, f, count.toNat, [], e.tag⟩ 0, s.batch.flags⟩ e.source
            (plain 10 .done e.tag) h t)
    ∧ (((∃ b, s.batch.record = .committing b) ∨ ∃ b age, s.batch.record = .loading b age ∧ b.owner ≠ e.source) →
      exec (.batchOpen e feed count) s = .next (answered e.source (plain 10 .busy e.tag) h))

/-- R154: BATCH ENTRY is decided against the record: NO BATCH, NOT OWNER, appended with no outcome, or the batch botched
with SEQUENCE. -/
def Obligations.BatchEntryIsDecidedOnTheRecord : Prop :=
  ∀ (e : Envelope) (feed chan flags gain : Byte) (s : State), Takes e s →
    let h := heard e s
    (s.batch.record = .idle →
      exec (.batchEntry e feed chan flags gain) s = .next (answered e.source (plain 11 .noBatch e.tag) h))
    ∧ (∀ b, s.batch.record.body = some b → b.owner ≠ e.source →
      exec (.batchEntry e feed chan flags gain) s = .next (answered e.source (plain 11 .notOwner e.tag) h))
    ∧ (∀ b age c m, s.batch.record = .loading b age → b.owner = e.source → b.items.length < b.count →
      feedOf feed = some b.feed → chanOf chan = some c → muteOf flags = some m →
      exec (.batchEntry e feed chan flags gain) s = .next { h with batch := { h.batch with
        record := .loading
          { b with items := b.items ++ [⟨c, if flags.getLsbD 7 then some gain.toInt else none, m⟩] } 0 } })
    ∧ ∀ b, s.batch.record.body = some b → b.owner = e.source →
      (s.batch.record = .committing b ∨ b.count ≤ b.items.length ∨ feedOf feed ≠ some b.feed ∨ chanOf chan = none
        ∨ muteOf flags = none) →
      ∃ t, exec (.batchEntry e feed chan flags gain) s = .next t
        ∧ BatchAnswered ⟨.idle, s.batch.flags ||| 2#4⟩ e.source (plain 11 .sequence e.tag) h t

/-- R156, R158: BATCH COMMIT and BATCH CANCEL are decided against the record. -/
def Obligations.BatchCommitAndCancelAreDecidedOnTheRecord : Prop :=
  ∀ (e : Envelope) (s : State), Takes e s →
    let h := heard e s
    (s.batch.record = .idle →
      exec (.batchCommit e) s = .next (answered e.source (plain 12 .noBatch e.tag) h)
      ∧ exec (.batchCancel e) s = .next (answered e.source (plain 13 .noBatch e.tag) h))
    ∧ (∀ b, s.batch.record.body = some b → b.owner ≠ e.source →
      exec (.batchCommit e) s = .next (answered e.source (plain 12 .notOwner e.tag) h)
      ∧ exec (.batchCancel e) s = .next (answered e.source (plain 13 .notOwner e.tag) h))
    ∧ (∀ b age, s.batch.record = .loading b age → b.owner = e.source →
      (b.items.length = b.count → ∃ t, exec (.batchCommit e) s = .next t
        ∧ BatchAnswered ⟨.committing b, s.batch.flags⟩ e.source
            { plain 12 .done e.tag with value := BitVec.ofNat 8 b.count } h t)
      ∧ (b.items.length ≠ b.count → ∃ t, exec (.batchCommit e) s = .next t
        ∧ BatchAnswered ⟨.idle, s.batch.flags ||| 2#4⟩ e.source (plain 12 .shortBatch e.tag) h t))
    ∧ (∀ b, s.batch.record = .committing b → b.owner = e.source →
      exec (.batchCommit e) s = .next (answered e.source
        { plain 12 .done e.tag with value := BitVec.ofNat 8 b.count } h))
    ∧ ∀ b, s.batch.record.body = some b → b.owner = e.source → ∃ t, exec (.batchCancel e) s = .next t
      ∧ BatchAnswered ⟨.idle, s.batch.flags⟩ e.source (plain 13 .done e.tag) h t

/-- R177, R15, R43, R78, R79, R123, R131, R99, R111, R160, R171: a BOX RESET from a station that holds no BOUND feed is
answered NOT HOLDER; another completes in every state, resets each block as its rule lays down and keeps the rest. The key
list is emptied first: BOX, the requester's REPLY and the CHANNEL keys of the channels that the reset opened or retried are
all that stands in it afterwards. -/
def Obligations.BoxResetActsOnEveryBlock : Prop :=
  ∀ (e : Envelope) (rb : Readback) (s : State), Takes e s →
    let h := heard e s
    ((∀ f, holds h f e.source = false) →
      exec (.boxReset e rb) s = .next (answered e.source (plain 14 .notHolder e.tag) h))
    ∧ ((∃ f, holds h f e.source = true) →
      ∃ t, exec (.boxReset e rb) s = .next t
        ∧ t = { h with
            link := { h.link with stations := t.link.stations }
            feeds := t.feeds, demand := t.demand, gain := { h.gain with recs := t.gain.recs, table := [], full := false }
            steps := t.steps, paths := t.paths, head := { h.head with recs := t.head.recs }, batch := t.batch
            report := t.report }
        ∧ (∀ st, t.link.stations.get st = if h.link.stations.get st = .self then .self else .absent)
        ∧ (∀ f, (∀ st since, (h.feeds.get f).binding = .bound st since →
              t.feeds.get f = { h.feeds.get f with binding := .orphaned st since })
          ∧ ((h.feeds.get f).binding.isBound = false → t.feeds.get f = h.feeds.get f)
          ∧ t.paths.get f = { h.paths.get f with tone := Tab.const false })
        ∧ (∀ c, t.gain.recs.get c = { h.gain.recs.get c with lock := (t.gain.recs.get c).lock }
          ∧ (∀ g n, (h.gain.recs.get c).lock = .held g n → (t.gain.recs.get c).lock = .opened)
          ∧ ((∀ g n, (h.gain.recs.get c).lock ≠ .held g n) → (t.gain.recs.get c).lock = (h.gain.recs.get c).lock)
          ∧ t.head.recs.get c = { h.head.recs.get c with backoff := 0, window := 0 }
          ∧ t.demand.get c = { h.demand.get c with dirty := (t.demand.get c).dirty }
          ∧ ((t.demand.get c).dirty = true ↔ (h.demand.get c).dirty = true
            ∨ (∃ g n, (h.gain.recs.get c).lock = .held g n) ∨ (h.head.recs.get c).backoff ≠ 0
            ∨ ∃ x ∈ h.gain.table, x.group = h.group c))
        ∧ (∀ c, (h.steps.get c).front = .good → t.steps.get c = h.steps.get c)
        ∧ (∀ c n, (h.steps.get c).front = .fault n →
          let code := (h.steps.get c).applied / 2
          t.steps.get c = { h.steps.get c with
              code := code, front := if readsBack rb c code = code then .good else .fault 0 }
          ∧ Key.channel c ∈ t.report.keys
          ∧ (readsBack rb c code ≠ code → (t.report.events.get c).getLsbD 8 = true))
        ∧ (∀ c, h.report.events.get c ||| t.report.events.get c = t.report.events.get c)
        ∧ (∀ c, let held := ∃ g n, (h.gain.recs.get c).lock = .held g n
          let code := (h.steps.get c).applied / 2
          let fails := (∃ n, (h.steps.get c).front = .fault n) ∧ readsBack rb c code ≠ code
          ∀ i : Nat, (t.report.events.get c).getLsbD i = true ↔ (h.report.events.get c).getLsbD i = true
            ∨ (i = 3 ∧ held) ∨ (i = 8 ∧ fails))
        ∧ DiscardedWhere (fun _ => True) h t
        ∧ (∀ st, t.report.slots.get st = if st = e.source then some (plain 14 .done e.tag) else none)
        ∧ Key.reply e.source ∈ t.report.keys ∧ Key.box ∈ t.report.keys
        ∧ ∀ k, k ∈ t.report.keys ↔ k = .reply e.source ∨ k = .box
          ∨ ∃ c, k = .channel c
            ∧ ((∃ g n, (h.gain.recs.get c).lock = .held g n) ∨ ∃ n, (h.steps.get c).front = .fault n))

/-- R75, R76, R79: a LINK CANDIDATE for a used group with good values is stored, and makes the group's members dirty when
it changes the fresh set; a full table sets LINK TABLE FULL; any other message is ignored. -/
def Obligations.LinkCandidateIsStored : Prop :=
  ∀ (e : Envelope) (group flags candidate locked backoff : Byte) (s : State), s.canHear = true → e.source ≠ s.own →
    let h := { s with
      link := { s.link with pair := .ended, stations := s.link.stations.set e.source (.present .box 0) } }
    let m := Instr.linkCandidate e group flags candidate locked backoff
    let good := (flags.getLsbD 0 = true → WholeDb candidate.toInt) ∧ (flags.getLsbD 1 = true → WholeDb locked.toInt)
      ∧ BackoffValue backoff.toInt
    let x : Group → LinkEntry := fun g => ⟨g, e.source, if flags.getLsbD 0 then some candidate.toInt else none,
      if flags.getLsbD 1 then some locked.toInt else none, backoff.toInt, 0⟩
    let dirtied : Group → Tab DemandRec 32 := fun g => Tab.gen (fun c =>
      if s.group c = g then { s.demand.get c with dirty := true } else s.demand.get c)
    ((groupOf group = none ∨ ¬ good ∨ ∃ g, groupOf group = some g ∧ s.used g = false) → exec m s = .next h)
    ∧ ∀ g, groupOf group = some g → s.used g = true → good →
      ((∀ y ∈ s.gain.table, ¬ (y.group = g ∧ y.source = e.source)) → s.gain.table.length < 32 →
        exec m s = .next { h with gain := { h.gain with table := s.gain.table ++ [x g] }, demand := dirtied g })
      ∧ ((∀ y ∈ s.gain.table, ¬ (y.group = g ∧ y.source = e.source)) → 32 ≤ s.gain.table.length →
        ∃ t, exec m s = .next t
          ∧ t = { h with gain := { h.gain with full := true }, report := { h.report with keys := t.report.keys } }
          ∧ (s.gain.full = false → Key.box ∈ t.report.keys))
      ∧ ∀ before after y, s.gain.table = before ++ y :: after → y.group = g → y.source = e.source →
        (∀ z ∈ before ++ after, ¬ (z.group = g ∧ z.source = e.source)) →
        exec m s = .next { h with
          gain := { h.gain with table := before ++ x g :: after }
          demand := if y = { x g with age := y.age } then s.demand else dirtied g }

/-! ## Resolution and steps -/

/-- R66: the candidate of a request set, in its four steps. -/
def Obligations.CandidateRule : Prop :=
  candidate [] = none
    ∧ ∀ (l : List Int) (lo hi a₀ : Int), lo ∈ l → hi ∈ l → (∀ r ∈ l, lo ≤ r ∧ r ≤ hi) → -48 ≤ lo → hi ≤ 126 →
      (∃ n, n % 2 = 0 ∧ n ≤ lo ∧ lo < n + 2 ∧ a₀ = max 0 (min 126 n)) →
      (hi - a₀ ≤ 48 → candidate l = some a₀ ∧ WholeDb a₀)
      ∧ (48 < hi - a₀ → ∃ g, candidate l = some g ∧ g % 2 = 0 ∧ hi - 48 ≤ g ∧ g < hi - 48 + 2
          ∧ 0 ≤ g ∧ g ≤ 78 ∧ hi - g ≤ 48)

/-- R67, R68, R69, R70, R71, R73: at a resolution every dirty channel, with its group, takes its B_eff, its target and its
trims from the view, the lock records, the backoffs and the link table, and its dirty mark is cleared; the others stand.
R65: a channel's requested gains are those of its entries in the view, whatever their mute and their feed's state. R74, R80:
CHANNEL is queued for each record that changed; a group with a member resolved takes its announce record afresh,
and LINK is queued where that differs from the record that stood. -/
def Obligations.ResolutionGivesBackoffTargetAndTrims : Prop :=
  (∀ (s : State) (c : Chan),
    requestsOf s c
      = (List.finRange 6).filterMap (fun f => ((s.demand.get c).view.get f).map (fun x => x.gain))
    ∧ ∀ r, r ∈ requestsOf s c ↔ ∃ f x, (s.demand.get c).view.get f = some x ∧ x.gain = r)
  ∧ (∀ (s : State) (g : Group),
    let t := resolveAll s
    let due := g ≠ 0 ∧ ∃ d, s.group d = g ∧ (s.demand.get d).dirty = true
    let old := s.gain.announce.get g
    let new := t.gain.announce.get g
    let frozen := fun n => ∃ d, s.group d = g ∧ (s.gain.recs.get d).lock.frozen = some n
    (¬ due → new = old)
    ∧ (due → new.candidate
          = candidate (channels.flatMap (fun d => if s.group d = g then requestsOf s d else []))
      ∧ (∀ n, new.locked = some n ↔ frozen n ∧ ∀ m, frozen m → n ≤ m)
      ∧ ((∀ d, BackoffValue (s.head.recs.get d).backoff) →
        (∀ d, s.group d = g → (s.head.recs.get d).backoff ≤ new.backoff)
        ∧ ∃ d, s.group d = g ∧ new.backoff = (s.head.recs.get d).backoff))
    ∧ (Key.link g ∈ t.report.keys ↔ Key.link g ∈ s.report.keys ∨ new ≠ old)
    ∧ (∀ c, Key.channel c ∈ t.report.keys
      ↔ Key.channel c ∈ s.report.keys ∨ t.gain.recs.get c ≠ s.gain.recs.get c)
    ∧ t = { s with
        demand := t.demand, gain := { s.gain with recs := t.gain.recs, announce := t.gain.announce }
        report := { s.report with keys := t.report.keys } })
  ∧ ∀ (s : State) (c : Chan),
    let g := s.group c
    let due := if g = 0 then (s.demand.get c).dirty = true else ∃ d, s.group d = g ∧ (s.demand.get d).dirty = true
    let b := s.head.recs.get c
    let r := (resolveAll s).gain.recs.get c
    let own := candidate (requestsOf s c)
    (¬ due → r = s.gain.recs.get c ∧ (resolveAll s).demand.get c = s.demand.get c)
    ∧ (due → (resolveAll s).demand.get c = { s.demand.get c with dirty := false }
      ∧ r.lock = (s.gain.recs.get c).lock
      ∧ (g = 0 → r.beff = b.backoff)
      ∧ (g ≠ 0 → BackoffValue b.backoff →
        (∀ d, s.group d = g → (s.head.recs.get d).backoff ≤ r.beff) ∧ (∀ x ∈ s.gain.table, x.group = g → x.backoff ≤ r.beff)
        ∧ ((∃ d, s.group d = g ∧ r.beff = (s.head.recs.get d).backoff) ∨ ∃ x ∈ s.gain.table, x.group = g ∧ r.beff = x.backoff))
      ∧ (∀ n, (s.gain.recs.get c).lock.frozen = some n → r.target = n)
      ∧ ((s.gain.recs.get c).lock = .opened → g = 0 →
        r.target = match own with | some a => max 0 (a - r.beff) | none => s.settled c)
      ∧ ((s.gain.recs.get c).lock = .opened → g ≠ 0 →
        let locks := fun n => (∃ d, s.group d = g ∧ (s.gain.recs.get d).lock.frozen = some n)
          ∨ ∃ x ∈ s.gain.table, x.group = g ∧ x.locked = some n
        let cands := fun n => candidate (channels.flatMap (fun d => if s.group d = g then requestsOf s d else [])) = some n
          ∨ ∃ x ∈ s.gain.table, x.group = g ∧ x.candidate = some n
        (∀ n, locks n → (∀ m, locks m → n ≤ m) → r.target = n)
        ∧ ((∀ n, ¬ locks n) → ∀ n, cands n → (∀ m, cands m → n ≤ m) → r.target = max 0 (n - r.beff))
        ∧ ((∀ n, ¬ locks n) → (∀ n, ¬ cands n) → r.target = s.settled c))
      ∧ ∀ f, r.trims.get f = match (s.demand.get c).view.get f with
        | none => ⟨0, false⟩
        | some x =>
          let n := x.gain - r.beff - (s.steps.get c).applied
          ⟨max (-48) (min 48 n), decide (n < -48 ∨ 48 < n)⟩)

/-- R85 to R88, R94 to R97: what the step controller makes of one channel's record at a block start, by its target, its
step age, its mismatch count, its front-end state and the code that the preamp reads back. At a block start it does so for
every channel. Where RETRY_WRITE has made the retry by itself, only the step age advances (the model's choice, log entry
1). -/
def Obligations.StepControllerDecides : Prop :=
  (∀ (rb : Readback) (s : State),
    stepAll rb s = (List.finRange 32).foldl (fun t c => stepAtBlock rb c t) s
    ∧ (∀ c, (stepAll rb s).steps.get c = (stepAtBlock rb c s).steps.get c)
    ∧ ∀ c, Ahead.retry c ∈ s.ahead → stepAtBlock rb c s
      = { s with steps := s.steps.set c { s.steps.get c with age := min 8 ((s.steps.get c).age + 1) } })
  ∧ ∀ (rb : Readback) (c : Chan) (s : State), Ahead.retry c ∉ s.ahead →
    let r := s.steps.get c
    let target := (s.gain.recs.get c).target
    let age := min 8 (r.age + 1)
    let next := if r.applied < target then r.applied + 2 else r.applied - 2
    let moving := decide (r.applied ≠ target) || r.pending.isSome
    let t := stepAtBlock rb c s
    let still := { r with age := age, moving := moving }
    (∀ d, d ≠ c → t.steps.get d = s.steps.get d)
    ∧ (r.front = .good → r.mismatch = 0 → r.applied = target ∨ r.pending.isSome = true ∨ age < stepInterval s.config →
      t.steps.get c = still)
    ∧ (r.front = .good → r.mismatch = 1 → r.pending.isSome = true → t.steps.get c = still)
    ∧ (r.front = .good → r.pending = none → r.applied ≠ target →
      (r.mismatch = 0 ∧ stepInterval s.config ≤ age ∨ r.mismatch = 1) →
      (readsBack rb c (next / 2) = next / 2 → t.steps.get c
        = { still with
            pending := some ⟨next, s.config.latency, true⟩, age := 0, mismatch := 0, moving := true, code := next / 2 })
      ∧ (readsBack rb c (next / 2) ≠ next / 2 → r.mismatch = 0 →
        t.steps.get c = { still with mismatch := 1, code := next / 2 })
      ∧ (readsBack rb c (next / 2) ≠ next / 2 → r.mismatch = 1 →
        t.steps.get c = { still with mismatch := 0, code := next / 2, moving := false, front := .fault 0 }
        ∧ (t.report.events.get c).getLsbD 8 = true ∧ Key.channel c ∈ t.report.keys))
    ∧ (r.front = .good → r.pending = none → r.applied = target → r.mismatch = 1 →
      (readsBack rb c (r.applied / 2) = r.applied / 2 →
        t.steps.get c = { still with mismatch := 0, code := r.applied / 2 })
      ∧ (readsBack rb c (r.applied / 2) ≠ r.applied / 2 →
        t.steps.get c = { still with mismatch := 0, code := r.applied / 2, moving := false, front := .fault 0 }
        ∧ (t.report.events.get c).getLsbD 8 = true))
    ∧ (∀ n, r.front = .fault n →
      (n + 1 < 100 → t.steps.get c = { r with age := age, front := .fault (n + 1) })
      ∧ (99 ≤ n → readsBack rb c (r.applied / 2) = r.applied / 2 →
        t.steps.get c = { r with age := age, front := .good, mismatch := 0, code := r.applied / 2 })
      ∧ (99 ≤ n → readsBack rb c (r.applied / 2) ≠ r.applied / 2 →
        t.steps.get c = { r with age := age, front := .fault 0, code := r.applied / 2 }))
    ∧ t = { s with steps := t.steps, report := t.report, link := { s.link with pair := t.link.pair } }

/-- R90, R97: the compensation of a pending step whose countdown reaches 0 at the coming sample gives A its value and
recomputes the trims from the view in force and the B_eff held; the retry write of a channel whose retry age reaches 100
at the coming block start clears the fault where the code reads back. That COMPENSATION and RETRY_WRITE, commanded by
themselves, act just before they are due (a retry age of 99), and that RETRY_WRITE is noted for the block start, is the
model's choice (log entry 1). -/
def Obligations.CompensationAndRetry : Prop :=
  (∀ (c : Chan) (s : State) (p : PendingStep), s.running = true → s.timing.slip = false → s.timing.begun < 48 →
      (s.steps.get c).pending = some p → (if p.atIssue then p.countdown = 0 else p.countdown ≤ 1) →
      ∃ t, exec (.compensation c) s = .next t
        ∧ t = { s with
            steps := s.steps.set c { s.steps.get c with applied := p.value, pending := none }
            gain := { s.gain with recs := s.gain.recs.set c { s.gain.recs.get c with
              trims := (t.gain.recs.get c).trims } }
            report := { s.report with keys := t.report.keys } }
        ∧ (∀ f, (t.gain.recs.get c).trims.get f = match (s.demand.get c).view.get f with
          | none => ⟨0, false⟩
          | some x =>
            let n := x.gain - (s.gain.recs.get c).beff - p.value
            ⟨max (-48) (min 48 n), decide (n < -48 ∨ 48 < n)⟩)
        ∧ Key.channel c ∈ t.report.keys)
    ∧ ∀ (c : Chan) (code : Byte) (s : State) (n : Nat), s.running = true → (s.steps.get c).front = .fault n → 99 ≤ n →
      let held := (s.steps.get c).applied / 2
      ∃ t, exec (.retryWrite c code) s = .next t
        ∧ t = { s with
            steps := s.steps.set c (if (code.toNat : Int) = held
              then { s.steps.get c with code := held, front := .good, mismatch := 0 }
              else { s.steps.get c with code := held, front := .fault 0 })
            report := { s.report with keys := t.report.keys }
            ahead := .retry c :: s.ahead }
        ∧ ((code.toNat : Int) = held → Key.channel c ∈ t.report.keys)

/-! ## The sample path -/

/-- R106: the trimmed sample is the product with the coefficient, scaled, rounded half upward and limited to 24 bits. -/
def Obligations.TrimmedSampleRule : Prop :=
  ∀ (x : Sample) (t : Int), -48 ≤ t → t ≤ 48 →
    let p := x.toInt * (coefficient t : Int)
    let q := (p + 2 ^ 19) / 2 ^ 20
    (-(2 ^ 47) ≤ p ∧ p < 2 ^ 47)
    ∧ (trimmed x t).toInt = (if q < -8388608 then -8388608 else if 8388607 < q then 8388607 else q)
    ∧ (t = 0 → trimmed x t = x) ∧ (t ≤ 0 → (trimmed x t).toInt.natAbs ≤ x.toInt.natAbs)

/-- R105, R109, R126: each of the 97 coefficients is the integer nearest to 2^20 * 10^(t/40), with no tie, and grows with
t; the tone samples are those of the manual's sine, of peak floor(8,388,607 * 10^(-18/20)); each magnitude threshold is
floor(8,388,607 * 10^(-h/40)) for a level of h half-dB steps below full scale. -/
def Obligations.FixedTablesFollowTheirFormulas : Prop :=
  coefficients.length = 97 ∧ coefficient 0 = 1048576
    ∧ (∀ n : Int, -48 ≤ n → n < 48 → coefficient n < coefficient (n + 1))
    ∧ (∀ n : Nat, n ≤ 48 →
      let k := coefficient n
      (2 * k - 1) ^ 40 < 2 ^ 840 * 10 ^ n ∧ 2 ^ 840 * 10 ^ n < (2 * k + 1) ^ 40)
    ∧ (∀ n : Nat, n ≤ 48 →
      let k := coefficient (-(n : Int))
      (2 * k - 1) ^ 40 * 10 ^ n < 2 ^ 840 ∧ 2 ^ 840 < (2 * k + 1) ^ 40 * 10 ^ n)
    ∧ (∀ n : Nat, n < 48 →
      (toneSample n).toInt = ⌊1056063 * Real.sin (2 * Real.pi * n / 48) + 1 / 2⌋)
    ∧ 1056063 ^ 20 * 10 ^ 18 < 8388607 ^ 20 ∧ 8388607 ^ 20 < 1056064 ^ 20 * 10 ^ 18
    ∧ ∀ (cfg : Configuration) (h : Nat), 1 ≤ h → h ≤ 24 → cfg.clipLevel = h →
      let m := clipThreshold cfg
      m ^ 40 * 10 ^ h ≤ 8388607 ^ 40 ∧ 8388607 ^ 40 < (m + 1) ^ 40 * 10 ^ h

/-- R101, R102, R104, R107, R108, R113, R126: a sample period builds one row of each installed feed, each word decided by
tone, settle mute, demand mute or trim with the trims then in force, and counts the samples at or above the threshold. At
its start the countdown of each pending step falls, except at its issue sample, and a step whose countdown is 0 is
compensated (R89, R90); a channel that does not compensate keeps its A and its trims. The ticks up to the sample pass, and
the missing marks that fall due in them are taken (R17, R20, R21, R26). A block that is over takes no further
sample period (log entry 8). -/
def Obligations.SamplePeriodBuildsRows : Prop :=
  (∀ (frame : Tab Sample 32) (s : State), s.timing.slip = true ∨ 48 ≤ s.timing.begun →
      exec (.samplePeriod frame) s = .next s)
    ∧ ∀ (frame : Tab Sample 32) (s : State), s.running = true → s.timing.slip = false → s.timing.begun < 48 →
      ∃ t, exec (.samplePeriod frame) s = .next t ∧ t.timing.begun = s.timing.begun + 1
        ∧ t = { s with
            timing := t.timing, steps := t.steps, gain := { s.gain with recs := t.gain.recs }, paths := t.paths
            head := { s.head with recs := t.head.recs }, report := { s.report with keys := t.report.keys } }
        ∧ t.timing.blockTicks = max s.timing.blockTicks (s.timing.begun * s.timing.blockLen / 48)
        ∧ t.timing = { ticked (s.timing.begun * s.timing.blockLen / 48 - s.timing.blockTicks) s.timing with
            begun := s.timing.begun + 1 }
        ∧ KeysAsked (fun k => (k = .box ∧ t.timing.clock ≠ s.timing.clock)
            ∨ ∃ c, k = .channel c ∧ (s.steps.get c).pending.isSome = true ∧ (t.steps.get c).pending = none) s t
        ∧ (∀ c, (s.steps.get c).pending = none →
          t.steps.get c = s.steps.get c ∧ t.gain.recs.get c = s.gain.recs.get c)
        ∧ (∀ c p, (s.steps.get c).pending = some p →
          let left := if p.atIssue then p.countdown else p.countdown - 1
          (left ≠ 0 → t.gain.recs.get c = s.gain.recs.get c ∧ t.steps.get c
            = { s.steps.get c with pending := some { p with countdown := left, atIssue := false } })
          ∧ (left = 0 → t.steps.get c = { s.steps.get c with applied := p.value, pending := none }
            ∧ t.gain.recs.get c = { s.gain.recs.get c with trims := (t.gain.recs.get c).trims }
            ∧ Key.channel c ∈ t.report.keys
            ∧ ∀ f, (t.gain.recs.get c).trims.get f = match (s.demand.get c).view.get f with
              | none => ⟨0, false⟩
              | some x =>
                let n := x.gain - (s.gain.recs.get c).beff - p.value
                ⟨max (-48) (min 48 n), decide (n < -48 ∨ 48 < n)⟩))
        ∧ (∀ f, (s.feeds.get f).binding.installed = false → t.paths.get f = s.paths.get f)
        ∧ (∀ f, (s.feeds.get f).binding.installed = true →
          let p := s.paths.get f
          ∃ row flags, t.paths.get f = { p with rows := p.rows ++ [row], flags := flags } ∧ ∀ c,
            let trim := (t.gain.recs.get c).trims.get f
            let x := p.flags.get c
            (p.tone.get c = true →
              row.get c = toneSample s.timing.begun ∧ flags.get c = { x with tone := true })
            ∧ (p.tone.get c = false → (s.phantom.recs.get c).state.settling = true →
              row.get c = 0 ∧ flags.get c = { x with settle := true })
            ∧ (p.tone.get c = false → (s.phantom.recs.get c).state.settling = false →
              ((∃ y, (s.demand.get c).view.get f = some y ∧ y.mute = true) →
                row.get c = 0 ∧ flags.get c = { x with muted := true })
              ∧ ((∀ y, (s.demand.get c).view.get f = some y → y.mute = false) →
                row.get c = trimmed (frame.get c) trim.count
                ∧ flags.get c = { x with short := x.short || trim.short })))
        ∧ ∀ c, t.head.recs.get c = { s.head.recs.get c with window := (s.head.recs.get c).window
            + (if (s.config.chans.get c).guard ≠ .off ∧ clipThreshold s.config ≤ (frame.get c).toInt.natAbs
              then 1 else 0) }

/-! ## Block starts and timed events -/

/-- R18, R14, R50, R73, R112 to R114, R140, R165, R81: a block start is the end of the block before, the counts, and the
work of the blocks of the part in one order, each a definition that its own statement speaks of. What it leaves: the counts
(with the missing marks of the last ticks and the return to FREE at a quiet count of 1,000, R20, R21, R26, R27), the view,
no dirty channel, the ages of the station table, the currents read, the feed block of the block that ended offered whole to
each port, with the clock state as that block ended (R29, log entry 12), and the keys of the schedule. The orders of events
that the manual leaves open are the model's choice (log entries 31, 32 and 33). -/
def Obligations.BlockStartWork : Prop :=
  (∀ s : State,
    presentView s = { s with demand := s.demand.map (fun r => { r with view := r.entries }) }
    ∧ clearAhead s = { s with ahead := [] }
    ∧ periodic s = { s with report := { s.report with keys := (periodic s).report.keys } }
    ∧ ∀ k, k ∈ (periodic s).report.keys ↔ k ∈ s.report.keys
      ∨ (k = .box ∧ s.timing.counter.toNat % 50 = 0)
      ∨ (∃ c : Chan, k = .channel c ∧ 3 * c.val = s.timing.counter.toNat % 100)
      ∨ ∃ g, k = .link g ∧ s.used g = true ∧ g.val % 10 = s.timing.counter.toNat % 10)
  ∧ ∀ (i : BlockInputs) (s : State), s.running = true →
    let u := s.timing
    let n := if u.slip then 0 else u.blockLen - u.blockTicks
    let missed := missedWithin n u
    let lapsed : Prop := u.clock = .locked ∧ 0 < missed ∧ 3 ≤ u.badCount + missed
    let clock : ClockState := if lapsed then .holdover else u.clock
    let counted : Timing := { u with
      clock := clock, counter := u.counter + 1, begun := 0, blockLen := u.nextLen, blockTicks := 0
      tickCount := min (u.tickCount + n) 16777215, quietCount := min 65535 (u.quietCount + 1), slip := false
      lockCount := if u.clock = .acquiring ∧ 0 < missed then 0 else u.lockCount
      badCount := if u.clock = .locked ∧ 0 < missed then min 3 (u.badCount + missed) else u.badCount
      driveLeft := u.driveLeft.bind (fun k => if n < k then some (k - n) else none) }
    let ended := endBlock s
    let begun := beginBlock ended
    exec (.blockStart i) s = .next (blockWork (inputsAt i s.timing) begun)
    ∧ blockWork (inputsAt i s.timing) begun
      = clearAhead (periodic (phantomAtBlock i.monitors (stepAll i.readback (resolveAll (presentView (ageLinks
          (stationsAndBatch (driveMark (i.markLine || u.slip) begun))))))))
    ∧ ended = offerBlocks (windowAtBlock (passTicks n n s))
    ∧ ended = { s with
        timing := ended.timing, head := ended.head, demand := ended.demand, paths := ended.paths
        link := { s.link with pair := ended.link.pair }
        report := { s.report with keys := ended.report.keys, events := ended.report.events } }
    ∧ begun = { ended with timing := begun.timing, report := { ended.report with keys := begun.report.keys } }
    ∧ begun.timing = (if (clock = .acquiring ∨ clock = .holdover) ∧ 999 ≤ u.quietCount
        then { counted with clock := .free, lockCount := 0, blockLen := 24576, nextLen := 24576 } else counted)
    ∧ (begun.timing.clock ≠ u.clock → Key.box ∈ begun.report.keys)
    ∧ ∃ t, exec (.blockStart i) s = .next t
      ∧ t = { s with
          link := { s.link with pair := t.link.pair, stations := t.link.stations }
          timing := t.timing, feeds := t.feeds, demand := t.demand, gain := t.gain, steps := t.steps, paths := t.paths
          head := t.head, batch := t.batch, report := t.report, ahead := [], seed := t.seed
          phantom := { t.phantom with mainGood := s.phantom.mainGood, auxGood := s.phantom.auxGood } }
      ∧ t.timing.counter = s.timing.counter + 1 ∧ t.timing.begun = 0 ∧ t.timing.slip = false
      ∧ t.timing = (driveMark (i.markLine || u.slip) begun).timing ∧ t.head = ended.head
      ∧ (∀ c, (t.demand.get c).view = (t.demand.get c).entries ∧ (t.demand.get c).dirty = false
        ∧ ((∀ b, s.batch.record ≠ .committing b) → (t.demand.get c).entries = (s.demand.get c).entries)
        ∧ (t.gain.recs.get c).lock = (s.gain.recs.get c).lock ∧ (t.steps.get c).applied = (s.steps.get c).applied
        ∧ (t.phantom.recs.get c).current = min 255 (i.monitors.get c))
      ∧ (∀ st role age, s.link.stations.get st = .present role age →
        t.link.stations.get st = if age + 1 < 200 then .present role (age + 1) else .lost role)
      ∧ (∀ f, (s.feeds.get f).binding.installed = false → t.paths.get f = s.paths.get f)
      ∧ (∀ f, (s.feeds.get f).binding.installed = true →
        t.paths.get f =
          { tone := (s.paths.get f).tone, rows := [], flags := noFlags
            port := if (s.feeds.get f).lineUp then (s.paths.get f).port ++ [{
              header :=
                { source := s.own, counter := s.timing.counter
                  clock := (s.ahead.findSome? Ahead.endedClock).getD clock, slip := s.timing.slip
                  count := s.timing.begun, flags := (s.paths.get f).flags }
              rows := (s.paths.get f).rows }] else (s.paths.get f).port })
      ∧ (t.timing.counter.toNat % 50 = 0 → Key.box ∈ t.report.keys)
      ∧ (∀ c : Chan, 3 * c.val = t.timing.counter.toNat % 100 → Key.channel c ∈ t.report.keys)
      ∧ (∀ g, s.used g = true → g.val % 10 = t.timing.counter.toNat % 10 → Key.link g ∈ t.report.keys)

/-- R142, R143: the admission pass powers waiting channels in its order up to the room that the budget leaves; a channel
passed over at its first pass counts a denial; no other record changes. Where a channel is admitted, the allocated load is
within the budget after the pass. PHANTOM CHANGE is set for each channel admitted and DENIED for each denial, and no other
event bit; the keys of these channels are asked for, and BOX where one is admitted (R165). -/
def Obligations.AdmissionPassFollowsItsOrder : Prop :=
  (∀ s : State,
    let t := admissionPass s
    t = { s with
      phantom := { s.phantom with recs := t.phantom.recs }, link := { s.link with pair := t.link.pair }
      report := { s.report with keys := t.report.keys, events := t.report.events } }
    ∧ KeysAsked (fun k => (∃ c, k = .channel c ∧ t.phantom.recs.get c ≠ s.phantom.recs.get c)
        ∨ (k = .box ∧ LoadMoves s t)) s t)
  ∧ ∀ (s : State) (c : Chan),
    let t := admissionPass s
    let r := s.phantom.recs.get c
    let r' := t.phantom.recs.get c
    let e := s.report.events.get c
    let e' := t.report.events.get c
    (¬ Queued r → r' = r ∧ e' = e)
    ∧ (Queued r →
      (r' = { r with state := .rising 250, cause := .none, persist := 0 } ∧ t.load ≤ t.budget ∧ e' = e ||| 16#9
        ∧ (∀ d, Queued (s.phantom.recs.get d) → AdmittedBefore s d c →
          (t.phantom.recs.get d).state = .rising 250))
      ∨ (t.budget < t.load + t.config.allowance
        ∧ (r.state = .waiting true → r' = { r with state := .waiting false, denials := r.denials + 1 } ∧ e' = e ||| 64#9)
        ∧ (r.state ≠ .waiting true → r' = r ∧ e' = e)))

/-- R127, R128: the close of a window judges every channel against the count rule, raises a backoff by 3 dB or sets GUARD
LIMIT where the guard mode is BACKOFF, and starts the next window. At a block's end the window age advances, and the tenth
closes the window. That WINDOW_CLOSE, commanded by itself, closes it just before, with a note for the block start that
follows, is the model's choice (log entry 1). -/
def Obligations.WindowCloseJudgesEveryChannel : Prop :=
  let closes : State → State → Prop := fun s t => t.head.windowAge = 0
    ∧ t = { s with
        head := t.head, demand := t.demand, report := { s.report with keys := t.report.keys, events := t.report.events }
        link := { s.link with pair := t.link.pair }, ahead := t.ahead }
    ∧ ∀ c,
      let r := s.head.recs.get c
      let e := s.report.events.get c
      let unmoved := t.demand.get c = s.demand.get c
      (r.window < countRule s.config →
        t.head.recs.get c = { r with window := 0 } ∧ t.report.events.get c = e ∧ unmoved)
      ∧ (countRule s.config ≤ r.window → Key.channel c ∈ t.report.keys
        ∧ ((s.config.chans.get c).guard ≠ .backoff →
          t.head.recs.get c = { r with window := 0, episodes := r.episodes + 1 }
          ∧ t.report.events.get c = e ||| 1#9 ∧ unmoved)
        ∧ ((s.config.chans.get c).guard = .backoff → (s.gain.recs.get c).lock = .opened → r.backoff < 36 →
          t.head.recs.get c = { r with window := 0, episodes := r.episodes + 1, backoff := r.backoff + 6 }
          ∧ t.report.events.get c = e ||| 1#9 ||| 2#9 ∧ t.demand.get c = { s.demand.get c with dirty := true })
        ∧ ((s.config.chans.get c).guard = .backoff → (s.gain.recs.get c).lock ≠ .opened ∨ 36 ≤ r.backoff →
          t.head.recs.get c = { r with window := 0, episodes := r.episodes + 1 }
          ∧ t.report.events.get c = e ||| 1#9 ||| 4#9 ∧ unmoved))
  (∀ s : State, s.running = true → 9 ≤ s.head.windowAge →
      ∃ t, exec .windowClose s = .next t ∧ closes s t ∧ t.ahead = .window :: s.ahead)
    ∧ ∀ s : State,
      (Ahead.window ∈ s.ahead → windowAtBlock s = s)
      ∧ (Ahead.window ∉ s.ahead → s.head.windowAge < 9 →
        windowAtBlock s = { s with head := { s.head with windowAge := s.head.windowAge + 1 } })
      ∧ (Ahead.window ∉ s.ahead → 9 ≤ s.head.windowAge →
        closes s (windowAtBlock s) ∧ (windowAtBlock s).ahead = s.ahead)

/-- R32, R114, R138: a port line field follows its transceiver, but an ABSENT feed's; a line that goes DOWN loses what its
port was sending and held waiting; a port that has sent a feed block goes on with the next; a change of a power-good line
sets the line quiet count to 0. R29, R169: while the part runs, the LOCK, ALERT and ACTIVE lines follow their conditions;
before, they are released (R170, R172). -/
def Obligations.LinesAndPortsFollow : Prop :=
  (∀ (f : Feed) (up : Bool) (s : State), s.running = true →
      ((s.feeds.get f).binding.installed = false → exec (.portLineChange f up) s = .next s)
      ∧ ((s.feeds.get f).binding.installed = true → ∃ t, exec (.portLineChange f up) s = .next t
        ∧ t = { s with
            feeds := s.feeds.set f { s.feeds.get f with lineUp := up }
            paths := if up then s.paths else s.paths.set f { s.paths.get f with port := [] }
            report := { s.report with keys := t.report.keys } }
        ∧ ((s.feeds.get f).lineUp ≠ up → Key.box ∈ t.report.keys)))
    ∧ (∀ (f : Feed) (s : State), s.running = true → exec (.feedBlockSent f) s
      = .next { s with paths := s.paths.set f { s.paths.get f with port := (s.paths.get f).port.tail } })
    ∧ (∀ (mainGood auxGood : Bool) (s : State),
      exec (.powerGoodChange mainGood auxGood) s = .next { s with phantom := { s.phantom with
        mainGood := mainGood, auxGood := auxGood
        lineQuiet := if s.running = true ∧ (s.phantom.mainGood ≠ mainGood ∨ s.phantom.auxGood ≠ auxGood) then 0
          else s.phantom.lineQuiet } })
    ∧ ∀ s : State,
      (s.running = false → s.lockLine = false ∧ s.alertLine = false ∧ s.activeLine = false)
      ∧ (s.running = true →
        (s.lockLine = true ↔ s.timing.clock = .locked)
        ∧ (s.alertLine = true ↔ s.link.clash = true ∨ s.config.status = .defaults
          ∨ (∃ c, (s.phantom.recs.get c).state = .fault) ∨ ∃ c n, (s.steps.get c).front = .fault n)
        ∧ (s.activeLine = true ↔ ∃ f st since, (s.feeds.get f).binding = .bound st since))

/-- R60, R157, R159: at its block start a committed batch is written in arrival order, with no phantom write, and COMMITTED
is set: of the items that name one channel the last gain and the last mute stand, over the entry that stood or was created;
a loading batch whose idle age reaches 100 is dropped with TIMED OUT. The block of the writes is the one that
begins there (log entry 18). That BATCH_WRITE and BATCH_TIMEOUT, commanded by themselves, act just before the block start
at which they are due (an idle age of 99) is the model's choice (log entry 1). Which of the station table and the batch
buffer works first at a block start is left open by R157, and nothing here rests on it (log entry 16). -/
def Obligations.BatchAtItsBlockStart : Prop :=
  let writes : BatchBody → Word16 → State → State → Prop := fun b blk s t =>
    t = { s with
        demand := t.demand, batch := ⟨.idle, s.batch.flags ||| 1#4⟩
        report := { s.report with keys := t.report.keys }, link := { s.link with pair := t.link.pair } }
    ∧ Key.box ∈ t.report.keys
    ∧ (∀ c, (∀ i ∈ b.items, i.chan ≠ c) → t.demand.get c = s.demand.get c)
    ∧ KeysAsked (fun k => k = .box ∨ ∃ i ∈ b.items, k = .channel i.chan) s t
    ∧ ∀ c, (∃ i ∈ b.items, i.chan = c) →
      (t.demand.get c).dirty = true ∧ (t.demand.get c).view = (s.demand.get c).view
      ∧ (∀ g, g ≠ b.feed → t.entry c g = s.entry c g)
      ∧ ∃ x, t.entry c b.feed = some x ∧ x.last = blk
        ∧ (let old := (s.entry c b.feed).getD (freshEntry s c)
          x.phantom = old.phantom
          ∧ (∀ before i after n, b.items = before ++ i :: after → i.chan = c → i.gain = some n →
            (∀ j ∈ after, j.chan = c → j.gain = none) →
            x.gain = max (-48) (min 126 n) ∧ x.clamped = decide (x.gain ≠ n))
          ∧ ((∀ i ∈ b.items, i.chan = c → i.gain = none) → x.gain = old.gain ∧ x.clamped = old.clamped)
          ∧ (∀ before i after, b.items = before ++ i :: after → i.chan = c →
            (∀ j ∈ after, j.chan = c → j.mute = .keep) →
            (i.mute = .on → x.mute = true) ∧ (i.mute = .off → x.mute = false))
          ∧ ((∀ i ∈ b.items, i.chan = c → i.mute = .keep) → x.mute = old.mute))
  let timesOut : BatchBody → State → State → Prop := fun b s t =>
    t = { s with
        batch := ⟨.idle, s.batch.flags ||| 4#4⟩
        report := { s.report with
          slots := s.report.slots.set b.owner (some (plain 10 .timedOut b.tag)), keys := t.report.keys }
        link := { s.link with pair := t.link.pair } }
    ∧ Key.reply b.owner ∈ t.report.keys ∧ Key.box ∈ t.report.keys
  (∀ (s : State) (b : BatchBody), s.running = true → s.batch.record = .committing b →
      ∃ t, exec .batchWrite s = .next t ∧ writes b (s.timing.counter + 1) s t)
    ∧ (∀ (s : State) (b : BatchBody) (age : Nat), s.running = true → s.batch.record = .loading b age → 99 ≤ age →
      ∃ t, exec .batchTimeout s = .next t ∧ timesOut b s t)
    ∧ ∀ s : State,
      (s.batch.record = .idle → batchAtBlock s = s)
      ∧ (∀ b, s.batch.record = .committing b → writes b s.timing.counter s (batchAtBlock s))
      ∧ (∀ b age, s.batch.record = .loading b age →
        (age < 99 → batchAtBlock s = { s with batch := { s.batch with record := .loading b (age + 1) } })
        ∧ (99 ≤ age → timesOut b s (batchAtBlock s)))
      ∧ (let r := { s with seed := s.seed + 1 }
        (stationsAndBatch s = ageStations (batchAtBlock r) ∨ stationsAndBatch s = batchAtBlock (ageStations r))
        ∧ ((∀ b, s.batch.record.body = some b → s.link.stations.get b.owner ≠ .present .desk 199) →
          stationsAndBatch s = ageStations (batchAtBlock r)))

/-- R14, R41, R77, R78, R79, R160: a station of age 200 is LOST: a desk's feeds are orphaned and its batch discarded, a
box's link table entries removed; a link table entry of age 50 is removed; removals make their groups dirty and clear LINK
TABLE FULL. That STATION_LOSS and LINK_ENTRY_EXPIRY, commanded by themselves, act just before the block start at which they
are due (ages 199 and 49) is the model's choice (log entry 1). At a block start every station's entry ages, and so does
every link table entry, with the same effects. -/
def Obligations.LossesAndExpiries : Prop :=
  let removed : (LinkEntry → Bool) → State → State → Prop := fun p s t =>
    t.gain = { s.gain with
        table := s.gain.table.filter (fun x => !p x)
        full := if s.gain.table.any p then false else s.gain.full }
    ∧ (∀ c, t.demand.get c = { s.demand.get c with
        dirty := (s.demand.get c).dirty || s.gain.table.any (fun x => p x && x.group == s.group c) })
    ∧ (s.gain.table.any p = true → s.gain.full = true → Key.box ∈ t.report.keys)
  (∀ (st : Station) (age : Nat) (s : State), s.running = true → 199 ≤ age →
      (s.link.stations.get st = .present .desk age → ∃ t, exec (.stationLoss st) s = .next t
        ∧ t = { s with
            link := { s.link with stations := s.link.stations.set st (.lost .desk), pair := t.link.pair }
            feeds := t.feeds, batch := t.batch, report := { s.report with keys := t.report.keys } }
        ∧ (∀ f, (∀ since, (s.feeds.get f).binding = .bound st since →
            t.feeds.get f = { s.feeds.get f with binding := .orphaned st since } ∧ Key.box ∈ t.report.keys)
          ∧ ((∀ since, (s.feeds.get f).binding ≠ .bound st since) → t.feeds.get f = s.feeds.get f))
        ∧ DiscardedWhere (fun b => b.owner = st) s t)
      ∧ (s.link.stations.get st = .present .box age → ∃ t, exec (.stationLoss st) s = .next t
        ∧ t = { s with
            link := { s.link with stations := s.link.stations.set st (.lost .box) }
            demand := t.demand, gain := t.gain, report := { s.report with keys := t.report.keys } }
        ∧ removed (fun x => x.source == st) s t))
    ∧ (∀ (g : Group) (source : Station) (s : State), s.running = true →
      ∃ t, exec (.linkEntryExpiry g source) s = .next t
        ∧ t = { s with demand := t.demand, gain := t.gain, report := { s.report with keys := t.report.keys } }
        ∧ removed (fun x => x.group == g && x.source == source && decide (49 ≤ x.age)) s t)
    ∧ (∀ s : State, ageStations s = (List.finRange 32).foldl (fun t st => ageStation st t) s)
    ∧ (∀ (st : Station) (s : State),
      ((∀ role age, s.link.stations.get st ≠ .present role age) → ageStation st s = s)
      ∧ ∀ role age, s.link.stations.get st = .present role age →
        (age < 199 → ageStation st s
          = { s with link := { s.link with stations := s.link.stations.set st (.present role (age + 1)) } })
        ∧ (199 ≤ age → s.running = true → exec (.stationLoss st) s = .next (ageStation st s)))
    ∧ ∀ s : State,
      let aged := { s with gain := { s.gain with table := s.gain.table.map (fun x => { x with age := x.age + 1 }) } }
      let t := ageLinks s
      t = { s with demand := t.demand, gain := t.gain, report := { s.report with keys := t.report.keys } }
      ∧ removed (fun x => decide (50 ≤ x.age)) aged t

/-- R135, R136: a settle countdown falls by one at each block start, and the settle ends where it would reach 0: by state,
request and off cause; the off cause is kept and PHANTOM CHANGE is set. That SETTLE_END, commanded by itself, ends it just
before that block start (a countdown of 1), and that a settle which a command began for a block start does not count down
there, is the model's choice (log entry 1). -/
def Obligations.SettleEndMovesTheState : Prop :=
  let ends : PhantomState → Chan → State → State → Prop := fun st c s t =>
    let r := s.phantom.recs.get c
    t = { s with
        phantom := { s.phantom with recs := s.phantom.recs.set c { r with state := st } }
        link := { s.link with pair := t.link.pair }
        report := { s.report with
          keys := t.report.keys
          events := s.report.events.set c (s.report.events.get c ||| 16#9) } }
    ∧ Key.channel c ∈ t.report.keys
  (∀ (c : Chan) (s : State) (n : Nat), s.running = true → n ≤ 1 → Ahead.settle c ∉ s.ahead →
    let r := s.phantom.recs.get c
    let endsAs := fun st : PhantomState => ∃ t, exec (.settleEnd c) s = .next t ∧ ends st c s t
    (r.state = .rising n → endsAs .on)
    ∧ (r.state = .falling n →
      (s.requested c = false → endsAs .off)
      ∧ (s.requested c = true → r.cause = .released → endsAs (.waiting true))
      ∧ (s.requested c = true → r.cause = .shedBudget ∨ r.cause = .shedLoad → endsAs .shed)
      ∧ (s.requested c = true → r.cause = .short → endsAs .fault)))
  ∧ ∀ (c : Chan) (s : State),
    let r := s.phantom.recs.get c
    let t := advanceSettle c s
    let becomes := fun st : PhantomState =>
      t = { s with phantom := { s.phantom with recs := s.phantom.recs.set c { r with state := st } } }
    (Ahead.settle c ∈ s.ahead ∨ (∀ n, r.state ≠ .rising n ∧ r.state ≠ .falling n) → t = s)
    ∧ (Ahead.settle c ∉ s.ahead → ∀ n,
      (2 ≤ n → (r.state = .rising n → becomes (.rising (n - 1))) ∧ (r.state = .falling n → becomes (.falling (n - 1))))
      ∧ (n ≤ 1 →
        (r.state = .rising n → ends .on c s t)
        ∧ (r.state = .falling n →
          (s.requested c = false → ends .off c s t)
          ∧ (s.requested c = true → r.cause = .released → ends (.waiting true) c s t)
          ∧ (s.requested c = true → r.cause = .shedBudget ∨ r.cause = .shedLoad → ends .shed c s t)
          ∧ (s.requested c = true → r.cause = .short → ends .fault c s t))))

/-- R144, R145, R146, R138, R151: a short trips its channel; a lasting overload sheds one victim, if there is one; a bank
change takes the line index as the bank, queues BOX, and sheds victims in their order until the load fits, no more than
that takes, each with its SHED and PHANTOM CHANGE bits set and its CHANNEL key asked for; nothing but the phantom
controller and the reports of it changes. R141, R140: at a block start the phantom controller reads the monitors, advances the settles, judges shorts, advances the line quiet count, judges the overload and
makes the admission pass, in that order. That SHORT_TRIP, SHED_LOAD and BANK_CHANGE, commanded by themselves, act just
before the block start at which they are due (persistence 49 and a countdown of 151 or less, with no look at the current;
overload persistence 19; line quiet count 19), with notes for that block start, is the model's choice (log entry 1). -/
def Obligations.TripsShedsAndBankChanges : Prop :=
  let frame : State → State → Prop := fun s t => t = { s with
    phantom := t.phantom, link := { s.link with pair := t.link.pair }, ahead := t.ahead
    report := { s.report with keys := t.report.keys, events := t.report.events } }
  let trips : Chan → State → State → Prop := fun c s t =>
    let r := s.phantom.recs.get c
    let tripped := { r with state := .falling 250, cause := .short, persist := 0, shorts := r.shorts + 1 }
    frame s t ∧ t.phantom = { s.phantom with recs := s.phantom.recs.set c tripped }
    ∧ t.report.events = s.report.events.set c (s.report.events.get c ||| 16#9 ||| 128#9)
    ∧ Key.channel c ∈ t.report.keys ∧ Key.box ∈ t.report.keys
  let shedsOne : State → State → Prop := fun s t => frame s t
    ∧ (s.poweredChannels = [] → t.phantom = { s.phantom with overload := 0 } ∧ t.report = s.report)
    ∧ ∀ c ∈ s.poweredChannels, (∀ d ∈ s.poweredChannels, d = c ∨ ShedsBefore s c d) →
      t.phantom = { s.phantom with
        overload := 0, recs := s.phantom.recs.set c (shedRecord .shedLoad (s.phantom.recs.get c)) }
      ∧ t.report.events = s.report.events.set c (s.report.events.get c ||| 16#9 ||| 32#9)
      ∧ Key.channel c ∈ t.report.keys ∧ Key.box ∈ t.report.keys
  let changes : State → State → Prop := fun s t => frame s t
    ∧ t.phantom = { s.phantom with lineQuiet := 20, bank := s.lineIndex, recs := t.phantom.recs }
    ∧ Key.box ∈ t.report.keys ∧ t.load ≤ t.budget
    ∧ KeysAsked (fun k => k = .box ∨ ∃ c, k = .channel c ∧ t.phantom.recs.get c ≠ s.phantom.recs.get c) s t
    ∧ ∀ c, (t.phantom.recs.get c = s.phantom.recs.get c ∧ t.report.events.get c = s.report.events.get c)
      ∨ (c ∈ s.poweredChannels ∧ t.phantom.recs.get c = shedRecord .shedBudget (s.phantom.recs.get c)
        ∧ t.report.events.get c = s.report.events.get c ||| 16#9 ||| 32#9
        ∧ t.budget < t.load + t.config.allowance
        ∧ ∀ d ∈ s.poweredChannels, ShedsBefore s d c →
          t.phantom.recs.get d = shedRecord .shedBudget (s.phantom.recs.get d))
  (∀ (c : Chan) (s : State), s.running = true → 49 ≤ (s.phantom.recs.get c).persist →
      let r := s.phantom.recs.get c
      (r.state = .on ∨ ∃ n, n ≤ 151 ∧ r.state = .rising n) → ∃ t, exec (.shortTrip c) s = .next t ∧ trips c s t)
    ∧ (∀ s : State, s.running = true → 19 ≤ s.phantom.overload → ∃ t, exec .shedLoad s = .next t ∧ shedsOne s t)
    ∧ (∀ s : State, s.running = true → s.phantom.lineQuiet = 19 → s.lineIndex ≠ s.phantom.bank →
      ∃ t, exec .bankChange s = .next t ∧ changes s t)
    ∧ (∀ (m : Tab Nat 32) (s : State),
      let read := { s with phantom := { s.phantom with
        recs := Tab.gen (fun c => { s.phantom.recs.get c with current := min 255 (m.get c) }) } }
      phantomAtBlock m s = admissionPass (judgeOverload (advanceLines
        ((List.finRange 32).foldl (fun t c => judgeShort c t)
          ((List.finRange 32).foldl (fun t c => advanceSettle c t) read)))))
    ∧ (∀ (c : Chan) (s : State),
      let r := s.phantom.recs.get c
      let watched : Prop := r.state = .on ∨ ∃ n, n ≤ 150 ∧ r.state = .rising n
      let above : Prop := 8 * s.config.shortThreshold < r.current
      let becomes := fun n : Nat => judgeShort c s
        = { s with phantom := { s.phantom with recs := s.phantom.recs.set c { r with persist := n } } }
      (¬ watched ∨ ¬ above → becomes 0)
      ∧ (watched → above → r.persist < 49 → becomes (r.persist + 1))
      ∧ (watched → above → 49 ≤ r.persist → trips c s (judgeShort c s) ∧ (judgeShort c s).ahead = s.ahead))
    ∧ (∀ s : State,
      let beyond : Prop := 8 * s.budget < s.measuredTotal
      let becomes := fun n : Nat => judgeOverload s = { s with phantom := { s.phantom with overload := n } }
      (Ahead.overload ∈ s.ahead → judgeOverload s = s)
      ∧ (Ahead.overload ∉ s.ahead →
        (¬ beyond → becomes 0) ∧ (beyond → s.phantom.overload < 19 → becomes (s.phantom.overload + 1))
        ∧ (beyond → 19 ≤ s.phantom.overload → shedsOne s (judgeOverload s) ∧ (judgeOverload s).ahead = s.ahead)))
    ∧ ∀ s : State,
      (s.phantom.lineQuiet ≠ 19 ∨ s.lineIndex = s.phantom.bank → advanceLines s
        = { s with phantom := { s.phantom with lineQuiet := min 20 (s.phantom.lineQuiet + 1) } })
      ∧ (s.phantom.lineQuiet = 19 → s.lineIndex ≠ s.phantom.bank →
        changes s (advanceLines s) ∧ (advanceLines s).ahead = s.ahead)

/-- R20 to R27: a mark event is measured and taken under the clock state; nothing but the timing unit changes, and BOX is
asked for when the clock state does. The model's readings in it: ticks pass with the mark (log entry 7); a realignment ends
the block and its block start follows as its own command (9); while the part drives the line, there is no activation (10);
the offset is limited to its range (11); a mark at the very tick at which a missing mark falls due is a mark alone (14);
the lengths of the running and of the next block are two (15). -/
def Obligations.MarkEventUnderTheClockState : Prop :=
  ∀ (tick : Nat) (s : State), s.running = true →
    let u := s.timing
    let d := tick - u.blockTicks
    let n := min (u.tickCount + d) 16777215
    let after : Bool := decide (2 * tick < u.blockLen)
    let e : Int := max (-12288) (min 12287 (if after then (tick : Int) else tick - u.blockLen))
    let placed : Prop := -512 ≤ e ∧ e ≤ 512
    let inside : Prop := u.lastOffset ≠ none ∧ 24551 ≤ n ∧ n ≤ 24601
    let outside : Prop := u.lastOffset ≠ none ∧ ¬ (24551 ≤ n ∧ n ≤ 24601)
    ((∃ k, u.driveLeft = some k ∧ d < k) → exec (.markEvent tick) s = .next s)
    ∧ ((∀ k, u.driveLeft = some k → k ≤ d) → NoMissBefore d u →
      let v := { u with
        tickCount := 0, quietCount := 0, lastOffset := some e, blockTicks := u.blockTicks + d, driveLeft := none }
      let gives := fun w : Timing => ∃ t, exec (.markEvent tick) s = .next t
        ∧ t = { s with timing := w, report := { s.report with keys := t.report.keys } }
        ∧ (w.clock ≠ u.clock → Key.box ∈ t.report.keys)
      let acquire := { v with clock := .acquiring, lockCount := 0, blockLen := 24576, nextLen := 24576 }
      let realigned := fun w : Timing => { w with slip := true, nextLen := 24576 }
      let long := setFrom (n + e)
      let follow := fun w : Timing => { w with blockLen := if after then long else w.blockLen, nextLen := long }
      (u.clock = .free → (placed → gives acquire) ∧ (¬ placed → gives (realigned acquire)))
      ∧ (u.clock = .acquiring →
        (outside → (placed → gives { v with lockCount := 0 }) ∧ (¬ placed → gives (realigned { v with lockCount := 0 })))
        ∧ (u.lastOffset = none → (placed → gives v) ∧ (¬ placed → gives (realigned v)))
        ∧ (inside → u.lockCount < 15 → (placed → gives { v with lockCount := u.lockCount + 1 })
          ∧ (¬ placed → gives (realigned { v with lockCount := u.lockCount + 1 })))
        ∧ (inside → u.lockCount = 15 →
          let locked := { v with clock := .locked, lockCount := 16, badCount := 0 }
          (placed → gives (follow locked))
          ∧ (¬ placed → gives { locked with slip := true, nextLen := setFrom n })))
      ∧ (u.clock = .locked →
        (inside → placed → gives (follow { v with badCount := 0 }))
        ∧ (outside ∨ ¬ placed → (u.badCount < 2 → gives { v with badCount := u.badCount + 1 })
          ∧ (u.badCount = 2 → gives { v with clock := .holdover, badCount := 3 })))
      ∧ (u.clock = .holdover →
        (¬ inside → gives v) ∧ (inside → placed → gives acquire) ∧ (inside → ¬ placed → gives (realigned acquire))))

/-- R23, R26: ENTER_LOCKED is the mark that completes the lock count, and ENTER_HOLDOVER the third bad mark, a misplaced
mark, one with an interval out of window, or any missing mark; each is that event taken whole (log entries 1 and 2). -/
def Obligations.LockedAndHoldoverAreEntered : Prop :=
  (∀ (tick : Nat) (s : State), s.running = true → s.timing.clock = .acquiring → s.timing.lockCount = 15 →
      (∀ k, s.timing.driveLeft = some k → k ≤ tick - s.timing.blockTicks) → s.timing.lastOffset ≠ none →
      NoMissBefore (tick - s.timing.blockTicks) s.timing →
      24551 ≤ s.timing.tickCount + (tick - s.timing.blockTicks) →
      s.timing.tickCount + (tick - s.timing.blockTicks) ≤ 24601 →
      ∃ t, exec (.enterLocked tick) s = .next t ∧ exec (.markEvent tick) s = .next t ∧ t.timing.clock = .locked
        ∧ t.lockLine = true)
    ∧ (∀ (tick : Nat) (s : State), s.running = true → s.timing.clock = .locked → s.timing.badCount = 2 →
      let u := s.timing
      let d := tick - u.blockTicks
      let n := u.tickCount + d
      let e : Int := max (-12288) (min 12287 (if 2 * tick < u.blockLen then (tick : Int) else tick - u.blockLen))
      (∀ k, u.driveLeft = some k → k ≤ d) → NoMissBefore d u →
      (u.lastOffset ≠ none ∧ ¬ (24551 ≤ n ∧ n ≤ 24601)) ∨ ¬ (-512 ≤ e ∧ e ≤ 512) →
      ∃ t, exec (.enterHoldover (.mark tick)) s = .next t ∧ exec (.markEvent tick) s = .next t
        ∧ t.timing.clock = .holdover ∧ t.lockLine = false)
    ∧ (∀ (s : State) (k : Nat), s.running = true → s.timing.clock = .locked → s.timing.badCount = 2 →
      s.timing.lastOffset ≠ none →
      let due := 36864 + 24576 * k
      s.timing.tickCount < due → (k = 0 ∨ due - 24576 ≤ s.timing.tickCount) → due ≤ 16777215 →
      due - s.timing.tickCount ≤ s.timing.blockLen - s.timing.blockTicks →
      ∃ t, exec (.enterHoldover .missing) s = .next t ∧ exec .missingMark s = .next t ∧ t.timing.clock = .holdover
        ∧ t.timing.tickCount = due ∧ t.lockLine = false)
    ∧ ∀ (tick : Nat) (s t : State), exec (.markEvent tick) s = .next t →
      (¬ (s.timing.clock = .acquiring ∧ t.timing.clock = .locked) → exec (.enterLocked tick) s = .next s)
      ∧ (¬ (s.timing.clock = .locked ∧ t.timing.clock = .holdover) → exec (.enterHoldover (.mark tick)) s = .next s)

/-- R19, R21, R23, R26, R27: a missing mark, by clock state, with the block lengths and all else of the timing unit as the
ticks leave them; the quiet count that reaches 1,000 returns ACQUIRING and HOLDOVER to FREE at the nominal rate; the part's
drive of the mark line ends when its ticks have passed. R19, R20: at a block start, with mark lead and the line free, the
part drives the line, and that is a mark event of offset 0. The model's
choices in it: QUIET_COUNT_EXPIRY by itself acts just before its block start, at a quiet count of 999, with a note for the
header of the block that ends (log entries 1 and 12); MISSING_MARK and MARK_LINE_RELEASE pass the ticks up to their moment
(7); the lock count is 0 after the return from HOLDOVER (34); the part's own drive is a mark event inside the block start
(10). -/
def Obligations.MissingMarksQuietAndRelease : Prop :=
  (∀ (s : State) (k : Nat), s.running = true → s.timing.lastOffset ≠ none →
      let due := 36864 + 24576 * k
      let d := due - s.timing.tickCount
      s.timing.tickCount < due → (k = 0 ∨ due - 24576 ≤ s.timing.tickCount) → due ≤ 16777215 →
      d ≤ s.timing.blockLen - s.timing.blockTicks →
      ∃ t, exec .missingMark s = .next t
        ∧ t = { s with timing := t.timing, report := { s.report with keys := t.report.keys } }
        ∧ t.timing.tickCount = due ∧ t.timing.blockTicks = s.timing.blockTicks + d
        ∧ t.timing.lastOffset = s.timing.lastOffset
        ∧ t.timing = ticked d s.timing ∧ KeysAsked (fun k => k = .box ∧ t.timing.clock ≠ s.timing.clock) s t
        ∧ (s.timing.clock = .free ∨ s.timing.clock = .holdover →
          t.timing.clock = s.timing.clock ∧ t.timing.lockCount = s.timing.lockCount
          ∧ t.timing.badCount = s.timing.badCount)
        ∧ (s.timing.clock = .acquiring → t.timing.clock = .acquiring ∧ t.timing.lockCount = 0)
        ∧ (s.timing.clock = .locked → s.timing.badCount < 2 →
          t.timing.clock = .locked ∧ t.timing.badCount = s.timing.badCount + 1)
        ∧ (s.timing.clock = .locked → s.timing.badCount = 2 → t.timing.clock = .holdover ∧ Key.box ∈ t.report.keys))
    ∧ (∀ s : State, s.running = true → s.timing.clock = .acquiring ∨ s.timing.clock = .holdover →
      999 ≤ s.timing.quietCount →
      ∃ t, exec .quietCountExpiry s = .next t
        ∧ t = { s with
            timing := { s.timing with clock := .free, lockCount := 0, blockLen := 24576, nextLen := 24576 }
            report := { s.report with keys := t.report.keys }, ahead := .quiet s.timing.clock :: s.ahead }
        ∧ Key.box ∈ t.report.keys)
    ∧ (∀ (s : State) (n : Nat), s.running = true → s.timing.driveLeft = some n →
      ∃ t, exec .markLineRelease s = .next t ∧ t.timing.driveLeft = none
        ∧ t.timing.blockTicks = s.timing.blockTicks + n
        ∧ t.timing = ticked n s.timing ∧ KeysAsked (fun k => k = .box ∧ t.timing.clock ≠ s.timing.clock) s t
        ∧ t = { s with timing := t.timing, report := { s.report with keys := t.report.keys } })
    ∧ ∀ (active : Bool) (s : State),
      let u := s.timing
      let t := driveMark active s
      let v := { u with tickCount := 0, quietCount := 0, lastOffset := some 0, driveLeft := some 2048 }
      let n := u.tickCount
      let inside : Prop := u.lastOffset ≠ none ∧ 24551 ≤ n ∧ n ≤ 24601
      let outside : Prop := u.lastOffset ≠ none ∧ ¬ (24551 ≤ n ∧ n ≤ 24601)
      let acquire := { v with clock := .acquiring, lockCount := 0, blockLen := 24576, nextLen := 24576 }
      let gives := fun w : Timing => t = { s with timing := w, report := { s.report with keys := t.report.keys } }
        ∧ (w.clock ≠ u.clock → Key.box ∈ t.report.keys)
      (s.config.markLead = false ∨ active = true ∨ u.driveLeft ≠ none → t = s)
      ∧ (s.config.markLead = true → active = false → u.driveLeft = none →
        (u.clock = .free → gives acquire)
        ∧ (u.clock = .acquiring → (u.lastOffset = none → gives v) ∧ (outside → gives { v with lockCount := 0 })
          ∧ (inside → u.lockCount < 15 → gives { v with lockCount := u.lockCount + 1 })
          ∧ (inside → u.lockCount = 15 → gives { v with
              clock := .locked, lockCount := 16, badCount := 0, blockLen := setFrom n, nextLen := setFrom n }))
        ∧ (u.clock = .locked →
          (inside → gives { v with badCount := 0, blockLen := setFrom n, nextLen := setFrom n })
          ∧ (outside → u.badCount < 2 → gives { v with badCount := u.badCount + 1 })
          ∧ (outside → u.badCount = 2 → gives { v with clock := .holdover, badCount := 3 }))
        ∧ (u.clock = .holdover → (inside → gives acquire) ∧ (¬ inside → gives v)))

/-- The events of the part that are commanded by themselves change nothing when they are not due (the model's choice, log
entry 2). -/
def Obligations.EventsThatAreNotDueChangeNothing : Prop :=
  ∀ s : State,
    (∀ st, (∀ role age, s.link.stations.get st = .present role age → age < 199) → exec (.stationLoss st) s = .next s)
    ∧ ((∀ b, s.batch.record ≠ .committing b) → exec .batchWrite s = .next s)
    ∧ ((∀ b age, s.batch.record = .loading b age → age < 99) → exec .batchTimeout s = .next s)
    ∧ (∀ c, (s.steps.get c).pending = none → exec (.compensation c) s = .next s)
    ∧ (∀ c p, (s.steps.get c).pending = some p → 0 < p.countdown → p.atIssue = true ∨ 1 < p.countdown →
      exec (.compensation c) s = .next s)
    ∧ (∀ c code, (∀ n, (s.steps.get c).front = .fault n → n < 99) → exec (.retryWrite c code) s = .next s)
    ∧ (s.head.windowAge < 9 → exec .windowClose s = .next s)
    ∧ (∀ c, (∀ n, (s.phantom.recs.get c).state = .rising n ∨ (s.phantom.recs.get c).state = .falling n → 1 < n) →
      exec (.settleEnd c) s = .next s)
    ∧ (∀ c, (s.phantom.recs.get c).persist < 49 ∨ (s.phantom.recs.get c).state.powered = false →
      exec (.shortTrip c) s = .next s)
    ∧ (s.phantom.overload < 19 → exec .shedLoad s = .next s)
    ∧ (s.phantom.lineQuiet ≠ 19 ∨ s.lineIndex = s.phantom.bank → exec .bankChange s = .next s)
    ∧ (s.timing.quietCount < 999 ∨ s.timing.clock = .free ∨ s.timing.clock = .locked →
      exec .quietCountExpiry s = .next s)
    ∧ (s.timing.driveLeft = none → exec .markLineRelease s = .next s)
    ∧ (s.timing.lastOffset = none → exec .missingMark s = .next s ∧ exec (.enterHoldover .missing) s = .next s)
end

