-- ==== Sys2Proof/Laws/State.lean ====
section
/-! SUPPORT. The fields that each plain update leaves as they were: one lemma for a field and an update, so that no proof
unfolds a record update. -/

namespace Sys2Proof.Laws

open Sys2Proof.Machine

variable (s : State)

@[simp] theorem ask_phase (k : Key) : (ask k s).phase = s.phase := rfl
@[simp] theorem ask_own (k : Key) : (ask k s).own = s.own := rfl
@[simp] theorem ask_config (k : Key) : (ask k s).config = s.config := rfl
@[simp] theorem ask_link (k : Key) : (ask k s).link = s.link := rfl
@[simp] theorem ask_timing (k : Key) : (ask k s).timing = s.timing := rfl
@[simp] theorem ask_feeds (k : Key) : (ask k s).feeds = s.feeds := rfl
@[simp] theorem ask_demand (k : Key) : (ask k s).demand = s.demand := rfl
@[simp] theorem ask_gain (k : Key) : (ask k s).gain = s.gain := rfl
@[simp] theorem ask_steps (k : Key) : (ask k s).steps = s.steps := rfl
@[simp] theorem ask_paths (k : Key) : (ask k s).paths = s.paths := rfl
@[simp] theorem ask_head (k : Key) : (ask k s).head = s.head := rfl
@[simp] theorem ask_phantom (k : Key) : (ask k s).phantom = s.phantom := rfl
@[simp] theorem ask_batch (k : Key) : (ask k s).batch = s.batch := rfl
@[simp] theorem ask_ahead (k : Key) : (ask k s).ahead = s.ahead := rfl
@[simp] theorem ask_seed (k : Key) : (ask k s).seed = s.seed := rfl
@[simp] theorem ask_pending (k : Key) : (ask k s).pending = s.pending := rfl

@[simp] theorem setEvent_phase (c : Chan) (e : Event) : (setEvent c e s).phase = s.phase := rfl
@[simp] theorem setEvent_own (c : Chan) (e : Event) : (setEvent c e s).own = s.own := rfl
@[simp] theorem setEvent_config (c : Chan) (e : Event) : (setEvent c e s).config = s.config := rfl
@[simp] theorem setEvent_timing (c : Chan) (e : Event) : (setEvent c e s).timing = s.timing := rfl
@[simp] theorem setEvent_feeds (c : Chan) (e : Event) : (setEvent c e s).feeds = s.feeds := rfl
@[simp] theorem setEvent_demand (c : Chan) (e : Event) : (setEvent c e s).demand = s.demand := rfl
@[simp] theorem setEvent_gain (c : Chan) (e : Event) : (setEvent c e s).gain = s.gain := rfl
@[simp] theorem setEvent_steps (c : Chan) (e : Event) : (setEvent c e s).steps = s.steps := rfl
@[simp] theorem setEvent_paths (c : Chan) (e : Event) : (setEvent c e s).paths = s.paths := rfl
@[simp] theorem setEvent_head (c : Chan) (e : Event) : (setEvent c e s).head = s.head := rfl
@[simp] theorem setEvent_phantom (c : Chan) (e : Event) : (setEvent c e s).phantom = s.phantom := rfl
@[simp] theorem setEvent_batch (c : Chan) (e : Event) : (setEvent c e s).batch = s.batch := rfl
@[simp] theorem setEvent_ahead (c : Chan) (e : Event) : (setEvent c e s).ahead = s.ahead := rfl
@[simp] theorem setEvent_seed (c : Chan) (e : Event) : (setEvent c e s).seed = s.seed := rfl
@[simp] theorem setEvent_pending (c : Chan) (e : Event) : (setEvent c e s).pending = s.pending := rfl

@[simp] theorem setFlag_phase (f : BatchFlag) : (setFlag f s).phase = s.phase := rfl
@[simp] theorem setFlag_own (f : BatchFlag) : (setFlag f s).own = s.own := rfl
@[simp] theorem setFlag_config (f : BatchFlag) : (setFlag f s).config = s.config := rfl
@[simp] theorem setFlag_timing (f : BatchFlag) : (setFlag f s).timing = s.timing := rfl
@[simp] theorem setFlag_feeds (f : BatchFlag) : (setFlag f s).feeds = s.feeds := rfl
@[simp] theorem setFlag_demand (f : BatchFlag) : (setFlag f s).demand = s.demand := rfl
@[simp] theorem setFlag_gain (f : BatchFlag) : (setFlag f s).gain = s.gain := rfl
@[simp] theorem setFlag_steps (f : BatchFlag) : (setFlag f s).steps = s.steps := rfl
@[simp] theorem setFlag_paths (f : BatchFlag) : (setFlag f s).paths = s.paths := rfl
@[simp] theorem setFlag_head (f : BatchFlag) : (setFlag f s).head = s.head := rfl
@[simp] theorem setFlag_phantom (f : BatchFlag) : (setFlag f s).phantom = s.phantom := rfl
@[simp] theorem setFlag_ahead (f : BatchFlag) : (setFlag f s).ahead = s.ahead := rfl
@[simp] theorem setFlag_seed (f : BatchFlag) : (setFlag f s).seed = s.seed := rfl
@[simp] theorem setFlag_pending (f : BatchFlag) : (setFlag f s).pending = s.pending := rfl

@[simp] theorem place_phase (st : Station) (a : Answer) : (place st a s).phase = s.phase := rfl
@[simp] theorem place_own (st : Station) (a : Answer) : (place st a s).own = s.own := rfl
@[simp] theorem place_config (st : Station) (a : Answer) : (place st a s).config = s.config := rfl
@[simp] theorem place_timing (st : Station) (a : Answer) : (place st a s).timing = s.timing := rfl
@[simp] theorem place_feeds (st : Station) (a : Answer) : (place st a s).feeds = s.feeds := rfl
@[simp] theorem place_demand (st : Station) (a : Answer) : (place st a s).demand = s.demand := rfl
@[simp] theorem place_gain (st : Station) (a : Answer) : (place st a s).gain = s.gain := rfl
@[simp] theorem place_steps (st : Station) (a : Answer) : (place st a s).steps = s.steps := rfl
@[simp] theorem place_paths (st : Station) (a : Answer) : (place st a s).paths = s.paths := rfl
@[simp] theorem place_head (st : Station) (a : Answer) : (place st a s).head = s.head := rfl
@[simp] theorem place_phantom (st : Station) (a : Answer) : (place st a s).phantom = s.phantom := rfl
@[simp] theorem place_batch (st : Station) (a : Answer) : (place st a s).batch = s.batch := rfl
@[simp] theorem place_ahead (st : Station) (a : Answer) : (place st a s).ahead = s.ahead := rfl
@[simp] theorem place_seed (st : Station) (a : Answer) : (place st a s).seed = s.seed := rfl
@[simp] theorem place_pending (st : Station) (a : Answer) : (place st a s).pending = s.pending := rfl

@[simp] theorem answer_phase (e : Envelope) (k : Byte) (o : OutcomeCode) : (answer e k o s).phase = s.phase := rfl
@[simp] theorem answer_own (e : Envelope) (k : Byte) (o : OutcomeCode) : (answer e k o s).own = s.own := rfl
@[simp] theorem answer_config (e : Envelope) (k : Byte) (o : OutcomeCode) : (answer e k o s).config = s.config := rfl
@[simp] theorem answer_timing (e : Envelope) (k : Byte) (o : OutcomeCode) : (answer e k o s).timing = s.timing := rfl
@[simp] theorem answer_feeds (e : Envelope) (k : Byte) (o : OutcomeCode) : (answer e k o s).feeds = s.feeds := rfl
@[simp] theorem answer_demand (e : Envelope) (k : Byte) (o : OutcomeCode) : (answer e k o s).demand = s.demand := rfl
@[simp] theorem answer_gain (e : Envelope) (k : Byte) (o : OutcomeCode) : (answer e k o s).gain = s.gain := rfl
@[simp] theorem answer_steps (e : Envelope) (k : Byte) (o : OutcomeCode) : (answer e k o s).steps = s.steps := rfl
@[simp] theorem answer_paths (e : Envelope) (k : Byte) (o : OutcomeCode) : (answer e k o s).paths = s.paths := rfl
@[simp] theorem answer_head (e : Envelope) (k : Byte) (o : OutcomeCode) : (answer e k o s).head = s.head := rfl
@[simp] theorem answer_phantom (e : Envelope) (k : Byte) (o : OutcomeCode) : (answer e k o s).phantom = s.phantom := rfl
@[simp] theorem answer_batch (e : Envelope) (k : Byte) (o : OutcomeCode) : (answer e k o s).batch = s.batch := rfl
@[simp] theorem answer_ahead (e : Envelope) (k : Byte) (o : OutcomeCode) : (answer e k o s).ahead = s.ahead := rfl
@[simp] theorem answer_seed (e : Envelope) (k : Byte) (o : OutcomeCode) : (answer e k o s).seed = s.seed := rfl
@[simp] theorem answer_pending (e : Envelope) (k : Byte) (o : OutcomeCode) : (answer e k o s).pending = s.pending := rfl

@[simp] theorem markDirty_phase (c : Chan) : (markDirty c s).phase = s.phase := rfl
@[simp] theorem markDirty_own (c : Chan) : (markDirty c s).own = s.own := rfl
@[simp] theorem markDirty_config (c : Chan) : (markDirty c s).config = s.config := rfl
@[simp] theorem markDirty_link (c : Chan) : (markDirty c s).link = s.link := rfl
@[simp] theorem markDirty_timing (c : Chan) : (markDirty c s).timing = s.timing := rfl
@[simp] theorem markDirty_feeds (c : Chan) : (markDirty c s).feeds = s.feeds := rfl
@[simp] theorem markDirty_gain (c : Chan) : (markDirty c s).gain = s.gain := rfl
@[simp] theorem markDirty_steps (c : Chan) : (markDirty c s).steps = s.steps := rfl
@[simp] theorem markDirty_paths (c : Chan) : (markDirty c s).paths = s.paths := rfl
@[simp] theorem markDirty_head (c : Chan) : (markDirty c s).head = s.head := rfl
@[simp] theorem markDirty_phantom (c : Chan) : (markDirty c s).phantom = s.phantom := rfl
@[simp] theorem markDirty_batch (c : Chan) : (markDirty c s).batch = s.batch := rfl
@[simp] theorem markDirty_report (c : Chan) : (markDirty c s).report = s.report := rfl
@[simp] theorem markDirty_ahead (c : Chan) : (markDirty c s).ahead = s.ahead := rfl
@[simp] theorem markDirty_seed (c : Chan) : (markDirty c s).seed = s.seed := rfl
@[simp] theorem markDirty_pending (c : Chan) : (markDirty c s).pending = s.pending := rfl

@[simp] theorem markGroups_phase (gs : List Group) : (markGroups gs s).phase = s.phase := rfl
@[simp] theorem markGroups_own (gs : List Group) : (markGroups gs s).own = s.own := rfl
@[simp] theorem markGroups_config (gs : List Group) : (markGroups gs s).config = s.config := rfl
@[simp] theorem markGroups_link (gs : List Group) : (markGroups gs s).link = s.link := rfl
@[simp] theorem markGroups_timing (gs : List Group) : (markGroups gs s).timing = s.timing := rfl
@[simp] theorem markGroups_feeds (gs : List Group) : (markGroups gs s).feeds = s.feeds := rfl
@[simp] theorem markGroups_gain (gs : List Group) : (markGroups gs s).gain = s.gain := rfl
@[simp] theorem markGroups_steps (gs : List Group) : (markGroups gs s).steps = s.steps := rfl
@[simp] theorem markGroups_paths (gs : List Group) : (markGroups gs s).paths = s.paths := rfl
@[simp] theorem markGroups_head (gs : List Group) : (markGroups gs s).head = s.head := rfl
@[simp] theorem markGroups_phantom (gs : List Group) : (markGroups gs s).phantom = s.phantom := rfl
@[simp] theorem markGroups_batch (gs : List Group) : (markGroups gs s).batch = s.batch := rfl
@[simp] theorem markGroups_report (gs : List Group) : (markGroups gs s).report = s.report := rfl
@[simp] theorem markGroups_ahead (gs : List Group) : (markGroups gs s).ahead = s.ahead := rfl
@[simp] theorem markGroups_seed (gs : List Group) : (markGroups gs s).seed = s.seed := rfl
@[simp] theorem markGroups_pending (gs : List Group) : (markGroups gs s).pending = s.pending := rfl

@[simp] theorem setFeeds_phase (t : Tab FeedRec 6) : (setFeeds t s).phase = s.phase := by unfold setFeeds; split <;> rfl
@[simp] theorem setFeeds_own (t : Tab FeedRec 6) : (setFeeds t s).own = s.own := by unfold setFeeds; split <;> rfl
@[simp] theorem setFeeds_config (t : Tab FeedRec 6) : (setFeeds t s).config = s.config := by unfold setFeeds; split <;> rfl
@[simp] theorem setFeeds_link (t : Tab FeedRec 6) : (setFeeds t s).link = s.link := by unfold setFeeds; split <;> rfl
@[simp] theorem setFeeds_timing (t : Tab FeedRec 6) : (setFeeds t s).timing = s.timing := by unfold setFeeds; split <;> rfl
@[simp] theorem setFeeds_demand (t : Tab FeedRec 6) : (setFeeds t s).demand = s.demand := by unfold setFeeds; split <;> rfl
@[simp] theorem setFeeds_gain (t : Tab FeedRec 6) : (setFeeds t s).gain = s.gain := by unfold setFeeds; split <;> rfl
@[simp] theorem setFeeds_steps (t : Tab FeedRec 6) : (setFeeds t s).steps = s.steps := by unfold setFeeds; split <;> rfl
@[simp] theorem setFeeds_paths (t : Tab FeedRec 6) : (setFeeds t s).paths = s.paths := by unfold setFeeds; split <;> rfl
@[simp] theorem setFeeds_head (t : Tab FeedRec 6) : (setFeeds t s).head = s.head := by unfold setFeeds; split <;> rfl
@[simp] theorem setFeeds_phantom (t : Tab FeedRec 6) : (setFeeds t s).phantom = s.phantom := by unfold setFeeds; split <;> rfl
@[simp] theorem setFeeds_batch (t : Tab FeedRec 6) : (setFeeds t s).batch = s.batch := by unfold setFeeds; split <;> rfl
@[simp] theorem setFeeds_ahead (t : Tab FeedRec 6) : (setFeeds t s).ahead = s.ahead := by unfold setFeeds; split <;> rfl
@[simp] theorem setFeeds_seed (t : Tab FeedRec 6) : (setFeeds t s).seed = s.seed := by unfold setFeeds; split <;> rfl
@[simp] theorem setFeeds_pending (t : Tab FeedRec 6) : (setFeeds t s).pending = s.pending := by unfold setFeeds; split <;> rfl

@[simp] theorem setBatch_phase (r : BatchRecord) : (setBatch r s).phase = s.phase := rfl
@[simp] theorem setBatch_own (r : BatchRecord) : (setBatch r s).own = s.own := rfl
@[simp] theorem setBatch_config (r : BatchRecord) : (setBatch r s).config = s.config := rfl
@[simp] theorem setBatch_link (r : BatchRecord) : (setBatch r s).link = s.link := rfl
@[simp] theorem setBatch_timing (r : BatchRecord) : (setBatch r s).timing = s.timing := rfl
@[simp] theorem setBatch_feeds (r : BatchRecord) : (setBatch r s).feeds = s.feeds := rfl
@[simp] theorem setBatch_demand (r : BatchRecord) : (setBatch r s).demand = s.demand := rfl
@[simp] theorem setBatch_gain (r : BatchRecord) : (setBatch r s).gain = s.gain := rfl
@[simp] theorem setBatch_steps (r : BatchRecord) : (setBatch r s).steps = s.steps := rfl
@[simp] theorem setBatch_paths (r : BatchRecord) : (setBatch r s).paths = s.paths := rfl
@[simp] theorem setBatch_head (r : BatchRecord) : (setBatch r s).head = s.head := rfl
@[simp] theorem setBatch_phantom (r : BatchRecord) : (setBatch r s).phantom = s.phantom := rfl
@[simp] theorem setBatch_ahead (r : BatchRecord) : (setBatch r s).ahead = s.ahead := rfl
@[simp] theorem setBatch_seed (r : BatchRecord) : (setBatch r s).seed = s.seed := rfl
@[simp] theorem setBatch_pending (r : BatchRecord) : (setBatch r s).pending = s.pending := rfl

@[simp] theorem dropBatch_phase (f : BatchFlag) : (dropBatch f s).phase = s.phase := rfl
@[simp] theorem dropBatch_own (f : BatchFlag) : (dropBatch f s).own = s.own := rfl
@[simp] theorem dropBatch_config (f : BatchFlag) : (dropBatch f s).config = s.config := rfl
@[simp] theorem dropBatch_timing (f : BatchFlag) : (dropBatch f s).timing = s.timing := rfl
@[simp] theorem dropBatch_feeds (f : BatchFlag) : (dropBatch f s).feeds = s.feeds := rfl
@[simp] theorem dropBatch_demand (f : BatchFlag) : (dropBatch f s).demand = s.demand := rfl
@[simp] theorem dropBatch_gain (f : BatchFlag) : (dropBatch f s).gain = s.gain := rfl
@[simp] theorem dropBatch_steps (f : BatchFlag) : (dropBatch f s).steps = s.steps := rfl
@[simp] theorem dropBatch_paths (f : BatchFlag) : (dropBatch f s).paths = s.paths := rfl
@[simp] theorem dropBatch_head (f : BatchFlag) : (dropBatch f s).head = s.head := rfl
@[simp] theorem dropBatch_phantom (f : BatchFlag) : (dropBatch f s).phantom = s.phantom := rfl
@[simp] theorem dropBatch_ahead (f : BatchFlag) : (dropBatch f s).ahead = s.ahead := rfl
@[simp] theorem dropBatch_seed (f : BatchFlag) : (dropBatch f s).seed = s.seed := rfl
@[simp] theorem dropBatch_pending (f : BatchFlag) : (dropBatch f s).pending = s.pending := rfl

@[simp] theorem messageEnded_phase : (messageEnded s).phase = s.phase := rfl
@[simp] theorem messageEnded_own : (messageEnded s).own = s.own := rfl
@[simp] theorem messageEnded_config : (messageEnded s).config = s.config := rfl
@[simp] theorem messageEnded_timing : (messageEnded s).timing = s.timing := rfl
@[simp] theorem messageEnded_feeds : (messageEnded s).feeds = s.feeds := rfl
@[simp] theorem messageEnded_demand : (messageEnded s).demand = s.demand := rfl
@[simp] theorem messageEnded_gain : (messageEnded s).gain = s.gain := rfl
@[simp] theorem messageEnded_steps : (messageEnded s).steps = s.steps := rfl
@[simp] theorem messageEnded_paths : (messageEnded s).paths = s.paths := rfl
@[simp] theorem messageEnded_head : (messageEnded s).head = s.head := rfl
@[simp] theorem messageEnded_phantom : (messageEnded s).phantom = s.phantom := rfl
@[simp] theorem messageEnded_batch : (messageEnded s).batch = s.batch := rfl
@[simp] theorem messageEnded_report : (messageEnded s).report = s.report := rfl
@[simp] theorem messageEnded_ahead : (messageEnded s).ahead = s.ahead := rfl
@[simp] theorem messageEnded_seed : (messageEnded s).seed = s.seed := rfl
@[simp] theorem messageEnded_pending : (messageEnded s).pending = s.pending := rfl

@[simp] theorem enterClash_phase : (enterClash s).phase = s.phase := rfl
@[simp] theorem enterClash_own : (enterClash s).own = s.own := rfl
@[simp] theorem enterClash_config : (enterClash s).config = s.config := rfl
@[simp] theorem enterClash_timing : (enterClash s).timing = s.timing := rfl
@[simp] theorem enterClash_feeds : (enterClash s).feeds = s.feeds := rfl
@[simp] theorem enterClash_demand : (enterClash s).demand = s.demand := rfl
@[simp] theorem enterClash_gain : (enterClash s).gain = s.gain := rfl
@[simp] theorem enterClash_steps : (enterClash s).steps = s.steps := rfl
@[simp] theorem enterClash_paths : (enterClash s).paths = s.paths := rfl
@[simp] theorem enterClash_head : (enterClash s).head = s.head := rfl
@[simp] theorem enterClash_phantom : (enterClash s).phantom = s.phantom := rfl
@[simp] theorem enterClash_batch : (enterClash s).batch = s.batch := rfl
@[simp] theorem enterClash_report : (enterClash s).report = s.report := rfl
@[simp] theorem enterClash_ahead : (enterClash s).ahead = s.ahead := rfl
@[simp] theorem enterClash_seed : (enterClash s).seed = s.seed := rfl
@[simp] theorem enterClash_pending : (enterClash s).pending = s.pending := rfl

@[simp] theorem presentView_phase : (presentView s).phase = s.phase := rfl
@[simp] theorem presentView_own : (presentView s).own = s.own := rfl
@[simp] theorem presentView_config : (presentView s).config = s.config := rfl
@[simp] theorem presentView_link : (presentView s).link = s.link := rfl
@[simp] theorem presentView_timing : (presentView s).timing = s.timing := rfl
@[simp] theorem presentView_feeds : (presentView s).feeds = s.feeds := rfl
@[simp] theorem presentView_gain : (presentView s).gain = s.gain := rfl
@[simp] theorem presentView_steps : (presentView s).steps = s.steps := rfl
@[simp] theorem presentView_paths : (presentView s).paths = s.paths := rfl
@[simp] theorem presentView_head : (presentView s).head = s.head := rfl
@[simp] theorem presentView_phantom : (presentView s).phantom = s.phantom := rfl
@[simp] theorem presentView_batch : (presentView s).batch = s.batch := rfl
@[simp] theorem presentView_report : (presentView s).report = s.report := rfl
@[simp] theorem presentView_ahead : (presentView s).ahead = s.ahead := rfl
@[simp] theorem presentView_seed : (presentView s).seed = s.seed := rfl
@[simp] theorem presentView_pending : (presentView s).pending = s.pending := rfl

@[simp] theorem putHead_phase (c : Chan) (r : HeadRec) : (putHead c r s).phase = s.phase := rfl
@[simp] theorem putHead_own (c : Chan) (r : HeadRec) : (putHead c r s).own = s.own := rfl
@[simp] theorem putHead_config (c : Chan) (r : HeadRec) : (putHead c r s).config = s.config := rfl
@[simp] theorem putHead_link (c : Chan) (r : HeadRec) : (putHead c r s).link = s.link := rfl
@[simp] theorem putHead_timing (c : Chan) (r : HeadRec) : (putHead c r s).timing = s.timing := rfl
@[simp] theorem putHead_feeds (c : Chan) (r : HeadRec) : (putHead c r s).feeds = s.feeds := rfl
@[simp] theorem putHead_demand (c : Chan) (r : HeadRec) : (putHead c r s).demand = s.demand := rfl
@[simp] theorem putHead_gain (c : Chan) (r : HeadRec) : (putHead c r s).gain = s.gain := rfl
@[simp] theorem putHead_steps (c : Chan) (r : HeadRec) : (putHead c r s).steps = s.steps := rfl
@[simp] theorem putHead_paths (c : Chan) (r : HeadRec) : (putHead c r s).paths = s.paths := rfl
@[simp] theorem putHead_phantom (c : Chan) (r : HeadRec) : (putHead c r s).phantom = s.phantom := rfl
@[simp] theorem putHead_batch (c : Chan) (r : HeadRec) : (putHead c r s).batch = s.batch := rfl
@[simp] theorem putHead_report (c : Chan) (r : HeadRec) : (putHead c r s).report = s.report := rfl
@[simp] theorem putHead_ahead (c : Chan) (r : HeadRec) : (putHead c r s).ahead = s.ahead := rfl
@[simp] theorem putHead_seed (c : Chan) (r : HeadRec) : (putHead c r s).seed = s.seed := rfl
@[simp] theorem putHead_pending (c : Chan) (r : HeadRec) : (putHead c r s).pending = s.pending := rfl

@[simp] theorem putTrims_phase (c : Chan) (t : Tab Trim 6) : (putTrims c t s).phase = s.phase := rfl
@[simp] theorem putTrims_own (c : Chan) (t : Tab Trim 6) : (putTrims c t s).own = s.own := rfl
@[simp] theorem putTrims_config (c : Chan) (t : Tab Trim 6) : (putTrims c t s).config = s.config := rfl
@[simp] theorem putTrims_link (c : Chan) (t : Tab Trim 6) : (putTrims c t s).link = s.link := rfl
@[simp] theorem putTrims_timing (c : Chan) (t : Tab Trim 6) : (putTrims c t s).timing = s.timing := rfl
@[simp] theorem putTrims_feeds (c : Chan) (t : Tab Trim 6) : (putTrims c t s).feeds = s.feeds := rfl
@[simp] theorem putTrims_demand (c : Chan) (t : Tab Trim 6) : (putTrims c t s).demand = s.demand := rfl
@[simp] theorem putTrims_steps (c : Chan) (t : Tab Trim 6) : (putTrims c t s).steps = s.steps := rfl
@[simp] theorem putTrims_paths (c : Chan) (t : Tab Trim 6) : (putTrims c t s).paths = s.paths := rfl
@[simp] theorem putTrims_head (c : Chan) (t : Tab Trim 6) : (putTrims c t s).head = s.head := rfl
@[simp] theorem putTrims_phantom (c : Chan) (t : Tab Trim 6) : (putTrims c t s).phantom = s.phantom := rfl
@[simp] theorem putTrims_batch (c : Chan) (t : Tab Trim 6) : (putTrims c t s).batch = s.batch := rfl
@[simp] theorem putTrims_report (c : Chan) (t : Tab Trim 6) : (putTrims c t s).report = s.report := rfl
@[simp] theorem putTrims_ahead (c : Chan) (t : Tab Trim 6) : (putTrims c t s).ahead = s.ahead := rfl
@[simp] theorem putTrims_seed (c : Chan) (t : Tab Trim 6) : (putTrims c t s).seed = s.seed := rfl
@[simp] theorem putTrims_pending (c : Chan) (t : Tab Trim 6) : (putTrims c t s).pending = s.pending := rfl

@[simp] theorem putStep_phase (c : Chan) (r : StepRec) : (putStep c r s).phase = s.phase := by unfold putStep; split <;> rfl
@[simp] theorem putStep_own (c : Chan) (r : StepRec) : (putStep c r s).own = s.own := by unfold putStep; split <;> rfl
@[simp] theorem putStep_config (c : Chan) (r : StepRec) : (putStep c r s).config = s.config := by unfold putStep; split <;> rfl
@[simp] theorem putStep_link (c : Chan) (r : StepRec) : (putStep c r s).link = s.link := by unfold putStep; split <;> rfl
@[simp] theorem putStep_timing (c : Chan) (r : StepRec) : (putStep c r s).timing = s.timing := by unfold putStep; split <;> rfl
@[simp] theorem putStep_feeds (c : Chan) (r : StepRec) : (putStep c r s).feeds = s.feeds := by unfold putStep; split <;> rfl
@[simp] theorem putStep_demand (c : Chan) (r : StepRec) : (putStep c r s).demand = s.demand := by unfold putStep; split <;> rfl
@[simp] theorem putStep_gain (c : Chan) (r : StepRec) : (putStep c r s).gain = s.gain := by unfold putStep; split <;> rfl
@[simp] theorem putStep_paths (c : Chan) (r : StepRec) : (putStep c r s).paths = s.paths := by unfold putStep; split <;> rfl
@[simp] theorem putStep_head (c : Chan) (r : StepRec) : (putStep c r s).head = s.head := by unfold putStep; split <;> rfl
@[simp] theorem putStep_phantom (c : Chan) (r : StepRec) : (putStep c r s).phantom = s.phantom := by unfold putStep; split <;> rfl
@[simp] theorem putStep_batch (c : Chan) (r : StepRec) : (putStep c r s).batch = s.batch := by unfold putStep; split <;> rfl
@[simp] theorem putStep_report (c : Chan) (r : StepRec) : (putStep c r s).report = s.report := by unfold putStep; split <;> rfl
@[simp] theorem putStep_ahead (c : Chan) (r : StepRec) : (putStep c r s).ahead = s.ahead := by unfold putStep; split <;> rfl
@[simp] theorem putStep_seed (c : Chan) (r : StepRec) : (putStep c r s).seed = s.seed := by unfold putStep; split <;> rfl
@[simp] theorem putStep_pending (c : Chan) (r : StepRec) : (putStep c r s).pending = s.pending := by unfold putStep; split <;> rfl

@[simp] theorem putPhantom_phase (c : Chan) (r : PhantomRec) : (putPhantom c r s).phase = s.phase := by unfold putPhantom; split <;> rfl
@[simp] theorem putPhantom_own (c : Chan) (r : PhantomRec) : (putPhantom c r s).own = s.own := by unfold putPhantom; split <;> rfl
@[simp] theorem putPhantom_config (c : Chan) (r : PhantomRec) : (putPhantom c r s).config = s.config := by unfold putPhantom; split <;> rfl
@[simp] theorem putPhantom_link (c : Chan) (r : PhantomRec) : (putPhantom c r s).link = s.link := by unfold putPhantom; split <;> rfl
@[simp] theorem putPhantom_timing (c : Chan) (r : PhantomRec) : (putPhantom c r s).timing = s.timing := by unfold putPhantom; split <;> rfl
@[simp] theorem putPhantom_feeds (c : Chan) (r : PhantomRec) : (putPhantom c r s).feeds = s.feeds := by unfold putPhantom; split <;> rfl
@[simp] theorem putPhantom_demand (c : Chan) (r : PhantomRec) : (putPhantom c r s).demand = s.demand := by unfold putPhantom; split <;> rfl
@[simp] theorem putPhantom_gain (c : Chan) (r : PhantomRec) : (putPhantom c r s).gain = s.gain := by unfold putPhantom; split <;> rfl
@[simp] theorem putPhantom_steps (c : Chan) (r : PhantomRec) : (putPhantom c r s).steps = s.steps := by unfold putPhantom; split <;> rfl
@[simp] theorem putPhantom_paths (c : Chan) (r : PhantomRec) : (putPhantom c r s).paths = s.paths := by unfold putPhantom; split <;> rfl
@[simp] theorem putPhantom_head (c : Chan) (r : PhantomRec) : (putPhantom c r s).head = s.head := by unfold putPhantom; split <;> rfl
@[simp] theorem putPhantom_batch (c : Chan) (r : PhantomRec) : (putPhantom c r s).batch = s.batch := by unfold putPhantom; split <;> rfl
@[simp] theorem putPhantom_report (c : Chan) (r : PhantomRec) : (putPhantom c r s).report = s.report := by unfold putPhantom; split <;> rfl
@[simp] theorem putPhantom_ahead (c : Chan) (r : PhantomRec) : (putPhantom c r s).ahead = s.ahead := by unfold putPhantom; split <;> rfl
@[simp] theorem putPhantom_seed (c : Chan) (r : PhantomRec) : (putPhantom c r s).seed = s.seed := by unfold putPhantom; split <;> rfl
@[simp] theorem putPhantom_pending (c : Chan) (r : PhantomRec) : (putPhantom c r s).pending = s.pending := by unfold putPhantom; split <;> rfl

@[simp] theorem modPath_phase (f : Feed) (g : FeedPath → FeedPath) : (modPath f g s).phase = s.phase := rfl
@[simp] theorem modPath_own (f : Feed) (g : FeedPath → FeedPath) : (modPath f g s).own = s.own := rfl
@[simp] theorem modPath_config (f : Feed) (g : FeedPath → FeedPath) : (modPath f g s).config = s.config := rfl
@[simp] theorem modPath_link (f : Feed) (g : FeedPath → FeedPath) : (modPath f g s).link = s.link := rfl
@[simp] theorem modPath_timing (f : Feed) (g : FeedPath → FeedPath) : (modPath f g s).timing = s.timing := rfl
@[simp] theorem modPath_feeds (f : Feed) (g : FeedPath → FeedPath) : (modPath f g s).feeds = s.feeds := rfl
@[simp] theorem modPath_demand (f : Feed) (g : FeedPath → FeedPath) : (modPath f g s).demand = s.demand := rfl
@[simp] theorem modPath_gain (f : Feed) (g : FeedPath → FeedPath) : (modPath f g s).gain = s.gain := rfl
@[simp] theorem modPath_steps (f : Feed) (g : FeedPath → FeedPath) : (modPath f g s).steps = s.steps := rfl
@[simp] theorem modPath_head (f : Feed) (g : FeedPath → FeedPath) : (modPath f g s).head = s.head := rfl
@[simp] theorem modPath_phantom (f : Feed) (g : FeedPath → FeedPath) : (modPath f g s).phantom = s.phantom := rfl
@[simp] theorem modPath_batch (f : Feed) (g : FeedPath → FeedPath) : (modPath f g s).batch = s.batch := rfl
@[simp] theorem modPath_report (f : Feed) (g : FeedPath → FeedPath) : (modPath f g s).report = s.report := rfl
@[simp] theorem modPath_ahead (f : Feed) (g : FeedPath → FeedPath) : (modPath f g s).ahead = s.ahead := rfl
@[simp] theorem modPath_seed (f : Feed) (g : FeedPath → FeedPath) : (modPath f g s).seed = s.seed := rfl
@[simp] theorem modPath_pending (f : Feed) (g : FeedPath → FeedPath) : (modPath f g s).pending = s.pending := rfl

@[simp] theorem clearAhead_phase : (clearAhead s).phase = s.phase := rfl
@[simp] theorem clearAhead_own : (clearAhead s).own = s.own := rfl
@[simp] theorem clearAhead_config : (clearAhead s).config = s.config := rfl
@[simp] theorem clearAhead_link : (clearAhead s).link = s.link := rfl
@[simp] theorem clearAhead_timing : (clearAhead s).timing = s.timing := rfl
@[simp] theorem clearAhead_feeds : (clearAhead s).feeds = s.feeds := rfl
@[simp] theorem clearAhead_demand : (clearAhead s).demand = s.demand := rfl
@[simp] theorem clearAhead_gain : (clearAhead s).gain = s.gain := rfl
@[simp] theorem clearAhead_steps : (clearAhead s).steps = s.steps := rfl
@[simp] theorem clearAhead_paths : (clearAhead s).paths = s.paths := rfl
@[simp] theorem clearAhead_head : (clearAhead s).head = s.head := rfl
@[simp] theorem clearAhead_phantom : (clearAhead s).phantom = s.phantom := rfl
@[simp] theorem clearAhead_batch : (clearAhead s).batch = s.batch := rfl
@[simp] theorem clearAhead_report : (clearAhead s).report = s.report := rfl
@[simp] theorem clearAhead_seed : (clearAhead s).seed = s.seed := rfl
@[simp] theorem clearAhead_pending : (clearAhead s).pending = s.pending := rfl

end Sys2Proof.Laws
end

