-- ==== Sys2Proof/Laws/Tab.lean ====
section
/-! SUPPORT. Reading a table after each way of making one. -/

namespace Sys2Proof.Laws

variable {α β : Type} {n : Nat}

/-- Reading a table is reading its list. -/
theorem get_eq (t : Tab α n) (i : Fin n) : t.get i = t.list[i.val]'(t.len.symm ▸ i.isLt) := rfl

@[ext] theorem tab_ext {a b : Tab α n} (h : ∀ i, a.get i = b.get i) : a = b := by
  obtain ⟨l, hl⟩ := a
  obtain ⟨m, hm⟩ := b
  have hlm : l = m := by
    apply List.ext_get (hl.trans hm.symm)
    intro k h1 h2
    have := h ⟨k, hl ▸ h1⟩
    simpa [Tab.get] using this
  subst hlm
  rfl

@[simp] theorem get_gen (f : Fin n → α) (i : Fin n) : (Tab.gen f).get i = f i := by
  simp [get_eq, Tab.gen]

@[simp] theorem get_const (a : α) (i : Fin n) : (Tab.const a : Tab α n).get i = a := by
  simp [get_eq, Tab.const]

@[simp] theorem get_map (f : α → β) (t : Tab α n) (i : Fin n) : (t.map f).get i = f (t.get i) := by
  simp [get_eq, Tab.map]

@[simp] theorem get_set_self (t : Tab α n) (i : Fin n) (a : α) : (t.set i a).get i = a := by
  simp [get_eq, Tab.set]

theorem get_set_of_ne (t : Tab α n) {i j : Fin n} (a : α) (h : j ≠ i) : (t.set i a).get j = t.get j := by
  have : i.val ≠ j.val := fun e => h (Fin.ext e.symm)
  simp [get_eq, Tab.set, this]

theorem get_set (t : Tab α n) (i j : Fin n) (a : α) : (t.set i a).get j = if j = i then a else t.get j := by
  split
  · next h => subst h; exact get_set_self t j a
  · next h => exact get_set_of_ne t a h

theorem get_modify (t : Tab α n) (i j : Fin n) (f : α → α) :
    (t.modify i f).get j = if j = i then f (t.get j) else t.get j := by
  unfold Tab.modify
  rw [get_set]
  split
  · next h => rw [h]
  · rfl

@[simp] theorem set_get (t : Tab α n) (i : Fin n) : t.set i (t.get i) = t := by
  ext j
  rw [get_set]
  split
  · next h => rw [h]
  · rfl

end Sys2Proof.Laws
end

