-- ==== Sys2Proof/Laws/Ops.lean ====
section
/-! SUPPORT. What each shared operation does, said once. -/

namespace Sys2Proof.Laws

open Sys2Proof.Machine

variable {s : State}

/-! ## Doing something for each of a list -/

@[simp] theorem forEach_nil {α : Type} (f : α → State → State) : forEach [] f s = s := rfl

@[simp] theorem forEach_cons {α : Type} (a : α) (l : List α) (f : α → State → State) :
    forEach (a :: l) f s = forEach l f (f a s) := rfl

/-- A property that each round keeps is kept by all of them. -/
theorem forEach_induct {α : Type} {P : State → Prop} {l : List α} {f : α → State → State}
    (h : ∀ a ∈ l, ∀ t, P t → P (f a t)) (h0 : P s) : P (forEach l f s) := by
  induction l generalizing s with
  | nil => exact h0
  | cons a l ih =>
    exact ih (fun b hb t ht => h b (List.mem_cons_of_mem a hb) t ht) (h a List.mem_cons_self s h0)

/-- What no round changes stays as it was. -/
theorem forEach_keeps {α β : Type} (p : State → β) {l : List α} {f : α → State → State}
    (h : ∀ a t, p (f a t) = p t) (s : State) : p (forEach l f s) = p s := by
  induction l generalizing s with
  | nil => rfl
  | cons a l ih => rw [forEach_cons, ih, h]

/-! ## Keys -/

theorem mem_ask (k k' : Key) : k' ∈ (ask k s).report.keys ↔ k' ∈ s.report.keys ∨ k' = k := by
  unfold ask
  dsimp only
  split
  · next h => exact ⟨Or.inl, fun h' => h'.elim id (fun e => e ▸ h)⟩
  · simp

theorem ask_nodup (k : Key) (h : s.report.keys.Nodup) : (ask k s).report.keys.Nodup := by
  unfold ask
  dsimp only
  split
  · exact h
  · next hk => exact List.nodup_append.mpr ⟨h, List.nodup_singleton k, by
      intro a ha b hb e
      rw [List.mem_singleton.mp hb] at e
      exact hk (e ▸ ha)⟩

@[simp] theorem ask_slots (k : Key) : (ask k s).report.slots = s.report.slots := rfl

@[simp] theorem ask_events (k : Key) : (ask k s).report.events = s.report.events := rfl

theorem keys_subset_ask (k : Key) : s.report.keys ⊆ (ask k s).report.keys :=
  fun _ h => (mem_ask k _).mpr (Or.inl h)

/-- A key that stands in the list already changes nothing (R162). -/
theorem ask_of_mem {k : Key} (h : k ∈ s.report.keys) : ask k s = s := by
  unfold ask
  rw [if_pos h]

/-! ## Events, flags and outcomes -/

theorem setEvent_keys (c : Chan) (e : Event) : (setEvent c e s).report.keys = (ask (.channel c) s).report.keys := rfl

@[simp] theorem setEvent_slots (c : Chan) (e : Event) : (setEvent c e s).report.slots = s.report.slots := rfl

theorem setEvent_events (c d : Chan) (e : Event) :
    (setEvent c e s).report.events.get d
      = if d = c then s.report.events.get d ||| e.mask else s.report.events.get d :=
  get_modify _ _ _ _

theorem setFlag_keys (f : BatchFlag) : (setFlag f s).report.keys = (ask .box s).report.keys := rfl

@[simp] theorem setFlag_slots (f : BatchFlag) : (setFlag f s).report.slots = s.report.slots := rfl

@[simp] theorem setFlag_record (f : BatchFlag) : (setFlag f s).batch.record = s.batch.record := rfl

@[simp] theorem setFlag_flags (f : BatchFlag) : (setFlag f s).batch.flags = s.batch.flags ||| f.mask := rfl

@[simp] theorem dropBatch_record (f : BatchFlag) : (dropBatch f s).batch.record = .idle := rfl

@[simp] theorem setBatch_record (r : BatchRecord) : (setBatch r s).batch.record = r := rfl

@[simp] theorem place_slots (st : Station) (a : Answer) :
    (place st a s).report.slots = s.report.slots.set st (some a) := rfl

theorem place_keys (st : Station) (a : Answer) : (place st a s).report.keys = (ask (.reply st) s).report.keys := rfl

/-- While nothing is being sent, an outcome is placed and nothing else changes. -/
theorem place_eq (st : Station) (a : Answer) (h : ∀ x, s.link.pair ≠ .sending x) :
    place st a s = { s with report := (place st a s).report } := by
  have hp : noteNewer st s.link.pair = s.link.pair := by
    cases hq : s.link.pair <;> first | rfl | exact absurd hq (h _)
  unfold place ask
  simp only [hp]

/-! ## Feeds -/

@[simp] theorem setFeeds_feeds (t : Tab FeedRec 6) : (setFeeds t s).feeds = t := by
  unfold setFeeds
  split
  · next h => exact h.symm
  · rfl

@[simp] theorem setFeeds_slots (t : Tab FeedRec 6) : (setFeeds t s).report.slots = s.report.slots := by
  unfold setFeeds
  split <;> rfl

@[simp] theorem setFeeds_events (t : Tab FeedRec 6) : (setFeeds t s).report.events = s.report.events := by
  unfold setFeeds
  split <;> rfl

/-! ## Records of the step and phantom controllers -/

/-- `putStep` is the plain replacement of a record. -/
theorem putStep_eq (c : Chan) (r : StepRec) : putStep c r s = { s with steps := s.steps.set c r } := by
  unfold putStep
  split
  · next h => rw [← h, set_get]
  · rfl

@[simp] theorem putStep_steps (c : Chan) (r : StepRec) : (putStep c r s).steps = s.steps.set c r := by
  rw [putStep_eq]

/-- `putPhantom` is the plain replacement of a record. -/
theorem putPhantom_eq (c : Chan) (r : PhantomRec) :
    putPhantom c r s = { s with phantom.recs := s.phantom.recs.set c r } := by
  unfold putPhantom
  split
  · next h => rw [← h, set_get]
  · rfl

@[simp] theorem putPhantom_recs (c : Chan) (r : PhantomRec) :
    (putPhantom c r s).phantom.recs = s.phantom.recs.set c r := by
  rw [putPhantom_eq]

/-- What a move of a phantom state makes of the records; the channel's other fields stay. -/
@[simp] theorem movePhantom_recs (c : Chan) (st : PhantomState) (k : OffCause) :
    (movePhantom c st k s).phantom.recs
      = s.phantom.recs.set c { s.phantom.recs.get c with state := st, cause := k } := by
  unfold movePhantom
  dsimp only
  split <;> rfl

/-- A move of a phantom state touches the phantom records, the report queue and the attempt in progress alone. -/
theorem movePhantom_frame (c : Chan) (st : PhantomState) (k : OffCause) :
    movePhantom c st k s
      = { s with
          phantom := { s.phantom with
            recs := s.phantom.recs.set c { s.phantom.recs.get c with state := st, cause := k } }
          report := (movePhantom c st k s).report
          link := (movePhantom c st k s).link } := by
  unfold movePhantom
  dsimp only
  split <;> rfl

/-! ## Hearing -/

/-- Nothing is being sent where a message can be heard. -/
theorem not_sending_of_canHear (h : s.canHear = true) (x : Sending) : s.link.pair ≠ .sending x := by
  intro e
  simp [State.canHear, e] at h

theorem running_of_canHear (h : s.canHear = true) : s.running = true := by
  unfold State.canHear at h
  exact (Bool.and_eq_true_iff.mp h).1

/-- What hearing a station does: the pair's message has ended, the entry is PRESENT with age 0, and the arrival of a desk
resumes its feeds (R13, R36). -/
theorem recordHearing_frame (st : Station) (role : Role) :
    recordHearing st role s
      = { s with
          link.stations := s.link.stations.set st (.present role 0)
          feeds := (recordHearing st role s).feeds
          report := (recordHearing st role s).report } := by
  unfold recordHearing
  dsimp only
  split <;> first | rfl | (unfold setFeeds; split <;> rfl)

@[simp] theorem recordHearing_slots (st : Station) (role : Role) :
    (recordHearing st role s).report.slots = s.report.slots := by
  unfold recordHearing
  dsimp only
  split <;> simp

/-- A request that the part takes is decided in the state with its own hearing recorded. -/
theorem request_taken {e : Envelope} (k : State → State) (hc : s.canHear = true) (ho : e.source ≠ s.own)
    (hu : forUs e s = true) : request e k s = k (recordHearing e.source .desk (messageEnded s)) := by
  have hown : (recordHearing e.source .desk (messageEnded s)).own = s.own := by
    rw [recordHearing_frame]
    rfl
  have hu' : forUs e (recordHearing e.source .desk (messageEnded s)) = true := by
    unfold forUs at hu ⊢
    rw [hown]
    exact hu
  unfold request hear
  rw [if_pos hc, if_neg ho]
  exact if_pos hu'

/-- The holder check passes where the named feed is BOUND to the source (R38). -/
theorem withHolder_held {e : Envelope} {kind feed : Byte} {f : Feed} (k : Feed → State → State)
    (hf : feedOf feed = some f) (hh : holds s f e.source = true) : withHolder e kind feed k s = k f s := by
  unfold withHolder
  rw [hf]
  exact if_pos hh

/-- Otherwise the outcome is NOT HOLDER (R38). -/
theorem withHolder_refused {e : Envelope} {kind feed : Byte} (k : Feed → State → State)
    (h : ∀ f, feedOf feed = some f → holds s f e.source = false) :
    withHolder e kind feed k s = answer e kind .notHolder s := by
  unfold withHolder
  cases hf : feedOf feed with
  | none => rfl
  | some f => exact if_neg (by simp [h f hf])

end Sys2Proof.Laws
end

