-- ==== Sys2Proof/Laws/Frames.lean ====
section
/-! SUPPORT. What each operation leaves as it was, said once: an operation changes only the parts of the state that its
docstring names, and its lemma says so of all the others. -/

namespace Sys2Proof.Laws

open Sys2Proof.Machine

/-! ## Shared operations -/

/-- Changes only report.keys. -/
@[simp] theorem ask_keeps (k : Key) (s : State) :
    (ask k s).phase = s.phase ∧ (ask k s).own = s.own ∧ (ask k s).config = s.config ∧ (ask k s).link = s.link ∧
    (ask k s).timing = s.timing ∧ (ask k s).feeds = s.feeds ∧ (ask k s).demand = s.demand ∧ (ask k s).gain = s.gain ∧
    (ask k s).steps = s.steps ∧ (ask k s).paths = s.paths ∧ (ask k s).head = s.head ∧ (ask k s).phantom = s.phantom ∧
    (ask k s).batch = s.batch ∧ (ask k s).report.slots = s.report.slots ∧ (ask k s).report.events = s.report.events ∧
    (ask k s).ahead = s.ahead ∧ (ask k s).seed = s.seed ∧ (ask k s).pending = s.pending :=
  ⟨rfl, rfl, rfl, rfl, rfl, rfl, rfl, rfl, rfl, rfl, rfl, rfl, rfl, rfl, rfl, rfl, rfl, rfl⟩

/-- All of its rounds change only report.keys. -/
@[simp] theorem forEach_ask_channel (l : List Chan) (s : State) :
    (forEach l (fun c => ask (.channel c)) s).phase = s.phase ∧ (forEach l (fun c => ask (.channel c)) s).own = s.own
    ∧ (forEach l (fun c => ask (.channel c)) s).config = s.config ∧
    (forEach l (fun c => ask (.channel c)) s).link = s.link ∧
    (forEach l (fun c => ask (.channel c)) s).timing = s.timing ∧
    (forEach l (fun c => ask (.channel c)) s).feeds = s.feeds ∧
    (forEach l (fun c => ask (.channel c)) s).demand = s.demand ∧
    (forEach l (fun c => ask (.channel c)) s).gain = s.gain ∧
    (forEach l (fun c => ask (.channel c)) s).steps = s.steps ∧
    (forEach l (fun c => ask (.channel c)) s).paths = s.paths ∧
    (forEach l (fun c => ask (.channel c)) s).head = s.head ∧
    (forEach l (fun c => ask (.channel c)) s).phantom = s.phantom ∧
    (forEach l (fun c => ask (.channel c)) s).batch = s.batch ∧
    (forEach l (fun c => ask (.channel c)) s).report.slots = s.report.slots ∧
    (forEach l (fun c => ask (.channel c)) s).report.events = s.report.events ∧
    (forEach l (fun c => ask (.channel c)) s).ahead = s.ahead ∧
    (forEach l (fun c => ask (.channel c)) s).seed = s.seed ∧
    (forEach l (fun c => ask (.channel c)) s).pending = s.pending := by
  have h := forEach_keeps (fun t : State => (t.phase, t.own, t.config, t.link, t.timing, t.feeds, t.demand, t.gain,
      t.steps, t.paths, t.head, t.phantom, t.batch, t.report.slots, t.report.events, t.ahead, t.seed, t.pending)) (l
      := l) (f := (fun c => ask (.channel c))) (fun _ _ => by simp) s
  simpa using h

/-- All of its rounds change only report.keys. -/
@[simp] theorem forEach_ask_link (l : List Group) (s : State) :
    (forEach l (fun g => ask (.link g)) s).phase = s.phase ∧ (forEach l (fun g => ask (.link g)) s).own = s.own ∧
    (forEach l (fun g => ask (.link g)) s).config = s.config ∧ (forEach l (fun g => ask (.link g)) s).link = s.link ∧
    (forEach l (fun g => ask (.link g)) s).timing = s.timing ∧ (forEach l (fun g => ask (.link g)) s).feeds = s.feeds
    ∧ (forEach l (fun g => ask (.link g)) s).demand = s.demand ∧ (forEach l (fun g => ask (.link g)) s).gain = s.gain
    ∧ (forEach l (fun g => ask (.link g)) s).steps = s.steps ∧ (forEach l (fun g => ask (.link g)) s).paths = s.paths
    ∧ (forEach l (fun g => ask (.link g)) s).head = s.head ∧
    (forEach l (fun g => ask (.link g)) s).phantom = s.phantom ∧
    (forEach l (fun g => ask (.link g)) s).batch = s.batch ∧
    (forEach l (fun g => ask (.link g)) s).report.slots = s.report.slots ∧
    (forEach l (fun g => ask (.link g)) s).report.events = s.report.events ∧
    (forEach l (fun g => ask (.link g)) s).ahead = s.ahead ∧ (forEach l (fun g => ask (.link g)) s).seed = s.seed ∧
    (forEach l (fun g => ask (.link g)) s).pending = s.pending := by
  have h := forEach_keeps (fun t : State => (t.phase, t.own, t.config, t.link, t.timing, t.feeds, t.demand, t.gain,
      t.steps, t.paths, t.head, t.phantom, t.batch, t.report.slots, t.report.events, t.ahead, t.seed, t.pending)) (l
      := l) (f := (fun g => ask (.link g))) (fun _ _ => by simp) s
  simpa using h

/-- Changes only link.pair, report.keys, report.events. -/
@[simp] theorem setEvent_keeps (c : Chan) (e : Event) (s : State) :
    (setEvent c e s).phase = s.phase ∧ (setEvent c e s).own = s.own ∧ (setEvent c e s).config = s.config ∧
    (setEvent c e s).link.stations = s.link.stations ∧ (setEvent c e s).link.clash = s.link.clash ∧
    (setEvent c e s).link.errors = s.link.errors ∧ (setEvent c e s).timing = s.timing ∧
    (setEvent c e s).feeds = s.feeds ∧ (setEvent c e s).demand = s.demand ∧ (setEvent c e s).gain = s.gain ∧
    (setEvent c e s).steps = s.steps ∧ (setEvent c e s).paths = s.paths ∧ (setEvent c e s).head = s.head ∧
    (setEvent c e s).phantom = s.phantom ∧ (setEvent c e s).batch = s.batch ∧
    (setEvent c e s).report.slots = s.report.slots ∧ (setEvent c e s).ahead = s.ahead ∧ (setEvent c e s).seed = s.seed
    ∧ (setEvent c e s).pending = s.pending :=
  ⟨rfl, rfl, rfl, rfl, rfl, rfl, rfl, rfl, rfl, rfl, rfl, rfl, rfl, rfl, rfl, rfl, rfl, rfl, rfl⟩

/-- Changes only link.pair, batch.flags, report.keys. -/
@[simp] theorem setFlag_keeps (f : BatchFlag) (s : State) :
    (setFlag f s).phase = s.phase ∧ (setFlag f s).own = s.own ∧ (setFlag f s).config = s.config ∧
    (setFlag f s).link.stations = s.link.stations ∧ (setFlag f s).link.clash = s.link.clash ∧
    (setFlag f s).link.errors = s.link.errors ∧ (setFlag f s).timing = s.timing ∧ (setFlag f s).feeds = s.feeds ∧
    (setFlag f s).demand = s.demand ∧ (setFlag f s).gain = s.gain ∧ (setFlag f s).steps = s.steps ∧
    (setFlag f s).paths = s.paths ∧ (setFlag f s).head = s.head ∧ (setFlag f s).phantom = s.phantom ∧
    (setFlag f s).batch.record = s.batch.record ∧ (setFlag f s).report.slots = s.report.slots ∧
    (setFlag f s).report.events = s.report.events ∧ (setFlag f s).ahead = s.ahead ∧ (setFlag f s).seed = s.seed ∧
    (setFlag f s).pending = s.pending :=
  ⟨rfl, rfl, rfl, rfl, rfl, rfl, rfl, rfl, rfl, rfl, rfl, rfl, rfl, rfl, rfl, rfl, rfl, rfl, rfl, rfl⟩

/-- Changes only link.pair, report.keys, report.slots. -/
@[simp] theorem place_keeps (st : Station) (a : Answer) (s : State) :
    (place st a s).phase = s.phase ∧ (place st a s).own = s.own ∧ (place st a s).config = s.config ∧
    (place st a s).link.stations = s.link.stations ∧ (place st a s).link.clash = s.link.clash ∧
    (place st a s).link.errors = s.link.errors ∧ (place st a s).timing = s.timing ∧ (place st a s).feeds = s.feeds ∧
    (place st a s).demand = s.demand ∧ (place st a s).gain = s.gain ∧ (place st a s).steps = s.steps ∧
    (place st a s).paths = s.paths ∧ (place st a s).head = s.head ∧ (place st a s).phantom = s.phantom ∧
    (place st a s).batch = s.batch ∧ (place st a s).report.events = s.report.events ∧ (place st a s).ahead = s.ahead ∧
    (place st a s).seed = s.seed ∧ (place st a s).pending = s.pending :=
  ⟨rfl, rfl, rfl, rfl, rfl, rfl, rfl, rfl, rfl, rfl, rfl, rfl, rfl, rfl, rfl, rfl, rfl, rfl, rfl⟩

/-- Changes only link.pair, report.keys, report.slots. -/
@[simp] theorem answer_keeps (e : Envelope) (kind : Byte) (code : OutcomeCode) (s : State) :
    (answer e kind code s).phase = s.phase ∧ (answer e kind code s).own = s.own ∧
    (answer e kind code s).config = s.config ∧ (answer e kind code s).link.stations = s.link.stations ∧
    (answer e kind code s).link.clash = s.link.clash ∧ (answer e kind code s).link.errors = s.link.errors ∧
    (answer e kind code s).timing = s.timing ∧ (answer e kind code s).feeds = s.feeds ∧
    (answer e kind code s).demand = s.demand ∧ (answer e kind code s).gain = s.gain ∧
    (answer e kind code s).steps = s.steps ∧ (answer e kind code s).paths = s.paths ∧
    (answer e kind code s).head = s.head ∧ (answer e kind code s).phantom = s.phantom ∧
    (answer e kind code s).batch = s.batch ∧ (answer e kind code s).report.events = s.report.events ∧
    (answer e kind code s).ahead = s.ahead ∧ (answer e kind code s).seed = s.seed ∧
    (answer e kind code s).pending = s.pending :=
  ⟨rfl, rfl, rfl, rfl, rfl, rfl, rfl, rfl, rfl, rfl, rfl, rfl, rfl, rfl, rfl, rfl, rfl, rfl, rfl⟩

/-- Changes only demand. -/
@[simp] theorem markDirty_keeps (c : Chan) (s : State) :
    (markDirty c s).phase = s.phase ∧ (markDirty c s).own = s.own ∧ (markDirty c s).config = s.config ∧
    (markDirty c s).link = s.link ∧ (markDirty c s).timing = s.timing ∧ (markDirty c s).feeds = s.feeds ∧
    (markDirty c s).gain = s.gain ∧ (markDirty c s).steps = s.steps ∧ (markDirty c s).paths = s.paths ∧
    (markDirty c s).head = s.head ∧ (markDirty c s).phantom = s.phantom ∧ (markDirty c s).batch = s.batch ∧
    (markDirty c s).report = s.report ∧ (markDirty c s).ahead = s.ahead ∧ (markDirty c s).seed = s.seed ∧
    (markDirty c s).pending = s.pending :=
  ⟨rfl, rfl, rfl, rfl, rfl, rfl, rfl, rfl, rfl, rfl, rfl, rfl, rfl, rfl, rfl, rfl⟩

/-- Changes only demand. -/
@[simp] theorem markGroups_keeps (gs : List Group) (s : State) :
    (markGroups gs s).phase = s.phase ∧ (markGroups gs s).own = s.own ∧ (markGroups gs s).config = s.config ∧
    (markGroups gs s).link = s.link ∧ (markGroups gs s).timing = s.timing ∧ (markGroups gs s).feeds = s.feeds ∧
    (markGroups gs s).gain = s.gain ∧ (markGroups gs s).steps = s.steps ∧ (markGroups gs s).paths = s.paths ∧
    (markGroups gs s).head = s.head ∧ (markGroups gs s).phantom = s.phantom ∧ (markGroups gs s).batch = s.batch ∧
    (markGroups gs s).report = s.report ∧ (markGroups gs s).ahead = s.ahead ∧ (markGroups gs s).seed = s.seed ∧
    (markGroups gs s).pending = s.pending :=
  ⟨rfl, rfl, rfl, rfl, rfl, rfl, rfl, rfl, rfl, rfl, rfl, rfl, rfl, rfl, rfl, rfl⟩

/-- Changes only link.pair, phantom.recs, report.keys, report.events. -/
@[simp] theorem movePhantom_keeps (c : Chan) (st : PhantomState) (cause : OffCause) (s : State) :
    (movePhantom c st cause s).phase = s.phase ∧ (movePhantom c st cause s).own = s.own ∧
    (movePhantom c st cause s).config = s.config ∧ (movePhantom c st cause s).link.stations = s.link.stations ∧
    (movePhantom c st cause s).link.clash = s.link.clash ∧ (movePhantom c st cause s).link.errors = s.link.errors ∧
    (movePhantom c st cause s).timing = s.timing ∧ (movePhantom c st cause s).feeds = s.feeds ∧
    (movePhantom c st cause s).demand = s.demand ∧ (movePhantom c st cause s).gain = s.gain ∧
    (movePhantom c st cause s).steps = s.steps ∧ (movePhantom c st cause s).paths = s.paths ∧
    (movePhantom c st cause s).head = s.head ∧ (movePhantom c st cause s).phantom.bank = s.phantom.bank ∧
    (movePhantom c st cause s).phantom.lineQuiet = s.phantom.lineQuiet ∧
    (movePhantom c st cause s).phantom.overload = s.phantom.overload ∧
    (movePhantom c st cause s).phantom.mainGood = s.phantom.mainGood ∧
    (movePhantom c st cause s).phantom.auxGood = s.phantom.auxGood ∧ (movePhantom c st cause s).batch = s.batch ∧
    (movePhantom c st cause s).report.slots = s.report.slots ∧ (movePhantom c st cause s).ahead = s.ahead ∧
    (movePhantom c st cause s).seed = s.seed ∧ (movePhantom c st cause s).pending = s.pending := by
  unfold movePhantom
  dsimp only
  (repeat' split) <;> simp

/-- Changes only link.pair, phantom.recs, report.keys, report.events. -/
@[simp] theorem becomesRequested_keeps (c : Chan) (s : State) :
    (becomesRequested c s).phase = s.phase ∧ (becomesRequested c s).own = s.own ∧
    (becomesRequested c s).config = s.config ∧ (becomesRequested c s).link.stations = s.link.stations ∧
    (becomesRequested c s).link.clash = s.link.clash ∧ (becomesRequested c s).link.errors = s.link.errors ∧
    (becomesRequested c s).timing = s.timing ∧ (becomesRequested c s).feeds = s.feeds ∧
    (becomesRequested c s).demand = s.demand ∧ (becomesRequested c s).gain = s.gain ∧
    (becomesRequested c s).steps = s.steps ∧ (becomesRequested c s).paths = s.paths ∧
    (becomesRequested c s).head = s.head ∧ (becomesRequested c s).phantom.bank = s.phantom.bank ∧
    (becomesRequested c s).phantom.lineQuiet = s.phantom.lineQuiet ∧
    (becomesRequested c s).phantom.overload = s.phantom.overload ∧
    (becomesRequested c s).phantom.mainGood = s.phantom.mainGood ∧
    (becomesRequested c s).phantom.auxGood = s.phantom.auxGood ∧ (becomesRequested c s).batch = s.batch ∧
    (becomesRequested c s).report.slots = s.report.slots ∧ (becomesRequested c s).ahead = s.ahead ∧
    (becomesRequested c s).seed = s.seed ∧ (becomesRequested c s).pending = s.pending := by
  unfold becomesRequested
  dsimp only
  (repeat' split) <;> simp

/-- Changes only link.pair, phantom.recs, report.keys, report.events. -/
@[simp] theorem ceasesRequested_keeps (c : Chan) (s : State) :
    (ceasesRequested c s).phase = s.phase ∧ (ceasesRequested c s).own = s.own ∧
    (ceasesRequested c s).config = s.config ∧ (ceasesRequested c s).link.stations = s.link.stations ∧
    (ceasesRequested c s).link.clash = s.link.clash ∧ (ceasesRequested c s).link.errors = s.link.errors ∧
    (ceasesRequested c s).timing = s.timing ∧ (ceasesRequested c s).feeds = s.feeds ∧
    (ceasesRequested c s).demand = s.demand ∧ (ceasesRequested c s).gain = s.gain ∧
    (ceasesRequested c s).steps = s.steps ∧ (ceasesRequested c s).paths = s.paths ∧
    (ceasesRequested c s).head = s.head ∧ (ceasesRequested c s).phantom.bank = s.phantom.bank ∧
    (ceasesRequested c s).phantom.lineQuiet = s.phantom.lineQuiet ∧
    (ceasesRequested c s).phantom.overload = s.phantom.overload ∧
    (ceasesRequested c s).phantom.mainGood = s.phantom.mainGood ∧
    (ceasesRequested c s).phantom.auxGood = s.phantom.auxGood ∧ (ceasesRequested c s).batch = s.batch ∧
    (ceasesRequested c s).report.slots = s.report.slots ∧ (ceasesRequested c s).ahead = s.ahead ∧
    (ceasesRequested c s).seed = s.seed ∧ (ceasesRequested c s).pending = s.pending := by
  unfold ceasesRequested
  dsimp only
  (repeat' split) <;> simp

/-- Changes only link.pair, phantom.recs, report.keys, report.events. -/
@[simp] theorem handWant_keeps (c : Chan) (before after : Bool) (s : State) :
    (handWant c before after s).phase = s.phase ∧ (handWant c before after s).own = s.own ∧
    (handWant c before after s).config = s.config ∧ (handWant c before after s).link.stations = s.link.stations ∧
    (handWant c before after s).link.clash = s.link.clash ∧ (handWant c before after s).link.errors = s.link.errors ∧
    (handWant c before after s).timing = s.timing ∧ (handWant c before after s).feeds = s.feeds ∧
    (handWant c before after s).demand = s.demand ∧ (handWant c before after s).gain = s.gain ∧
    (handWant c before after s).steps = s.steps ∧ (handWant c before after s).paths = s.paths ∧
    (handWant c before after s).head = s.head ∧ (handWant c before after s).phantom.bank = s.phantom.bank ∧
    (handWant c before after s).phantom.lineQuiet = s.phantom.lineQuiet ∧
    (handWant c before after s).phantom.overload = s.phantom.overload ∧
    (handWant c before after s).phantom.mainGood = s.phantom.mainGood ∧
    (handWant c before after s).phantom.auxGood = s.phantom.auxGood ∧ (handWant c before after s).batch = s.batch ∧
    (handWant c before after s).report.slots = s.report.slots ∧ (handWant c before after s).ahead = s.ahead ∧
    (handWant c before after s).seed = s.seed ∧ (handWant c before after s).pending = s.pending := by
  cases before <;> cases after <;> simp [handWant]

/-- Changes only feeds, report.keys. -/
@[simp] theorem setFeeds_keeps (t : Tab FeedRec 6) (s : State) :
    (setFeeds t s).phase = s.phase ∧ (setFeeds t s).own = s.own ∧ (setFeeds t s).config = s.config ∧
    (setFeeds t s).link = s.link ∧ (setFeeds t s).timing = s.timing ∧ (setFeeds t s).demand = s.demand ∧
    (setFeeds t s).gain = s.gain ∧ (setFeeds t s).steps = s.steps ∧ (setFeeds t s).paths = s.paths ∧
    (setFeeds t s).head = s.head ∧ (setFeeds t s).phantom = s.phantom ∧ (setFeeds t s).batch = s.batch ∧
    (setFeeds t s).report.slots = s.report.slots ∧ (setFeeds t s).report.events = s.report.events ∧
    (setFeeds t s).ahead = s.ahead ∧ (setFeeds t s).seed = s.seed ∧ (setFeeds t s).pending = s.pending := by
  unfold setFeeds
  split <;> simp

/-- Changes only batch.record, report.keys. -/
@[simp] theorem setBatch_keeps (r : BatchRecord) (s : State) :
    (setBatch r s).phase = s.phase ∧ (setBatch r s).own = s.own ∧ (setBatch r s).config = s.config ∧
    (setBatch r s).link = s.link ∧ (setBatch r s).timing = s.timing ∧ (setBatch r s).feeds = s.feeds ∧
    (setBatch r s).demand = s.demand ∧ (setBatch r s).gain = s.gain ∧ (setBatch r s).steps = s.steps ∧
    (setBatch r s).paths = s.paths ∧ (setBatch r s).head = s.head ∧ (setBatch r s).phantom = s.phantom ∧
    (setBatch r s).batch.flags = s.batch.flags ∧ (setBatch r s).report.slots = s.report.slots ∧
    (setBatch r s).report.events = s.report.events ∧ (setBatch r s).ahead = s.ahead ∧ (setBatch r s).seed = s.seed ∧
    (setBatch r s).pending = s.pending :=
  ⟨rfl, rfl, rfl, rfl, rfl, rfl, rfl, rfl, rfl, rfl, rfl, rfl, rfl, rfl, rfl, rfl, rfl, rfl⟩

/-- Changes only link.pair, batch, report.keys. -/
@[simp] theorem dropBatch_keeps (f : BatchFlag) (s : State) :
    (dropBatch f s).phase = s.phase ∧ (dropBatch f s).own = s.own ∧ (dropBatch f s).config = s.config ∧
    (dropBatch f s).link.stations = s.link.stations ∧ (dropBatch f s).link.clash = s.link.clash ∧
    (dropBatch f s).link.errors = s.link.errors ∧ (dropBatch f s).timing = s.timing ∧ (dropBatch f s).feeds = s.feeds
    ∧ (dropBatch f s).demand = s.demand ∧ (dropBatch f s).gain = s.gain ∧ (dropBatch f s).steps = s.steps ∧
    (dropBatch f s).paths = s.paths ∧ (dropBatch f s).head = s.head ∧ (dropBatch f s).phantom = s.phantom ∧
    (dropBatch f s).report.slots = s.report.slots ∧ (dropBatch f s).report.events = s.report.events ∧
    (dropBatch f s).ahead = s.ahead ∧ (dropBatch f s).seed = s.seed ∧ (dropBatch f s).pending = s.pending :=
  ⟨rfl, rfl, rfl, rfl, rfl, rfl, rfl, rfl, rfl, rfl, rfl, rfl, rfl, rfl, rfl, rfl, rfl, rfl, rfl⟩

/-- Changes only link.pair, batch, report.keys. -/
@[simp] theorem discardBatch_keeps (p : BatchBody → Bool) (s : State) :
    (discardBatch p s).phase = s.phase ∧ (discardBatch p s).own = s.own ∧ (discardBatch p s).config = s.config ∧
    (discardBatch p s).link.stations = s.link.stations ∧ (discardBatch p s).link.clash = s.link.clash ∧
    (discardBatch p s).link.errors = s.link.errors ∧ (discardBatch p s).timing = s.timing ∧
    (discardBatch p s).feeds = s.feeds ∧ (discardBatch p s).demand = s.demand ∧ (discardBatch p s).gain = s.gain ∧
    (discardBatch p s).steps = s.steps ∧ (discardBatch p s).paths = s.paths ∧ (discardBatch p s).head = s.head ∧
    (discardBatch p s).phantom = s.phantom ∧ (discardBatch p s).report.slots = s.report.slots ∧
    (discardBatch p s).report.events = s.report.events ∧ (discardBatch p s).ahead = s.ahead ∧
    (discardBatch p s).seed = s.seed ∧ (discardBatch p s).pending = s.pending := by
  unfold discardBatch
  (repeat' split) <;> simp

/-- Changes only link.stations, feeds, report.keys. -/
@[simp] theorem recordHearing_keeps (st : Station) (role : Role) (s : State) :
    (recordHearing st role s).phase = s.phase ∧ (recordHearing st role s).own = s.own ∧
    (recordHearing st role s).config = s.config ∧ (recordHearing st role s).link.pair = s.link.pair ∧
    (recordHearing st role s).link.clash = s.link.clash ∧ (recordHearing st role s).link.errors = s.link.errors ∧
    (recordHearing st role s).timing = s.timing ∧ (recordHearing st role s).demand = s.demand ∧
    (recordHearing st role s).gain = s.gain ∧ (recordHearing st role s).steps = s.steps ∧
    (recordHearing st role s).paths = s.paths ∧ (recordHearing st role s).head = s.head ∧
    (recordHearing st role s).phantom = s.phantom ∧ (recordHearing st role s).batch = s.batch ∧
    (recordHearing st role s).report.slots = s.report.slots ∧
    (recordHearing st role s).report.events = s.report.events ∧ (recordHearing st role s).ahead = s.ahead ∧
    (recordHearing st role s).seed = s.seed ∧ (recordHearing st role s).pending = s.pending := by
  unfold recordHearing
  split <;> simp

/-! ## The timing unit -/

/-- Changes only timing, report.keys. -/
@[simp] theorem setClock_keeps (c : ClockState) (s : State) :
    (setClock c s).phase = s.phase ∧ (setClock c s).own = s.own ∧ (setClock c s).config = s.config ∧
    (setClock c s).link = s.link ∧ (setClock c s).feeds = s.feeds ∧ (setClock c s).demand = s.demand ∧
    (setClock c s).gain = s.gain ∧ (setClock c s).steps = s.steps ∧ (setClock c s).paths = s.paths ∧
    (setClock c s).head = s.head ∧ (setClock c s).phantom = s.phantom ∧ (setClock c s).batch = s.batch ∧
    (setClock c s).report.slots = s.report.slots ∧ (setClock c s).report.events = s.report.events ∧
    (setClock c s).ahead = s.ahead ∧ (setClock c s).seed = s.seed ∧ (setClock c s).pending = s.pending := by
  unfold setClock
  split <;> simp

/-- Changes only timing, report.keys. -/
@[simp] theorem countBad_keeps (s : State) :
    (countBad s).phase = s.phase ∧ (countBad s).own = s.own ∧ (countBad s).config = s.config ∧
    (countBad s).link = s.link ∧ (countBad s).feeds = s.feeds ∧ (countBad s).demand = s.demand ∧
    (countBad s).gain = s.gain ∧ (countBad s).steps = s.steps ∧ (countBad s).paths = s.paths ∧
    (countBad s).head = s.head ∧ (countBad s).phantom = s.phantom ∧ (countBad s).batch = s.batch ∧
    (countBad s).report.slots = s.report.slots ∧ (countBad s).report.events = s.report.events ∧
    (countBad s).ahead = s.ahead ∧ (countBad s).seed = s.seed ∧ (countBad s).pending = s.pending := by
  unfold countBad
  split <;> simp

/-- Changes only timing, report.keys. -/
@[simp] theorem missMark_keeps (s : State) :
    (missMark s).phase = s.phase ∧ (missMark s).own = s.own ∧ (missMark s).config = s.config ∧
    (missMark s).link = s.link ∧ (missMark s).feeds = s.feeds ∧ (missMark s).demand = s.demand ∧
    (missMark s).gain = s.gain ∧ (missMark s).steps = s.steps ∧ (missMark s).paths = s.paths ∧
    (missMark s).head = s.head ∧ (missMark s).phantom = s.phantom ∧ (missMark s).batch = s.batch ∧
    (missMark s).report.slots = s.report.slots ∧ (missMark s).report.events = s.report.events ∧
    (missMark s).ahead = s.ahead ∧ (missMark s).seed = s.seed ∧ (missMark s).pending = s.pending := by
  unfold missMark
  split <;> simp

/-- Changes only timing, report.keys. -/
@[simp] theorem passTicks_keeps (d checked : Nat) (s : State) :
    (passTicks d checked s).phase = s.phase ∧ (passTicks d checked s).own = s.own ∧
    (passTicks d checked s).config = s.config ∧ (passTicks d checked s).link = s.link ∧
    (passTicks d checked s).feeds = s.feeds ∧ (passTicks d checked s).demand = s.demand ∧
    (passTicks d checked s).gain = s.gain ∧ (passTicks d checked s).steps = s.steps ∧
    (passTicks d checked s).paths = s.paths ∧ (passTicks d checked s).head = s.head ∧
    (passTicks d checked s).phantom = s.phantom ∧ (passTicks d checked s).batch = s.batch ∧
    (passTicks d checked s).report.slots = s.report.slots ∧ (passTicks d checked s).report.events = s.report.events ∧
    (passTicks d checked s).ahead = s.ahead ∧ (passTicks d checked s).seed = s.seed ∧
    (passTicks d checked s).pending = s.pending := by
  unfold passTicks
  have h : ∀ n (u : State), (fun t : State => (t.phase, t.own, t.config, t.link, t.feeds, t.demand, t.gain, t.steps,
      t.paths, t.head, t.phantom, t.batch, t.report.slots, t.report.events, t.ahead, t.seed, t.pending)) (missMark^[n]
      u) = (fun t : State => (t.phase, t.own, t.config, t.link, t.feeds, t.demand, t.gain, t.steps, t.paths, t.head,
      t.phantom, t.batch, t.report.slots, t.report.events, t.ahead, t.seed, t.pending)) u := by
    intro n
    induction n with
    | zero => exact fun _ => rfl
    | succ n ih =>
      intro u
      rw [Function.iterate_succ_apply, ih]
      simp
  simpa using h (missesDue checked s.timing) { s with timing := tickOn d s.timing }

/-- Changes only timing. -/
@[simp] theorem realign_keeps (s : State) :
    (realign s).phase = s.phase ∧ (realign s).own = s.own ∧ (realign s).config = s.config ∧ (realign s).link = s.link
    ∧ (realign s).feeds = s.feeds ∧ (realign s).demand = s.demand ∧ (realign s).gain = s.gain ∧
    (realign s).steps = s.steps ∧ (realign s).paths = s.paths ∧ (realign s).head = s.head ∧
    (realign s).phantom = s.phantom ∧ (realign s).batch = s.batch ∧ (realign s).report = s.report ∧
    (realign s).ahead = s.ahead ∧ (realign s).seed = s.seed ∧ (realign s).pending = s.pending :=
  ⟨rfl, rfl, rfl, rfl, rfl, rfl, rfl, rfl, rfl, rfl, rfl, rfl, rfl, rfl, rfl, rfl⟩

/-- Changes only timing. -/
@[simp] theorem setLength_keeps (len : Nat) (after : Bool) (s : State) :
    (setLength len after s).phase = s.phase ∧ (setLength len after s).own = s.own ∧
    (setLength len after s).config = s.config ∧ (setLength len after s).link = s.link ∧
    (setLength len after s).feeds = s.feeds ∧ (setLength len after s).demand = s.demand ∧
    (setLength len after s).gain = s.gain ∧ (setLength len after s).steps = s.steps ∧
    (setLength len after s).paths = s.paths ∧ (setLength len after s).head = s.head ∧
    (setLength len after s).phantom = s.phantom ∧ (setLength len after s).batch = s.batch ∧
    (setLength len after s).report = s.report ∧ (setLength len after s).ahead = s.ahead ∧
    (setLength len after s).seed = s.seed ∧ (setLength len after s).pending = s.pending := by
  unfold setLength
  split <;> simp

/-- Changes only timing, report.keys. -/
@[simp] theorem enterAcquiring_keeps (e : Int) (s : State) :
    (enterAcquiring e s).phase = s.phase ∧ (enterAcquiring e s).own = s.own ∧ (enterAcquiring e s).config = s.config ∧
    (enterAcquiring e s).link = s.link ∧ (enterAcquiring e s).feeds = s.feeds ∧ (enterAcquiring e s).demand = s.demand
    ∧ (enterAcquiring e s).gain = s.gain ∧ (enterAcquiring e s).steps = s.steps ∧ (enterAcquiring e s).paths = s.paths
    ∧ (enterAcquiring e s).head = s.head ∧ (enterAcquiring e s).phantom = s.phantom ∧
    (enterAcquiring e s).batch = s.batch ∧ (enterAcquiring e s).report.slots = s.report.slots ∧
    (enterAcquiring e s).report.events = s.report.events ∧ (enterAcquiring e s).ahead = s.ahead ∧
    (enterAcquiring e s).seed = s.seed ∧ (enterAcquiring e s).pending = s.pending := by
  unfold enterAcquiring
  split <;> simp

/-- Changes only timing, report.keys. -/
@[simp] theorem lockOn_keeps (m : Nat) (e : Int) (after : Bool) (s : State) :
    (lockOn m e after s).phase = s.phase ∧ (lockOn m e after s).own = s.own ∧ (lockOn m e after s).config = s.config ∧
    (lockOn m e after s).link = s.link ∧ (lockOn m e after s).feeds = s.feeds ∧ (lockOn m e after s).demand = s.demand
    ∧ (lockOn m e after s).gain = s.gain ∧ (lockOn m e after s).steps = s.steps ∧ (lockOn m e after s).paths = s.paths
    ∧ (lockOn m e after s).head = s.head ∧ (lockOn m e after s).phantom = s.phantom ∧
    (lockOn m e after s).batch = s.batch ∧ (lockOn m e after s).report.slots = s.report.slots ∧
    (lockOn m e after s).report.events = s.report.events ∧ (lockOn m e after s).ahead = s.ahead ∧
    (lockOn m e after s).seed = s.seed ∧ (lockOn m e after s).pending = s.pending := by
  unfold lockOn
  split <;> simp

/-- Changes only timing, report.keys. -/
@[simp] theorem markAcquiring_keeps (m : Option Nat) (e : Int) (after : Bool) (s : State) :
    (markAcquiring m e after s).phase = s.phase ∧ (markAcquiring m e after s).own = s.own ∧
    (markAcquiring m e after s).config = s.config ∧ (markAcquiring m e after s).link = s.link ∧
    (markAcquiring m e after s).feeds = s.feeds ∧ (markAcquiring m e after s).demand = s.demand ∧
    (markAcquiring m e after s).gain = s.gain ∧ (markAcquiring m e after s).steps = s.steps ∧
    (markAcquiring m e after s).paths = s.paths ∧ (markAcquiring m e after s).head = s.head ∧
    (markAcquiring m e after s).phantom = s.phantom ∧ (markAcquiring m e after s).batch = s.batch ∧
    (markAcquiring m e after s).report.slots = s.report.slots ∧
    (markAcquiring m e after s).report.events = s.report.events ∧ (markAcquiring m e after s).ahead = s.ahead ∧
    (markAcquiring m e after s).seed = s.seed ∧ (markAcquiring m e after s).pending = s.pending := by
  unfold markAcquiring
  (repeat' split) <;> simp

/-- Changes only timing, report.keys. -/
@[simp] theorem markLocked_keeps (m : Option Nat) (e : Int) (after : Bool) (s : State) :
    (markLocked m e after s).phase = s.phase ∧ (markLocked m e after s).own = s.own ∧
    (markLocked m e after s).config = s.config ∧ (markLocked m e after s).link = s.link ∧
    (markLocked m e after s).feeds = s.feeds ∧ (markLocked m e after s).demand = s.demand ∧
    (markLocked m e after s).gain = s.gain ∧ (markLocked m e after s).steps = s.steps ∧
    (markLocked m e after s).paths = s.paths ∧ (markLocked m e after s).head = s.head ∧
    (markLocked m e after s).phantom = s.phantom ∧ (markLocked m e after s).batch = s.batch ∧
    (markLocked m e after s).report.slots = s.report.slots ∧ (markLocked m e after s).report.events = s.report.events
    ∧ (markLocked m e after s).ahead = s.ahead ∧ (markLocked m e after s).seed = s.seed ∧
    (markLocked m e after s).pending = s.pending := by
  unfold markLocked
  (repeat' split) <;> simp

/-- Changes only timing, report.keys. -/
@[simp] theorem markHoldover_keeps (m : Option Nat) (e : Int) (s : State) :
    (markHoldover m e s).phase = s.phase ∧ (markHoldover m e s).own = s.own ∧ (markHoldover m e s).config = s.config ∧
    (markHoldover m e s).link = s.link ∧ (markHoldover m e s).feeds = s.feeds ∧ (markHoldover m e s).demand = s.demand
    ∧ (markHoldover m e s).gain = s.gain ∧ (markHoldover m e s).steps = s.steps ∧ (markHoldover m e s).paths = s.paths
    ∧ (markHoldover m e s).head = s.head ∧ (markHoldover m e s).phantom = s.phantom ∧
    (markHoldover m e s).batch = s.batch ∧ (markHoldover m e s).report.slots = s.report.slots ∧
    (markHoldover m e s).report.events = s.report.events ∧ (markHoldover m e s).ahead = s.ahead ∧
    (markHoldover m e s).seed = s.seed ∧ (markHoldover m e s).pending = s.pending := by
  unfold markHoldover
  (repeat' split) <;> simp

/-- Changes only timing, report.keys. -/
@[simp] theorem takeMark_keeps (e : Int) (after : Bool) (s : State) :
    (takeMark e after s).phase = s.phase ∧ (takeMark e after s).own = s.own ∧ (takeMark e after s).config = s.config ∧
    (takeMark e after s).link = s.link ∧ (takeMark e after s).feeds = s.feeds ∧ (takeMark e after s).demand = s.demand
    ∧ (takeMark e after s).gain = s.gain ∧ (takeMark e after s).steps = s.steps ∧ (takeMark e after s).paths = s.paths
    ∧ (takeMark e after s).head = s.head ∧ (takeMark e after s).phantom = s.phantom ∧
    (takeMark e after s).batch = s.batch ∧ (takeMark e after s).report.slots = s.report.slots ∧
    (takeMark e after s).report.events = s.report.events ∧ (takeMark e after s).ahead = s.ahead ∧
    (takeMark e after s).seed = s.seed ∧ (takeMark e after s).pending = s.pending := by
  unfold takeMark
  split <;> simp

/-- Changes only timing, report.keys. -/
@[simp] theorem markAt_keeps (tick : Nat) (s : State) :
    (markAt tick s).phase = s.phase ∧ (markAt tick s).own = s.own ∧ (markAt tick s).config = s.config ∧
    (markAt tick s).link = s.link ∧ (markAt tick s).feeds = s.feeds ∧ (markAt tick s).demand = s.demand ∧
    (markAt tick s).gain = s.gain ∧ (markAt tick s).steps = s.steps ∧ (markAt tick s).paths = s.paths ∧
    (markAt tick s).head = s.head ∧ (markAt tick s).phantom = s.phantom ∧ (markAt tick s).batch = s.batch ∧
    (markAt tick s).report.slots = s.report.slots ∧ (markAt tick s).report.events = s.report.events ∧
    (markAt tick s).ahead = s.ahead ∧ (markAt tick s).seed = s.seed ∧ (markAt tick s).pending = s.pending := by
  unfold markAt
  dsimp only
  (repeat' split) <;> simp

/-- Changes only timing, report.keys. -/
@[simp] theorem driveMark_keeps (lineActive : Bool) (s : State) :
    (driveMark lineActive s).phase = s.phase ∧ (driveMark lineActive s).own = s.own ∧
    (driveMark lineActive s).config = s.config ∧ (driveMark lineActive s).link = s.link ∧
    (driveMark lineActive s).feeds = s.feeds ∧ (driveMark lineActive s).demand = s.demand ∧
    (driveMark lineActive s).gain = s.gain ∧ (driveMark lineActive s).steps = s.steps ∧
    (driveMark lineActive s).paths = s.paths ∧ (driveMark lineActive s).head = s.head ∧
    (driveMark lineActive s).phantom = s.phantom ∧ (driveMark lineActive s).batch = s.batch ∧
    (driveMark lineActive s).report.slots = s.report.slots ∧ (driveMark lineActive s).report.events = s.report.events
    ∧ (driveMark lineActive s).ahead = s.ahead ∧ (driveMark lineActive s).seed = s.seed ∧
    (driveMark lineActive s).pending = s.pending := by
  unfold driveMark
  split <;> simp

/-- Changes only timing, report.keys. -/
@[simp] theorem toFree_keeps (s : State) :
    (toFree s).phase = s.phase ∧ (toFree s).own = s.own ∧ (toFree s).config = s.config ∧ (toFree s).link = s.link ∧
    (toFree s).feeds = s.feeds ∧ (toFree s).demand = s.demand ∧ (toFree s).gain = s.gain ∧ (toFree s).steps = s.steps
    ∧ (toFree s).paths = s.paths ∧ (toFree s).head = s.head ∧ (toFree s).phantom = s.phantom ∧
    (toFree s).batch = s.batch ∧ (toFree s).report.slots = s.report.slots ∧ (toFree s).report.events = s.report.events
    ∧ (toFree s).ahead = s.ahead ∧ (toFree s).seed = s.seed ∧ (toFree s).pending = s.pending := by
  unfold toFree
  simp

/-! ## The gain resolver -/

/-- Changes only gain.announce, report.keys. -/
@[simp] theorem updateAnnounce_keeps (g : Group) (s : State) :
    (updateAnnounce g s).phase = s.phase ∧ (updateAnnounce g s).own = s.own ∧ (updateAnnounce g s).config = s.config ∧
    (updateAnnounce g s).link = s.link ∧ (updateAnnounce g s).timing = s.timing ∧ (updateAnnounce g s).feeds = s.feeds
    ∧ (updateAnnounce g s).demand = s.demand ∧ (updateAnnounce g s).gain.recs = s.gain.recs ∧
    (updateAnnounce g s).gain.table = s.gain.table ∧ (updateAnnounce g s).gain.full = s.gain.full ∧
    (updateAnnounce g s).steps = s.steps ∧ (updateAnnounce g s).paths = s.paths ∧ (updateAnnounce g s).head = s.head ∧
    (updateAnnounce g s).phantom = s.phantom ∧ (updateAnnounce g s).batch = s.batch ∧
    (updateAnnounce g s).report.slots = s.report.slots ∧ (updateAnnounce g s).report.events = s.report.events ∧
    (updateAnnounce g s).ahead = s.ahead ∧ (updateAnnounce g s).seed = s.seed ∧
    (updateAnnounce g s).pending = s.pending := by
  unfold updateAnnounce
  split <;> simp

/-- All of its rounds change only gain.announce, report.keys. -/
@[simp] theorem forEach_updateAnnounce (l : List Group) (s : State) :
    (forEach l updateAnnounce s).phase = s.phase ∧ (forEach l updateAnnounce s).own = s.own ∧
    (forEach l updateAnnounce s).config = s.config ∧ (forEach l updateAnnounce s).link = s.link ∧
    (forEach l updateAnnounce s).timing = s.timing ∧ (forEach l updateAnnounce s).feeds = s.feeds ∧
    (forEach l updateAnnounce s).demand = s.demand ∧ (forEach l updateAnnounce s).gain.recs = s.gain.recs ∧
    (forEach l updateAnnounce s).gain.table = s.gain.table ∧ (forEach l updateAnnounce s).gain.full = s.gain.full ∧
    (forEach l updateAnnounce s).steps = s.steps ∧ (forEach l updateAnnounce s).paths = s.paths ∧
    (forEach l updateAnnounce s).head = s.head ∧ (forEach l updateAnnounce s).phantom = s.phantom ∧
    (forEach l updateAnnounce s).batch = s.batch ∧ (forEach l updateAnnounce s).report.slots = s.report.slots ∧
    (forEach l updateAnnounce s).report.events = s.report.events ∧ (forEach l updateAnnounce s).ahead = s.ahead ∧
    (forEach l updateAnnounce s).seed = s.seed ∧ (forEach l updateAnnounce s).pending = s.pending := by
  have h := forEach_keeps (fun t : State => (t.phase, t.own, t.config, t.link, t.timing, t.feeds, t.demand,
      t.gain.recs, t.gain.table, t.gain.full, t.steps, t.paths, t.head, t.phantom, t.batch, t.report.slots,
      t.report.events, t.ahead, t.seed, t.pending)) (l := l) (f := updateAnnounce) (fun _ _ => by simp) s
  simpa using h

/-- Changes only demand, gain.recs. -/
@[simp] theorem writeResolved_keeps (s : State) :
    (writeResolved s).phase = s.phase ∧ (writeResolved s).own = s.own ∧ (writeResolved s).config = s.config ∧
    (writeResolved s).link = s.link ∧ (writeResolved s).timing = s.timing ∧ (writeResolved s).feeds = s.feeds ∧
    (writeResolved s).gain.table = s.gain.table ∧ (writeResolved s).gain.full = s.gain.full ∧
    (writeResolved s).gain.announce = s.gain.announce ∧ (writeResolved s).steps = s.steps ∧
    (writeResolved s).paths = s.paths ∧ (writeResolved s).head = s.head ∧ (writeResolved s).phantom = s.phantom ∧
    (writeResolved s).batch = s.batch ∧ (writeResolved s).report = s.report ∧ (writeResolved s).ahead = s.ahead ∧
    (writeResolved s).seed = s.seed ∧ (writeResolved s).pending = s.pending :=
  ⟨rfl, rfl, rfl, rfl, rfl, rfl, rfl, rfl, rfl, rfl, rfl, rfl, rfl, rfl, rfl, rfl, rfl, rfl⟩

/-- Changes only demand, gain.recs, gain.announce, report.keys. -/
@[simp] theorem resolveAll_keeps (s : State) :
    (resolveAll s).phase = s.phase ∧ (resolveAll s).own = s.own ∧ (resolveAll s).config = s.config ∧
    (resolveAll s).link = s.link ∧ (resolveAll s).timing = s.timing ∧ (resolveAll s).feeds = s.feeds ∧
    (resolveAll s).gain.table = s.gain.table ∧ (resolveAll s).gain.full = s.gain.full ∧ (resolveAll s).steps = s.steps
    ∧ (resolveAll s).paths = s.paths ∧ (resolveAll s).head = s.head ∧ (resolveAll s).phantom = s.phantom ∧
    (resolveAll s).batch = s.batch ∧ (resolveAll s).report.slots = s.report.slots ∧
    (resolveAll s).report.events = s.report.events ∧ (resolveAll s).ahead = s.ahead ∧ (resolveAll s).seed = s.seed ∧
    (resolveAll s).pending = s.pending := by
  unfold resolveAll
  simp

/-- Changes only gain.full, report.keys. -/
@[simp] theorem freeRoom_keeps (s : State) :
    (freeRoom s).phase = s.phase ∧ (freeRoom s).own = s.own ∧ (freeRoom s).config = s.config ∧
    (freeRoom s).link = s.link ∧ (freeRoom s).timing = s.timing ∧ (freeRoom s).feeds = s.feeds ∧
    (freeRoom s).demand = s.demand ∧ (freeRoom s).gain.recs = s.gain.recs ∧ (freeRoom s).gain.table = s.gain.table ∧
    (freeRoom s).gain.announce = s.gain.announce ∧ (freeRoom s).steps = s.steps ∧ (freeRoom s).paths = s.paths ∧
    (freeRoom s).head = s.head ∧ (freeRoom s).phantom = s.phantom ∧ (freeRoom s).batch = s.batch ∧
    (freeRoom s).report.slots = s.report.slots ∧ (freeRoom s).report.events = s.report.events ∧
    (freeRoom s).ahead = s.ahead ∧ (freeRoom s).seed = s.seed ∧ (freeRoom s).pending = s.pending := by
  unfold freeRoom
  split <;> simp

/-- Changes only demand, gain.table, gain.full, report.keys. -/
@[simp] theorem removeLinks_keeps (p : LinkEntry → Bool) (s : State) :
    (removeLinks p s).phase = s.phase ∧ (removeLinks p s).own = s.own ∧ (removeLinks p s).config = s.config ∧
    (removeLinks p s).link = s.link ∧ (removeLinks p s).timing = s.timing ∧ (removeLinks p s).feeds = s.feeds ∧
    (removeLinks p s).gain.recs = s.gain.recs ∧ (removeLinks p s).gain.announce = s.gain.announce ∧
    (removeLinks p s).steps = s.steps ∧ (removeLinks p s).paths = s.paths ∧ (removeLinks p s).head = s.head ∧
    (removeLinks p s).phantom = s.phantom ∧ (removeLinks p s).batch = s.batch ∧
    (removeLinks p s).report.slots = s.report.slots ∧ (removeLinks p s).report.events = s.report.events ∧
    (removeLinks p s).ahead = s.ahead ∧ (removeLinks p s).seed = s.seed ∧ (removeLinks p s).pending = s.pending := by
  unfold removeLinks
  split <;> simp

/-- Changes only demand, gain.table, gain.full, report.keys. -/
@[simp] theorem ageLinks_keeps (s : State) :
    (ageLinks s).phase = s.phase ∧ (ageLinks s).own = s.own ∧ (ageLinks s).config = s.config ∧
    (ageLinks s).link = s.link ∧ (ageLinks s).timing = s.timing ∧ (ageLinks s).feeds = s.feeds ∧
    (ageLinks s).gain.recs = s.gain.recs ∧ (ageLinks s).gain.announce = s.gain.announce ∧ (ageLinks s).steps = s.steps
    ∧ (ageLinks s).paths = s.paths ∧ (ageLinks s).head = s.head ∧ (ageLinks s).phantom = s.phantom ∧
    (ageLinks s).batch = s.batch ∧ (ageLinks s).report.slots = s.report.slots ∧
    (ageLinks s).report.events = s.report.events ∧ (ageLinks s).ahead = s.ahead ∧ (ageLinks s).seed = s.seed ∧
    (ageLinks s).pending = s.pending := by
  unfold ageLinks
  simp

/-- Changes only demand, gain.table, gain.full, report.keys. -/
@[simp] theorem storeLink_keeps (e : LinkEntry) (s : State) :
    (storeLink e s).phase = s.phase ∧ (storeLink e s).own = s.own ∧ (storeLink e s).config = s.config ∧
    (storeLink e s).link = s.link ∧ (storeLink e s).timing = s.timing ∧ (storeLink e s).feeds = s.feeds ∧
    (storeLink e s).gain.recs = s.gain.recs ∧ (storeLink e s).gain.announce = s.gain.announce ∧
    (storeLink e s).steps = s.steps ∧ (storeLink e s).paths = s.paths ∧ (storeLink e s).head = s.head ∧
    (storeLink e s).phantom = s.phantom ∧ (storeLink e s).batch = s.batch ∧
    (storeLink e s).report.slots = s.report.slots ∧ (storeLink e s).report.events = s.report.events ∧
    (storeLink e s).ahead = s.ahead ∧ (storeLink e s).seed = s.seed ∧ (storeLink e s).pending = s.pending := by
  unfold storeLink
  (repeat' split) <;> simp

/-! ## The step controller -/

/-- Changes only steps. -/
@[simp] theorem putStep_keeps (c : Chan) (r : StepRec) (s : State) :
    (putStep c r s).phase = s.phase ∧ (putStep c r s).own = s.own ∧ (putStep c r s).config = s.config ∧
    (putStep c r s).link = s.link ∧ (putStep c r s).timing = s.timing ∧ (putStep c r s).feeds = s.feeds ∧
    (putStep c r s).demand = s.demand ∧ (putStep c r s).gain = s.gain ∧ (putStep c r s).paths = s.paths ∧
    (putStep c r s).head = s.head ∧ (putStep c r s).phantom = s.phantom ∧ (putStep c r s).batch = s.batch ∧
    (putStep c r s).report = s.report ∧ (putStep c r s).ahead = s.ahead ∧ (putStep c r s).seed = s.seed ∧
    (putStep c r s).pending = s.pending := by
  unfold putStep
  split <;> simp

/-- Changes only steps, report.keys. -/
@[simp] theorem changeStep_keeps (c : Chan) (r : StepRec) (s : State) :
    (changeStep c r s).phase = s.phase ∧ (changeStep c r s).own = s.own ∧ (changeStep c r s).config = s.config ∧
    (changeStep c r s).link = s.link ∧ (changeStep c r s).timing = s.timing ∧ (changeStep c r s).feeds = s.feeds ∧
    (changeStep c r s).demand = s.demand ∧ (changeStep c r s).gain = s.gain ∧ (changeStep c r s).paths = s.paths ∧
    (changeStep c r s).head = s.head ∧ (changeStep c r s).phantom = s.phantom ∧ (changeStep c r s).batch = s.batch ∧
    (changeStep c r s).report.slots = s.report.slots ∧ (changeStep c r s).report.events = s.report.events ∧
    (changeStep c r s).ahead = s.ahead ∧ (changeStep c r s).seed = s.seed ∧ (changeStep c r s).pending = s.pending := by
  unfold changeStep
  dsimp only
  (repeat' split) <;> simp

/-- Changes only link.pair, steps, report.keys, report.events. -/
@[simp] theorem enterFault_keeps (c : Chan) (r : StepRec) (s : State) :
    (enterFault c r s).phase = s.phase ∧ (enterFault c r s).own = s.own ∧ (enterFault c r s).config = s.config ∧
    (enterFault c r s).link.stations = s.link.stations ∧ (enterFault c r s).link.clash = s.link.clash ∧
    (enterFault c r s).link.errors = s.link.errors ∧ (enterFault c r s).timing = s.timing ∧
    (enterFault c r s).feeds = s.feeds ∧ (enterFault c r s).demand = s.demand ∧ (enterFault c r s).gain = s.gain ∧
    (enterFault c r s).paths = s.paths ∧ (enterFault c r s).head = s.head ∧ (enterFault c r s).phantom = s.phantom ∧
    (enterFault c r s).batch = s.batch ∧ (enterFault c r s).report.slots = s.report.slots ∧
    (enterFault c r s).ahead = s.ahead ∧ (enterFault c r s).seed = s.seed ∧ (enterFault c r s).pending = s.pending := by
  unfold enterFault
  simp

/-- Changes only link.pair, steps, report.keys, report.events. -/
@[simp] theorem mismatched_keeps (c : Chan) (r : StepRec) (s : State) :
    (mismatched c r s).phase = s.phase ∧ (mismatched c r s).own = s.own ∧ (mismatched c r s).config = s.config ∧
    (mismatched c r s).link.stations = s.link.stations ∧ (mismatched c r s).link.clash = s.link.clash ∧
    (mismatched c r s).link.errors = s.link.errors ∧ (mismatched c r s).timing = s.timing ∧
    (mismatched c r s).feeds = s.feeds ∧ (mismatched c r s).demand = s.demand ∧ (mismatched c r s).gain = s.gain ∧
    (mismatched c r s).paths = s.paths ∧ (mismatched c r s).head = s.head ∧ (mismatched c r s).phantom = s.phantom ∧
    (mismatched c r s).batch = s.batch ∧ (mismatched c r s).report.slots = s.report.slots ∧
    (mismatched c r s).ahead = s.ahead ∧ (mismatched c r s).seed = s.seed ∧ (mismatched c r s).pending = s.pending := by
  unfold mismatched
  split <;> simp

/-- Changes only link.pair, steps, report.keys, report.events. -/
@[simp] theorem stepExchange_keeps (rb : Readback) (c : Chan) (target : Int) (r : StepRec) (s : State) :
    (stepExchange rb c target r s).phase = s.phase ∧ (stepExchange rb c target r s).own = s.own ∧
    (stepExchange rb c target r s).config = s.config ∧ (stepExchange rb c target r s).link.stations = s.link.stations
    ∧ (stepExchange rb c target r s).link.clash = s.link.clash ∧
    (stepExchange rb c target r s).link.errors = s.link.errors ∧ (stepExchange rb c target r s).timing = s.timing ∧
    (stepExchange rb c target r s).feeds = s.feeds ∧ (stepExchange rb c target r s).demand = s.demand ∧
    (stepExchange rb c target r s).gain = s.gain ∧ (stepExchange rb c target r s).paths = s.paths ∧
    (stepExchange rb c target r s).head = s.head ∧ (stepExchange rb c target r s).phantom = s.phantom ∧
    (stepExchange rb c target r s).batch = s.batch ∧ (stepExchange rb c target r s).report.slots = s.report.slots ∧
    (stepExchange rb c target r s).ahead = s.ahead ∧ (stepExchange rb c target r s).seed = s.seed ∧
    (stepExchange rb c target r s).pending = s.pending := by
  unfold stepExchange
  dsimp only
  (repeat' split) <;> simp

/-- Changes only link.pair, steps, report.keys, report.events. -/
@[simp] theorem restoreWrite_keeps (rb : Readback) (c : Chan) (r : StepRec) (s : State) :
    (restoreWrite rb c r s).phase = s.phase ∧ (restoreWrite rb c r s).own = s.own ∧
    (restoreWrite rb c r s).config = s.config ∧ (restoreWrite rb c r s).link.stations = s.link.stations ∧
    (restoreWrite rb c r s).link.clash = s.link.clash ∧ (restoreWrite rb c r s).link.errors = s.link.errors ∧
    (restoreWrite rb c r s).timing = s.timing ∧ (restoreWrite rb c r s).feeds = s.feeds ∧
    (restoreWrite rb c r s).demand = s.demand ∧ (restoreWrite rb c r s).gain = s.gain ∧
    (restoreWrite rb c r s).paths = s.paths ∧ (restoreWrite rb c r s).head = s.head ∧
    (restoreWrite rb c r s).phantom = s.phantom ∧ (restoreWrite rb c r s).batch = s.batch ∧
    (restoreWrite rb c r s).report.slots = s.report.slots ∧ (restoreWrite rb c r s).ahead = s.ahead ∧
    (restoreWrite rb c r s).seed = s.seed ∧ (restoreWrite rb c r s).pending = s.pending := by
  unfold restoreWrite
  split <;> simp

/-- Changes only link.pair, steps, report.keys, report.events. -/
@[simp] theorem decideStep_keeps (rb : Readback) (c : Chan) (target : Int) (r : StepRec) (s : State) :
    (decideStep rb c target r s).phase = s.phase ∧ (decideStep rb c target r s).own = s.own ∧
    (decideStep rb c target r s).config = s.config ∧ (decideStep rb c target r s).link.stations = s.link.stations ∧
    (decideStep rb c target r s).link.clash = s.link.clash ∧ (decideStep rb c target r s).link.errors = s.link.errors
    ∧ (decideStep rb c target r s).timing = s.timing ∧ (decideStep rb c target r s).feeds = s.feeds ∧
    (decideStep rb c target r s).demand = s.demand ∧ (decideStep rb c target r s).gain = s.gain ∧
    (decideStep rb c target r s).paths = s.paths ∧ (decideStep rb c target r s).head = s.head ∧
    (decideStep rb c target r s).phantom = s.phantom ∧ (decideStep rb c target r s).batch = s.batch ∧
    (decideStep rb c target r s).report.slots = s.report.slots ∧ (decideStep rb c target r s).ahead = s.ahead ∧
    (decideStep rb c target r s).seed = s.seed ∧ (decideStep rb c target r s).pending = s.pending := by
  unfold decideStep
  (repeat' split) <;> simp

/-- Changes only steps, report.keys. -/
@[simp] theorem retryExchange_keeps (rb : Readback) (c : Chan) (r : StepRec) (s : State) :
    (retryExchange rb c r s).phase = s.phase ∧ (retryExchange rb c r s).own = s.own ∧
    (retryExchange rb c r s).config = s.config ∧ (retryExchange rb c r s).link = s.link ∧
    (retryExchange rb c r s).timing = s.timing ∧ (retryExchange rb c r s).feeds = s.feeds ∧
    (retryExchange rb c r s).demand = s.demand ∧ (retryExchange rb c r s).gain = s.gain ∧
    (retryExchange rb c r s).paths = s.paths ∧ (retryExchange rb c r s).head = s.head ∧
    (retryExchange rb c r s).phantom = s.phantom ∧ (retryExchange rb c r s).batch = s.batch ∧
    (retryExchange rb c r s).report.slots = s.report.slots ∧ (retryExchange rb c r s).report.events = s.report.events
    ∧ (retryExchange rb c r s).ahead = s.ahead ∧ (retryExchange rb c r s).seed = s.seed ∧
    (retryExchange rb c r s).pending = s.pending := by
  unfold retryExchange
  split <;> simp

/-- Changes only link.pair, steps, report.keys, report.events. -/
@[simp] theorem stepAtBlock_keeps (rb : Readback) (c : Chan) (s : State) :
    (stepAtBlock rb c s).phase = s.phase ∧ (stepAtBlock rb c s).own = s.own ∧ (stepAtBlock rb c s).config = s.config ∧
    (stepAtBlock rb c s).link.stations = s.link.stations ∧ (stepAtBlock rb c s).link.clash = s.link.clash ∧
    (stepAtBlock rb c s).link.errors = s.link.errors ∧ (stepAtBlock rb c s).timing = s.timing ∧
    (stepAtBlock rb c s).feeds = s.feeds ∧ (stepAtBlock rb c s).demand = s.demand ∧ (stepAtBlock rb c s).gain = s.gain
    ∧ (stepAtBlock rb c s).paths = s.paths ∧ (stepAtBlock rb c s).head = s.head ∧
    (stepAtBlock rb c s).phantom = s.phantom ∧ (stepAtBlock rb c s).batch = s.batch ∧
    (stepAtBlock rb c s).report.slots = s.report.slots ∧ (stepAtBlock rb c s).ahead = s.ahead ∧
    (stepAtBlock rb c s).seed = s.seed ∧ (stepAtBlock rb c s).pending = s.pending := by
  unfold stepAtBlock
  dsimp only
  (repeat' split) <;> simp

/-- All of its rounds change only link.pair, steps, report.keys, report.events. -/
@[simp] theorem forEach_stepAtBlock (rb : Readback) (l : List Chan) (s : State) :
    (forEach l (stepAtBlock rb) s).phase = s.phase ∧ (forEach l (stepAtBlock rb) s).own = s.own ∧
    (forEach l (stepAtBlock rb) s).config = s.config ∧ (forEach l (stepAtBlock rb) s).link.stations = s.link.stations
    ∧ (forEach l (stepAtBlock rb) s).link.clash = s.link.clash ∧
    (forEach l (stepAtBlock rb) s).link.errors = s.link.errors ∧ (forEach l (stepAtBlock rb) s).timing = s.timing ∧
    (forEach l (stepAtBlock rb) s).feeds = s.feeds ∧ (forEach l (stepAtBlock rb) s).demand = s.demand ∧
    (forEach l (stepAtBlock rb) s).gain = s.gain ∧ (forEach l (stepAtBlock rb) s).paths = s.paths ∧
    (forEach l (stepAtBlock rb) s).head = s.head ∧ (forEach l (stepAtBlock rb) s).phantom = s.phantom ∧
    (forEach l (stepAtBlock rb) s).batch = s.batch ∧ (forEach l (stepAtBlock rb) s).report.slots = s.report.slots ∧
    (forEach l (stepAtBlock rb) s).ahead = s.ahead ∧ (forEach l (stepAtBlock rb) s).seed = s.seed ∧
    (forEach l (stepAtBlock rb) s).pending = s.pending := by
  have h := forEach_keeps (fun t : State => (t.phase, t.own, t.config, t.link.stations, t.link.clash, t.link.errors,
      t.timing, t.feeds, t.demand, t.gain, t.paths, t.head, t.phantom, t.batch, t.report.slots, t.ahead, t.seed,
      t.pending)) (l := l) (f := (stepAtBlock rb)) (fun _ _ => by simp) s
  simpa using h

/-- Changes only link.pair, steps, report.keys, report.events. -/
@[simp] theorem stepAll_keeps (rb : Readback) (s : State) :
    (stepAll rb s).phase = s.phase ∧ (stepAll rb s).own = s.own ∧ (stepAll rb s).config = s.config ∧
    (stepAll rb s).link.stations = s.link.stations ∧ (stepAll rb s).link.clash = s.link.clash ∧
    (stepAll rb s).link.errors = s.link.errors ∧ (stepAll rb s).timing = s.timing ∧ (stepAll rb s).feeds = s.feeds ∧
    (stepAll rb s).demand = s.demand ∧ (stepAll rb s).gain = s.gain ∧ (stepAll rb s).paths = s.paths ∧
    (stepAll rb s).head = s.head ∧ (stepAll rb s).phantom = s.phantom ∧ (stepAll rb s).batch = s.batch ∧
    (stepAll rb s).report.slots = s.report.slots ∧ (stepAll rb s).ahead = s.ahead ∧ (stepAll rb s).seed = s.seed ∧
    (stepAll rb s).pending = s.pending := by
  unfold stepAll
  simp

/-- Changes only gain.recs. -/
@[simp] theorem putTrims_keeps (c : Chan) (t : Tab Trim 6) (s : State) :
    (putTrims c t s).phase = s.phase ∧ (putTrims c t s).own = s.own ∧ (putTrims c t s).config = s.config ∧
    (putTrims c t s).link = s.link ∧ (putTrims c t s).timing = s.timing ∧ (putTrims c t s).feeds = s.feeds ∧
    (putTrims c t s).demand = s.demand ∧ (putTrims c t s).gain.table = s.gain.table ∧
    (putTrims c t s).gain.full = s.gain.full ∧ (putTrims c t s).gain.announce = s.gain.announce ∧
    (putTrims c t s).steps = s.steps ∧ (putTrims c t s).paths = s.paths ∧ (putTrims c t s).head = s.head ∧
    (putTrims c t s).phantom = s.phantom ∧ (putTrims c t s).batch = s.batch ∧ (putTrims c t s).report = s.report ∧
    (putTrims c t s).ahead = s.ahead ∧ (putTrims c t s).seed = s.seed ∧ (putTrims c t s).pending = s.pending :=
  ⟨rfl, rfl, rfl, rfl, rfl, rfl, rfl, rfl, rfl, rfl, rfl, rfl, rfl, rfl, rfl, rfl, rfl, rfl, rfl⟩

/-- Changes only gain.recs, steps, report.keys. -/
@[simp] theorem compensate_keeps (c : Chan) (s : State) :
    (compensate c s).phase = s.phase ∧ (compensate c s).own = s.own ∧ (compensate c s).config = s.config ∧
    (compensate c s).link = s.link ∧ (compensate c s).timing = s.timing ∧ (compensate c s).feeds = s.feeds ∧
    (compensate c s).demand = s.demand ∧ (compensate c s).gain.table = s.gain.table ∧
    (compensate c s).gain.full = s.gain.full ∧ (compensate c s).gain.announce = s.gain.announce ∧
    (compensate c s).paths = s.paths ∧ (compensate c s).head = s.head ∧ (compensate c s).phantom = s.phantom ∧
    (compensate c s).batch = s.batch ∧ (compensate c s).report.slots = s.report.slots ∧
    (compensate c s).report.events = s.report.events ∧ (compensate c s).ahead = s.ahead ∧
    (compensate c s).seed = s.seed ∧ (compensate c s).pending = s.pending := by
  unfold compensate
  dsimp only
  (repeat' split) <;> simp

/-- Changes only gain.recs, steps, report.keys. -/
@[simp] theorem countDown_keeps (c : Chan) (s : State) :
    (countDown c s).phase = s.phase ∧ (countDown c s).own = s.own ∧ (countDown c s).config = s.config ∧
    (countDown c s).link = s.link ∧ (countDown c s).timing = s.timing ∧ (countDown c s).feeds = s.feeds ∧
    (countDown c s).demand = s.demand ∧ (countDown c s).gain.table = s.gain.table ∧
    (countDown c s).gain.full = s.gain.full ∧ (countDown c s).gain.announce = s.gain.announce ∧
    (countDown c s).paths = s.paths ∧ (countDown c s).head = s.head ∧ (countDown c s).phantom = s.phantom ∧
    (countDown c s).batch = s.batch ∧ (countDown c s).report.slots = s.report.slots ∧
    (countDown c s).report.events = s.report.events ∧ (countDown c s).ahead = s.ahead ∧ (countDown c s).seed = s.seed
    ∧ (countDown c s).pending = s.pending := by
  unfold countDown
  dsimp only
  (repeat' split) <;> simp

/-- All of its rounds change only gain.recs, steps, report.keys. -/
@[simp] theorem forEach_countDown (l : List Chan) (s : State) :
    (forEach l countDown s).phase = s.phase ∧ (forEach l countDown s).own = s.own ∧
    (forEach l countDown s).config = s.config ∧ (forEach l countDown s).link = s.link ∧
    (forEach l countDown s).timing = s.timing ∧ (forEach l countDown s).feeds = s.feeds ∧
    (forEach l countDown s).demand = s.demand ∧ (forEach l countDown s).gain.table = s.gain.table ∧
    (forEach l countDown s).gain.full = s.gain.full ∧ (forEach l countDown s).gain.announce = s.gain.announce ∧
    (forEach l countDown s).paths = s.paths ∧ (forEach l countDown s).head = s.head ∧
    (forEach l countDown s).phantom = s.phantom ∧ (forEach l countDown s).batch = s.batch ∧
    (forEach l countDown s).report.slots = s.report.slots ∧ (forEach l countDown s).report.events = s.report.events ∧
    (forEach l countDown s).ahead = s.ahead ∧ (forEach l countDown s).seed = s.seed ∧
    (forEach l countDown s).pending = s.pending := by
  have h := forEach_keeps (fun t : State => (t.phase, t.own, t.config, t.link, t.timing, t.feeds, t.demand,
      t.gain.table, t.gain.full, t.gain.announce, t.paths, t.head, t.phantom, t.batch, t.report.slots,
      t.report.events, t.ahead, t.seed, t.pending)) (l := l) (f := countDown) (fun _ _ => by simp) s
  simpa using h

/-- Changes only link.pair, steps, report.keys, report.events. -/
@[simp] theorem boxResetRetry_keeps (rb : Readback) (c : Chan) (s : State) :
    (boxResetRetry rb c s).phase = s.phase ∧ (boxResetRetry rb c s).own = s.own ∧
    (boxResetRetry rb c s).config = s.config ∧ (boxResetRetry rb c s).link.stations = s.link.stations ∧
    (boxResetRetry rb c s).link.clash = s.link.clash ∧ (boxResetRetry rb c s).link.errors = s.link.errors ∧
    (boxResetRetry rb c s).timing = s.timing ∧ (boxResetRetry rb c s).feeds = s.feeds ∧
    (boxResetRetry rb c s).demand = s.demand ∧ (boxResetRetry rb c s).gain = s.gain ∧
    (boxResetRetry rb c s).paths = s.paths ∧ (boxResetRetry rb c s).head = s.head ∧
    (boxResetRetry rb c s).phantom = s.phantom ∧ (boxResetRetry rb c s).batch = s.batch ∧
    (boxResetRetry rb c s).report.slots = s.report.slots ∧ (boxResetRetry rb c s).ahead = s.ahead ∧
    (boxResetRetry rb c s).seed = s.seed ∧ (boxResetRetry rb c s).pending = s.pending := by
  unfold boxResetRetry
  dsimp only
  (repeat' split) <;> simp

/-- All of its rounds change only link.pair, steps, report.keys, report.events. -/
@[simp] theorem forEach_boxResetRetry (rb : Readback) (l : List Chan) (s : State) :
    (forEach l (boxResetRetry rb) s).phase = s.phase ∧ (forEach l (boxResetRetry rb) s).own = s.own ∧
    (forEach l (boxResetRetry rb) s).config = s.config ∧
    (forEach l (boxResetRetry rb) s).link.stations = s.link.stations ∧
    (forEach l (boxResetRetry rb) s).link.clash = s.link.clash ∧
    (forEach l (boxResetRetry rb) s).link.errors = s.link.errors ∧ (forEach l (boxResetRetry rb) s).timing = s.timing
    ∧ (forEach l (boxResetRetry rb) s).feeds = s.feeds ∧ (forEach l (boxResetRetry rb) s).demand = s.demand ∧
    (forEach l (boxResetRetry rb) s).gain = s.gain ∧ (forEach l (boxResetRetry rb) s).paths = s.paths ∧
    (forEach l (boxResetRetry rb) s).head = s.head ∧ (forEach l (boxResetRetry rb) s).phantom = s.phantom ∧
    (forEach l (boxResetRetry rb) s).batch = s.batch ∧ (forEach l (boxResetRetry rb) s).report.slots = s.report.slots
    ∧ (forEach l (boxResetRetry rb) s).ahead = s.ahead ∧ (forEach l (boxResetRetry rb) s).seed = s.seed ∧
    (forEach l (boxResetRetry rb) s).pending = s.pending := by
  have h := forEach_keeps (fun t : State => (t.phase, t.own, t.config, t.link.stations, t.link.clash, t.link.errors,
      t.timing, t.feeds, t.demand, t.gain, t.paths, t.head, t.phantom, t.batch, t.report.slots, t.ahead, t.seed,
      t.pending)) (l := l) (f := (boxResetRetry rb)) (fun _ _ => by simp) s
  simpa using h

/-! ## The demand table -/

/-- Changes only link.pair, demand, phantom.recs, report.keys, report.events. -/
@[simp] theorem putEntry_keeps (f : Feed) (o : Option Entry) (c : Chan) (s : State) :
    (putEntry f o c s).phase = s.phase ∧ (putEntry f o c s).own = s.own ∧ (putEntry f o c s).config = s.config ∧
    (putEntry f o c s).link.stations = s.link.stations ∧ (putEntry f o c s).link.clash = s.link.clash ∧
    (putEntry f o c s).link.errors = s.link.errors ∧ (putEntry f o c s).timing = s.timing ∧
    (putEntry f o c s).feeds = s.feeds ∧ (putEntry f o c s).gain = s.gain ∧ (putEntry f o c s).steps = s.steps ∧
    (putEntry f o c s).paths = s.paths ∧ (putEntry f o c s).head = s.head ∧
    (putEntry f o c s).phantom.bank = s.phantom.bank ∧ (putEntry f o c s).phantom.lineQuiet = s.phantom.lineQuiet ∧
    (putEntry f o c s).phantom.overload = s.phantom.overload ∧
    (putEntry f o c s).phantom.mainGood = s.phantom.mainGood ∧ (putEntry f o c s).phantom.auxGood = s.phantom.auxGood
    ∧ (putEntry f o c s).batch = s.batch ∧ (putEntry f o c s).report.slots = s.report.slots ∧
    (putEntry f o c s).ahead = s.ahead ∧ (putEntry f o c s).seed = s.seed ∧ (putEntry f o c s).pending = s.pending := by
  unfold putEntry
  simp

/-- Changes only link.pair, demand, phantom.recs, report.keys, report.events. -/
@[simp] theorem writeChannel_keeps (f : Feed) (w : DemandWrite) (blk : Word16) (c : Chan) (s : State) :
    (writeChannel f w blk c s).phase = s.phase ∧ (writeChannel f w blk c s).own = s.own ∧
    (writeChannel f w blk c s).config = s.config ∧ (writeChannel f w blk c s).link.stations = s.link.stations ∧
    (writeChannel f w blk c s).link.clash = s.link.clash ∧ (writeChannel f w blk c s).link.errors = s.link.errors ∧
    (writeChannel f w blk c s).timing = s.timing ∧ (writeChannel f w blk c s).feeds = s.feeds ∧
    (writeChannel f w blk c s).gain = s.gain ∧ (writeChannel f w blk c s).steps = s.steps ∧
    (writeChannel f w blk c s).paths = s.paths ∧ (writeChannel f w blk c s).head = s.head ∧
    (writeChannel f w blk c s).phantom.bank = s.phantom.bank ∧
    (writeChannel f w blk c s).phantom.lineQuiet = s.phantom.lineQuiet ∧
    (writeChannel f w blk c s).phantom.overload = s.phantom.overload ∧
    (writeChannel f w blk c s).phantom.mainGood = s.phantom.mainGood ∧
    (writeChannel f w blk c s).phantom.auxGood = s.phantom.auxGood ∧ (writeChannel f w blk c s).batch = s.batch ∧
    (writeChannel f w blk c s).report.slots = s.report.slots ∧ (writeChannel f w blk c s).ahead = s.ahead ∧
    (writeChannel f w blk c s).seed = s.seed ∧ (writeChannel f w blk c s).pending = s.pending := by
  unfold writeChannel
  simp

/-- All of its rounds change only link.pair, demand, phantom.recs, report.keys, report.events. -/
@[simp] theorem forEach_writeChannel (f : Feed) (w : DemandWrite) (blk : Word16) (l : List Chan) (s : State) :
    (forEach l (writeChannel f w blk) s).phase = s.phase ∧ (forEach l (writeChannel f w blk) s).own = s.own ∧
    (forEach l (writeChannel f w blk) s).config = s.config ∧
    (forEach l (writeChannel f w blk) s).link.stations = s.link.stations ∧
    (forEach l (writeChannel f w blk) s).link.clash = s.link.clash ∧
    (forEach l (writeChannel f w blk) s).link.errors = s.link.errors ∧
    (forEach l (writeChannel f w blk) s).timing = s.timing ∧ (forEach l (writeChannel f w blk) s).feeds = s.feeds ∧
    (forEach l (writeChannel f w blk) s).gain = s.gain ∧ (forEach l (writeChannel f w blk) s).steps = s.steps ∧
    (forEach l (writeChannel f w blk) s).paths = s.paths ∧ (forEach l (writeChannel f w blk) s).head = s.head ∧
    (forEach l (writeChannel f w blk) s).phantom.bank = s.phantom.bank ∧
    (forEach l (writeChannel f w blk) s).phantom.lineQuiet = s.phantom.lineQuiet ∧
    (forEach l (writeChannel f w blk) s).phantom.overload = s.phantom.overload ∧
    (forEach l (writeChannel f w blk) s).phantom.mainGood = s.phantom.mainGood ∧
    (forEach l (writeChannel f w blk) s).phantom.auxGood = s.phantom.auxGood ∧
    (forEach l (writeChannel f w blk) s).batch = s.batch ∧
    (forEach l (writeChannel f w blk) s).report.slots = s.report.slots ∧
    (forEach l (writeChannel f w blk) s).ahead = s.ahead ∧ (forEach l (writeChannel f w blk) s).seed = s.seed ∧
    (forEach l (writeChannel f w blk) s).pending = s.pending := by
  have h := forEach_keeps (fun t : State => (t.phase, t.own, t.config, t.link.stations, t.link.clash, t.link.errors,
      t.timing, t.feeds, t.gain, t.steps, t.paths, t.head, t.phantom.bank, t.phantom.lineQuiet, t.phantom.overload,
      t.phantom.mainGood, t.phantom.auxGood, t.batch, t.report.slots, t.ahead, t.seed, t.pending)) (l := l) (f :=
      (writeChannel f w blk)) (fun _ _ => by simp) s
  simpa using h

/-- Changes only link.pair, demand, phantom.recs, report.keys, report.events. -/
@[simp] theorem removeEntry_keeps (f : Feed) (c : Chan) (s : State) :
    (removeEntry f c s).phase = s.phase ∧ (removeEntry f c s).own = s.own ∧ (removeEntry f c s).config = s.config ∧
    (removeEntry f c s).link.stations = s.link.stations ∧ (removeEntry f c s).link.clash = s.link.clash ∧
    (removeEntry f c s).link.errors = s.link.errors ∧ (removeEntry f c s).timing = s.timing ∧
    (removeEntry f c s).feeds = s.feeds ∧ (removeEntry f c s).gain = s.gain ∧ (removeEntry f c s).steps = s.steps ∧
    (removeEntry f c s).paths = s.paths ∧ (removeEntry f c s).head = s.head ∧
    (removeEntry f c s).phantom.bank = s.phantom.bank ∧ (removeEntry f c s).phantom.lineQuiet = s.phantom.lineQuiet ∧
    (removeEntry f c s).phantom.overload = s.phantom.overload ∧
    (removeEntry f c s).phantom.mainGood = s.phantom.mainGood ∧
    (removeEntry f c s).phantom.auxGood = s.phantom.auxGood ∧ (removeEntry f c s).batch = s.batch ∧
    (removeEntry f c s).report.slots = s.report.slots ∧ (removeEntry f c s).ahead = s.ahead ∧
    (removeEntry f c s).seed = s.seed ∧ (removeEntry f c s).pending = s.pending := by
  unfold removeEntry
  split <;> simp

/-- All of its rounds change only link.pair, demand, phantom.recs, report.keys, report.events. -/
@[simp] theorem forEach_removeEntry (f : Feed) (l : List Chan) (s : State) :
    (forEach l (removeEntry f) s).phase = s.phase ∧ (forEach l (removeEntry f) s).own = s.own ∧
    (forEach l (removeEntry f) s).config = s.config ∧ (forEach l (removeEntry f) s).link.stations = s.link.stations ∧
    (forEach l (removeEntry f) s).link.clash = s.link.clash ∧
    (forEach l (removeEntry f) s).link.errors = s.link.errors ∧ (forEach l (removeEntry f) s).timing = s.timing ∧
    (forEach l (removeEntry f) s).feeds = s.feeds ∧ (forEach l (removeEntry f) s).gain = s.gain ∧
    (forEach l (removeEntry f) s).steps = s.steps ∧ (forEach l (removeEntry f) s).paths = s.paths ∧
    (forEach l (removeEntry f) s).head = s.head ∧ (forEach l (removeEntry f) s).phantom.bank = s.phantom.bank ∧
    (forEach l (removeEntry f) s).phantom.lineQuiet = s.phantom.lineQuiet ∧
    (forEach l (removeEntry f) s).phantom.overload = s.phantom.overload ∧
    (forEach l (removeEntry f) s).phantom.mainGood = s.phantom.mainGood ∧
    (forEach l (removeEntry f) s).phantom.auxGood = s.phantom.auxGood ∧ (forEach l (removeEntry f) s).batch = s.batch
    ∧ (forEach l (removeEntry f) s).report.slots = s.report.slots ∧ (forEach l (removeEntry f) s).ahead = s.ahead ∧
    (forEach l (removeEntry f) s).seed = s.seed ∧ (forEach l (removeEntry f) s).pending = s.pending := by
  have h := forEach_keeps (fun t : State => (t.phase, t.own, t.config, t.link.stations, t.link.clash, t.link.errors,
      t.timing, t.feeds, t.gain, t.steps, t.paths, t.head, t.phantom.bank, t.phantom.lineQuiet, t.phantom.overload,
      t.phantom.mainGood, t.phantom.auxGood, t.batch, t.report.slots, t.ahead, t.seed, t.pending)) (l := l) (f :=
      (removeEntry f)) (fun _ _ => by simp) s
  simpa using h

/-- Changes only link.pair, batch, report.keys. -/
@[simp] theorem noticeBatch_keeps (f : Feed) (st : Station) (s : State) :
    (noticeBatch f st s).phase = s.phase ∧ (noticeBatch f st s).own = s.own ∧ (noticeBatch f st s).config = s.config ∧
    (noticeBatch f st s).link.stations = s.link.stations ∧ (noticeBatch f st s).link.clash = s.link.clash ∧
    (noticeBatch f st s).link.errors = s.link.errors ∧ (noticeBatch f st s).timing = s.timing ∧
    (noticeBatch f st s).feeds = s.feeds ∧ (noticeBatch f st s).demand = s.demand ∧ (noticeBatch f st s).gain = s.gain
    ∧ (noticeBatch f st s).steps = s.steps ∧ (noticeBatch f st s).paths = s.paths ∧ (noticeBatch f st s).head = s.head
    ∧ (noticeBatch f st s).phantom = s.phantom ∧ (noticeBatch f st s).report.slots = s.report.slots ∧
    (noticeBatch f st s).report.events = s.report.events ∧ (noticeBatch f st s).ahead = s.ahead ∧
    (noticeBatch f st s).seed = s.seed ∧ (noticeBatch f st s).pending = s.pending := by
  unfold noticeBatch
  (repeat' split) <;> simp

/-- Changes only link.pair, demand, phantom.recs, report.keys, report.events. -/
@[simp] theorem removeFeedEntries_keeps (f : Feed) (s : State) :
    (removeFeedEntries f s).phase = s.phase ∧ (removeFeedEntries f s).own = s.own ∧
    (removeFeedEntries f s).config = s.config ∧ (removeFeedEntries f s).link.stations = s.link.stations ∧
    (removeFeedEntries f s).link.clash = s.link.clash ∧ (removeFeedEntries f s).link.errors = s.link.errors ∧
    (removeFeedEntries f s).timing = s.timing ∧ (removeFeedEntries f s).feeds = s.feeds ∧
    (removeFeedEntries f s).gain = s.gain ∧ (removeFeedEntries f s).steps = s.steps ∧
    (removeFeedEntries f s).paths = s.paths ∧ (removeFeedEntries f s).head = s.head ∧
    (removeFeedEntries f s).phantom.bank = s.phantom.bank ∧
    (removeFeedEntries f s).phantom.lineQuiet = s.phantom.lineQuiet ∧
    (removeFeedEntries f s).phantom.overload = s.phantom.overload ∧
    (removeFeedEntries f s).phantom.mainGood = s.phantom.mainGood ∧
    (removeFeedEntries f s).phantom.auxGood = s.phantom.auxGood ∧ (removeFeedEntries f s).batch = s.batch ∧
    (removeFeedEntries f s).report.slots = s.report.slots ∧ (removeFeedEntries f s).ahead = s.ahead ∧
    (removeFeedEntries f s).seed = s.seed ∧ (removeFeedEntries f s).pending = s.pending := by
  unfold removeFeedEntries
  simp

/-- Changes only demand. -/
@[simp] theorem presentView_keeps (s : State) :
    (presentView s).phase = s.phase ∧ (presentView s).own = s.own ∧ (presentView s).config = s.config ∧
    (presentView s).link = s.link ∧ (presentView s).timing = s.timing ∧ (presentView s).feeds = s.feeds ∧
    (presentView s).gain = s.gain ∧ (presentView s).steps = s.steps ∧ (presentView s).paths = s.paths ∧
    (presentView s).head = s.head ∧ (presentView s).phantom = s.phantom ∧ (presentView s).batch = s.batch ∧
    (presentView s).report = s.report ∧ (presentView s).ahead = s.ahead ∧ (presentView s).seed = s.seed ∧
    (presentView s).pending = s.pending :=
  ⟨rfl, rfl, rfl, rfl, rfl, rfl, rfl, rfl, rfl, rfl, rfl, rfl, rfl, rfl, rfl, rfl⟩

/-! ## Locks and the headroom guard -/

/-- Changes only link.pair, demand, gain.recs, report.keys, report.events. -/
@[simp] theorem setLock_keeps (c : Chan) (l : Lock) (s : State) :
    (setLock c l s).phase = s.phase ∧ (setLock c l s).own = s.own ∧ (setLock c l s).config = s.config ∧
    (setLock c l s).link.stations = s.link.stations ∧ (setLock c l s).link.clash = s.link.clash ∧
    (setLock c l s).link.errors = s.link.errors ∧ (setLock c l s).timing = s.timing ∧ (setLock c l s).feeds = s.feeds
    ∧ (setLock c l s).gain.table = s.gain.table ∧ (setLock c l s).gain.full = s.gain.full ∧
    (setLock c l s).gain.announce = s.gain.announce ∧ (setLock c l s).steps = s.steps ∧
    (setLock c l s).paths = s.paths ∧ (setLock c l s).head = s.head ∧ (setLock c l s).phantom = s.phantom ∧
    (setLock c l s).batch = s.batch ∧ (setLock c l s).report.slots = s.report.slots ∧ (setLock c l s).ahead = s.ahead
    ∧ (setLock c l s).seed = s.seed ∧ (setLock c l s).pending = s.pending := by
  unfold setLock
  split <;> simp

/-- Changes only link.pair, demand, gain.recs, report.keys, report.events. -/
@[simp] theorem lockChannel_keeps (f : Feed) (fix : Bool) (c : Chan) (s : State) :
    (lockChannel f fix c s).phase = s.phase ∧ (lockChannel f fix c s).own = s.own ∧
    (lockChannel f fix c s).config = s.config ∧ (lockChannel f fix c s).link.stations = s.link.stations ∧
    (lockChannel f fix c s).link.clash = s.link.clash ∧ (lockChannel f fix c s).link.errors = s.link.errors ∧
    (lockChannel f fix c s).timing = s.timing ∧ (lockChannel f fix c s).feeds = s.feeds ∧
    (lockChannel f fix c s).gain.table = s.gain.table ∧ (lockChannel f fix c s).gain.full = s.gain.full ∧
    (lockChannel f fix c s).gain.announce = s.gain.announce ∧ (lockChannel f fix c s).steps = s.steps ∧
    (lockChannel f fix c s).paths = s.paths ∧ (lockChannel f fix c s).head = s.head ∧
    (lockChannel f fix c s).phantom = s.phantom ∧ (lockChannel f fix c s).batch = s.batch ∧
    (lockChannel f fix c s).report.slots = s.report.slots ∧ (lockChannel f fix c s).ahead = s.ahead ∧
    (lockChannel f fix c s).seed = s.seed ∧ (lockChannel f fix c s).pending = s.pending := by
  unfold lockChannel
  simp

/-- All of its rounds change only link.pair, demand, gain.recs, report.keys, report.events. -/
@[simp] theorem forEach_lockChannel (f : Feed) (fix : Bool) (l : List Chan) (s : State) :
    (forEach l (lockChannel f fix) s).phase = s.phase ∧ (forEach l (lockChannel f fix) s).own = s.own ∧
    (forEach l (lockChannel f fix) s).config = s.config ∧
    (forEach l (lockChannel f fix) s).link.stations = s.link.stations ∧
    (forEach l (lockChannel f fix) s).link.clash = s.link.clash ∧
    (forEach l (lockChannel f fix) s).link.errors = s.link.errors ∧
    (forEach l (lockChannel f fix) s).timing = s.timing ∧ (forEach l (lockChannel f fix) s).feeds = s.feeds ∧
    (forEach l (lockChannel f fix) s).gain.table = s.gain.table ∧
    (forEach l (lockChannel f fix) s).gain.full = s.gain.full ∧
    (forEach l (lockChannel f fix) s).gain.announce = s.gain.announce ∧
    (forEach l (lockChannel f fix) s).steps = s.steps ∧ (forEach l (lockChannel f fix) s).paths = s.paths ∧
    (forEach l (lockChannel f fix) s).head = s.head ∧ (forEach l (lockChannel f fix) s).phantom = s.phantom ∧
    (forEach l (lockChannel f fix) s).batch = s.batch ∧
    (forEach l (lockChannel f fix) s).report.slots = s.report.slots ∧
    (forEach l (lockChannel f fix) s).ahead = s.ahead ∧ (forEach l (lockChannel f fix) s).seed = s.seed ∧
    (forEach l (lockChannel f fix) s).pending = s.pending := by
  have h := forEach_keeps (fun t : State => (t.phase, t.own, t.config, t.link.stations, t.link.clash, t.link.errors,
      t.timing, t.feeds, t.gain.table, t.gain.full, t.gain.announce, t.steps, t.paths, t.head, t.phantom, t.batch,
      t.report.slots, t.ahead, t.seed, t.pending)) (l := l) (f := (lockChannel f fix)) (fun _ _ => by simp) s
  simpa using h

/-- Changes only link.pair, demand, gain.recs, report.keys, report.events. -/
@[simp] theorem unlockChannel_keeps (c : Chan) (s : State) :
    (unlockChannel c s).phase = s.phase ∧ (unlockChannel c s).own = s.own ∧ (unlockChannel c s).config = s.config ∧
    (unlockChannel c s).link.stations = s.link.stations ∧ (unlockChannel c s).link.clash = s.link.clash ∧
    (unlockChannel c s).link.errors = s.link.errors ∧ (unlockChannel c s).timing = s.timing ∧
    (unlockChannel c s).feeds = s.feeds ∧ (unlockChannel c s).gain.table = s.gain.table ∧
    (unlockChannel c s).gain.full = s.gain.full ∧ (unlockChannel c s).gain.announce = s.gain.announce ∧
    (unlockChannel c s).steps = s.steps ∧ (unlockChannel c s).paths = s.paths ∧ (unlockChannel c s).head = s.head ∧
    (unlockChannel c s).phantom = s.phantom ∧ (unlockChannel c s).batch = s.batch ∧
    (unlockChannel c s).report.slots = s.report.slots ∧ (unlockChannel c s).ahead = s.ahead ∧
    (unlockChannel c s).seed = s.seed ∧ (unlockChannel c s).pending = s.pending := by
  unfold unlockChannel
  simp

/-- All of its rounds change only link.pair, demand, gain.recs, report.keys, report.events. -/
@[simp] theorem forEach_unlockChannel (l : List Chan) (s : State) :
    (forEach l unlockChannel s).phase = s.phase ∧ (forEach l unlockChannel s).own = s.own ∧
    (forEach l unlockChannel s).config = s.config ∧ (forEach l unlockChannel s).link.stations = s.link.stations ∧
    (forEach l unlockChannel s).link.clash = s.link.clash ∧ (forEach l unlockChannel s).link.errors = s.link.errors ∧
    (forEach l unlockChannel s).timing = s.timing ∧ (forEach l unlockChannel s).feeds = s.feeds ∧
    (forEach l unlockChannel s).gain.table = s.gain.table ∧ (forEach l unlockChannel s).gain.full = s.gain.full ∧
    (forEach l unlockChannel s).gain.announce = s.gain.announce ∧ (forEach l unlockChannel s).steps = s.steps ∧
    (forEach l unlockChannel s).paths = s.paths ∧ (forEach l unlockChannel s).head = s.head ∧
    (forEach l unlockChannel s).phantom = s.phantom ∧ (forEach l unlockChannel s).batch = s.batch ∧
    (forEach l unlockChannel s).report.slots = s.report.slots ∧ (forEach l unlockChannel s).ahead = s.ahead ∧
    (forEach l unlockChannel s).seed = s.seed ∧ (forEach l unlockChannel s).pending = s.pending := by
  have h := forEach_keeps (fun t : State => (t.phase, t.own, t.config, t.link.stations, t.link.clash, t.link.errors,
      t.timing, t.feeds, t.gain.table, t.gain.full, t.gain.announce, t.steps, t.paths, t.head, t.phantom, t.batch,
      t.report.slots, t.ahead, t.seed, t.pending)) (l := l) (f := unlockChannel) (fun _ _ => by simp) s
  simpa using h

/-- Changes only link.pair, demand, gain.recs, report.keys, report.events. -/
@[simp] theorem openHeld_keeps (p : Feed → Bool) (c : Chan) (s : State) :
    (openHeld p c s).phase = s.phase ∧ (openHeld p c s).own = s.own ∧ (openHeld p c s).config = s.config ∧
    (openHeld p c s).link.stations = s.link.stations ∧ (openHeld p c s).link.clash = s.link.clash ∧
    (openHeld p c s).link.errors = s.link.errors ∧ (openHeld p c s).timing = s.timing ∧
    (openHeld p c s).feeds = s.feeds ∧ (openHeld p c s).gain.table = s.gain.table ∧
    (openHeld p c s).gain.full = s.gain.full ∧ (openHeld p c s).gain.announce = s.gain.announce ∧
    (openHeld p c s).steps = s.steps ∧ (openHeld p c s).paths = s.paths ∧ (openHeld p c s).head = s.head ∧
    (openHeld p c s).phantom = s.phantom ∧ (openHeld p c s).batch = s.batch ∧
    (openHeld p c s).report.slots = s.report.slots ∧ (openHeld p c s).ahead = s.ahead ∧ (openHeld p c s).seed = s.seed
    ∧ (openHeld p c s).pending = s.pending := by
  unfold openHeld
  (repeat' split) <;> simp

/-- All of its rounds change only link.pair, demand, gain.recs, report.keys, report.events. -/
@[simp] theorem forEach_openHeld (p : Feed → Bool) (l : List Chan) (s : State) :
    (forEach l (openHeld p) s).phase = s.phase ∧ (forEach l (openHeld p) s).own = s.own ∧
    (forEach l (openHeld p) s).config = s.config ∧ (forEach l (openHeld p) s).link.stations = s.link.stations ∧
    (forEach l (openHeld p) s).link.clash = s.link.clash ∧ (forEach l (openHeld p) s).link.errors = s.link.errors ∧
    (forEach l (openHeld p) s).timing = s.timing ∧ (forEach l (openHeld p) s).feeds = s.feeds ∧
    (forEach l (openHeld p) s).gain.table = s.gain.table ∧ (forEach l (openHeld p) s).gain.full = s.gain.full ∧
    (forEach l (openHeld p) s).gain.announce = s.gain.announce ∧ (forEach l (openHeld p) s).steps = s.steps ∧
    (forEach l (openHeld p) s).paths = s.paths ∧ (forEach l (openHeld p) s).head = s.head ∧
    (forEach l (openHeld p) s).phantom = s.phantom ∧ (forEach l (openHeld p) s).batch = s.batch ∧
    (forEach l (openHeld p) s).report.slots = s.report.slots ∧ (forEach l (openHeld p) s).ahead = s.ahead ∧
    (forEach l (openHeld p) s).seed = s.seed ∧ (forEach l (openHeld p) s).pending = s.pending := by
  have h := forEach_keeps (fun t : State => (t.phase, t.own, t.config, t.link.stations, t.link.clash, t.link.errors,
      t.timing, t.feeds, t.gain.table, t.gain.full, t.gain.announce, t.steps, t.paths, t.head, t.phantom, t.batch,
      t.report.slots, t.ahead, t.seed, t.pending)) (l := l) (f := (openHeld p)) (fun _ _ => by simp) s
  simpa using h

/-- Changes only head.recs. -/
@[simp] theorem putHead_keeps (c : Chan) (r : HeadRec) (s : State) :
    (putHead c r s).phase = s.phase ∧ (putHead c r s).own = s.own ∧ (putHead c r s).config = s.config ∧
    (putHead c r s).link = s.link ∧ (putHead c r s).timing = s.timing ∧ (putHead c r s).feeds = s.feeds ∧
    (putHead c r s).demand = s.demand ∧ (putHead c r s).gain = s.gain ∧ (putHead c r s).steps = s.steps ∧
    (putHead c r s).paths = s.paths ∧ (putHead c r s).head.windowAge = s.head.windowAge ∧
    (putHead c r s).phantom = s.phantom ∧ (putHead c r s).batch = s.batch ∧ (putHead c r s).report = s.report ∧
    (putHead c r s).ahead = s.ahead ∧ (putHead c r s).seed = s.seed ∧ (putHead c r s).pending = s.pending :=
  ⟨rfl, rfl, rfl, rfl, rfl, rfl, rfl, rfl, rfl, rfl, rfl, rfl, rfl, rfl, rfl, rfl, rfl⟩

/-- Changes only demand, head.recs. -/
@[simp] theorem clearBackoff_keeps (c : Chan) (s : State) :
    (clearBackoff c s).phase = s.phase ∧ (clearBackoff c s).own = s.own ∧ (clearBackoff c s).config = s.config ∧
    (clearBackoff c s).link = s.link ∧ (clearBackoff c s).timing = s.timing ∧ (clearBackoff c s).feeds = s.feeds ∧
    (clearBackoff c s).gain = s.gain ∧ (clearBackoff c s).steps = s.steps ∧ (clearBackoff c s).paths = s.paths ∧
    (clearBackoff c s).head.windowAge = s.head.windowAge ∧ (clearBackoff c s).phantom = s.phantom ∧
    (clearBackoff c s).batch = s.batch ∧ (clearBackoff c s).report = s.report ∧ (clearBackoff c s).ahead = s.ahead ∧
    (clearBackoff c s).seed = s.seed ∧ (clearBackoff c s).pending = s.pending :=
  ⟨rfl, rfl, rfl, rfl, rfl, rfl, rfl, rfl, rfl, rfl, rfl, rfl, rfl, rfl, rfl, rfl⟩

/-- All of its rounds change only demand, head.recs. -/
@[simp] theorem forEach_clearBackoff (l : List Chan) (s : State) :
    (forEach l clearBackoff s).phase = s.phase ∧ (forEach l clearBackoff s).own = s.own ∧
    (forEach l clearBackoff s).config = s.config ∧ (forEach l clearBackoff s).link = s.link ∧
    (forEach l clearBackoff s).timing = s.timing ∧ (forEach l clearBackoff s).feeds = s.feeds ∧
    (forEach l clearBackoff s).gain = s.gain ∧ (forEach l clearBackoff s).steps = s.steps ∧
    (forEach l clearBackoff s).paths = s.paths ∧ (forEach l clearBackoff s).head.windowAge = s.head.windowAge ∧
    (forEach l clearBackoff s).phantom = s.phantom ∧ (forEach l clearBackoff s).batch = s.batch ∧
    (forEach l clearBackoff s).report = s.report ∧ (forEach l clearBackoff s).ahead = s.ahead ∧
    (forEach l clearBackoff s).seed = s.seed ∧ (forEach l clearBackoff s).pending = s.pending := by
  have h := forEach_keeps (fun t : State => (t.phase, t.own, t.config, t.link, t.timing, t.feeds, t.gain, t.steps,
      t.paths, t.head.windowAge, t.phantom, t.batch, t.report, t.ahead, t.seed, t.pending)) (l := l) (f :=
      clearBackoff) (fun _ _ => by simp) s
  simpa using h

/-- Changes only demand, head.recs. -/
@[simp] theorem resetHead_keeps (c : Chan) (s : State) :
    (resetHead c s).phase = s.phase ∧ (resetHead c s).own = s.own ∧ (resetHead c s).config = s.config ∧
    (resetHead c s).link = s.link ∧ (resetHead c s).timing = s.timing ∧ (resetHead c s).feeds = s.feeds ∧
    (resetHead c s).gain = s.gain ∧ (resetHead c s).steps = s.steps ∧ (resetHead c s).paths = s.paths ∧
    (resetHead c s).head.windowAge = s.head.windowAge ∧ (resetHead c s).phantom = s.phantom ∧
    (resetHead c s).batch = s.batch ∧ (resetHead c s).report = s.report ∧ (resetHead c s).ahead = s.ahead ∧
    (resetHead c s).seed = s.seed ∧ (resetHead c s).pending = s.pending := by
  unfold resetHead
  dsimp only
  (repeat' split) <;> simp

/-- All of its rounds change only demand, head.recs. -/
@[simp] theorem forEach_resetHead (l : List Chan) (s : State) :
    (forEach l resetHead s).phase = s.phase ∧ (forEach l resetHead s).own = s.own ∧
    (forEach l resetHead s).config = s.config ∧ (forEach l resetHead s).link = s.link ∧
    (forEach l resetHead s).timing = s.timing ∧ (forEach l resetHead s).feeds = s.feeds ∧
    (forEach l resetHead s).gain = s.gain ∧ (forEach l resetHead s).steps = s.steps ∧
    (forEach l resetHead s).paths = s.paths ∧ (forEach l resetHead s).head.windowAge = s.head.windowAge ∧
    (forEach l resetHead s).phantom = s.phantom ∧ (forEach l resetHead s).batch = s.batch ∧
    (forEach l resetHead s).report = s.report ∧ (forEach l resetHead s).ahead = s.ahead ∧
    (forEach l resetHead s).seed = s.seed ∧ (forEach l resetHead s).pending = s.pending := by
  have h := forEach_keeps (fun t : State => (t.phase, t.own, t.config, t.link, t.timing, t.feeds, t.gain, t.steps,
      t.paths, t.head.windowAge, t.phantom, t.batch, t.report, t.ahead, t.seed, t.pending)) (l := l) (f := resetHead)
      (fun _ _ => by simp) s
  simpa using h

/-- Changes only head.recs. -/
@[simp] theorem countClips_keeps (frame : Tab Sample 32) (s : State) :
    (countClips frame s).phase = s.phase ∧ (countClips frame s).own = s.own ∧ (countClips frame s).config = s.config ∧
    (countClips frame s).link = s.link ∧ (countClips frame s).timing = s.timing ∧ (countClips frame s).feeds = s.feeds
    ∧ (countClips frame s).demand = s.demand ∧ (countClips frame s).gain = s.gain ∧
    (countClips frame s).steps = s.steps ∧ (countClips frame s).paths = s.paths ∧
    (countClips frame s).head.windowAge = s.head.windowAge ∧ (countClips frame s).phantom = s.phantom ∧
    (countClips frame s).batch = s.batch ∧ (countClips frame s).report = s.report ∧
    (countClips frame s).ahead = s.ahead ∧ (countClips frame s).seed = s.seed ∧
    (countClips frame s).pending = s.pending :=
  ⟨rfl, rfl, rfl, rfl, rfl, rfl, rfl, rfl, rfl, rfl, rfl, rfl, rfl, rfl, rfl, rfl, rfl⟩

/-- Changes only link.pair, demand, head.recs, report.keys, report.events. -/
@[simp] theorem raiseBackoff_keeps (c : Chan) (s : State) :
    (raiseBackoff c s).phase = s.phase ∧ (raiseBackoff c s).own = s.own ∧ (raiseBackoff c s).config = s.config ∧
    (raiseBackoff c s).link.stations = s.link.stations ∧ (raiseBackoff c s).link.clash = s.link.clash ∧
    (raiseBackoff c s).link.errors = s.link.errors ∧ (raiseBackoff c s).timing = s.timing ∧
    (raiseBackoff c s).feeds = s.feeds ∧ (raiseBackoff c s).gain = s.gain ∧ (raiseBackoff c s).steps = s.steps ∧
    (raiseBackoff c s).paths = s.paths ∧ (raiseBackoff c s).head.windowAge = s.head.windowAge ∧
    (raiseBackoff c s).phantom = s.phantom ∧ (raiseBackoff c s).batch = s.batch ∧
    (raiseBackoff c s).report.slots = s.report.slots ∧ (raiseBackoff c s).ahead = s.ahead ∧
    (raiseBackoff c s).seed = s.seed ∧ (raiseBackoff c s).pending = s.pending := by
  unfold raiseBackoff
  dsimp only
  (repeat' split) <;> simp

/-- Changes only link.pair, demand, head.recs, report.keys, report.events. -/
@[simp] theorem episode_keeps (c : Chan) (s : State) :
    (episode c s).phase = s.phase ∧ (episode c s).own = s.own ∧ (episode c s).config = s.config ∧
    (episode c s).link.stations = s.link.stations ∧ (episode c s).link.clash = s.link.clash ∧
    (episode c s).link.errors = s.link.errors ∧ (episode c s).timing = s.timing ∧ (episode c s).feeds = s.feeds ∧
    (episode c s).gain = s.gain ∧ (episode c s).steps = s.steps ∧ (episode c s).paths = s.paths ∧
    (episode c s).head.windowAge = s.head.windowAge ∧ (episode c s).phantom = s.phantom ∧
    (episode c s).batch = s.batch ∧ (episode c s).report.slots = s.report.slots ∧ (episode c s).ahead = s.ahead ∧
    (episode c s).seed = s.seed ∧ (episode c s).pending = s.pending := by
  unfold episode
  split <;> simp

/-- Changes only link.pair, demand, head.recs, report.keys, report.events. -/
@[simp] theorem judgeWindow_keeps (c : Chan) (s : State) :
    (judgeWindow c s).phase = s.phase ∧ (judgeWindow c s).own = s.own ∧ (judgeWindow c s).config = s.config ∧
    (judgeWindow c s).link.stations = s.link.stations ∧ (judgeWindow c s).link.clash = s.link.clash ∧
    (judgeWindow c s).link.errors = s.link.errors ∧ (judgeWindow c s).timing = s.timing ∧
    (judgeWindow c s).feeds = s.feeds ∧ (judgeWindow c s).gain = s.gain ∧ (judgeWindow c s).steps = s.steps ∧
    (judgeWindow c s).paths = s.paths ∧ (judgeWindow c s).head.windowAge = s.head.windowAge ∧
    (judgeWindow c s).phantom = s.phantom ∧ (judgeWindow c s).batch = s.batch ∧
    (judgeWindow c s).report.slots = s.report.slots ∧ (judgeWindow c s).ahead = s.ahead ∧
    (judgeWindow c s).seed = s.seed ∧ (judgeWindow c s).pending = s.pending := by
  unfold judgeWindow
  split <;> simp

/-- All of its rounds change only link.pair, demand, head.recs, report.keys, report.events. -/
@[simp] theorem forEach_judgeWindow (l : List Chan) (s : State) :
    (forEach l judgeWindow s).phase = s.phase ∧ (forEach l judgeWindow s).own = s.own ∧
    (forEach l judgeWindow s).config = s.config ∧ (forEach l judgeWindow s).link.stations = s.link.stations ∧
    (forEach l judgeWindow s).link.clash = s.link.clash ∧ (forEach l judgeWindow s).link.errors = s.link.errors ∧
    (forEach l judgeWindow s).timing = s.timing ∧ (forEach l judgeWindow s).feeds = s.feeds ∧
    (forEach l judgeWindow s).gain = s.gain ∧ (forEach l judgeWindow s).steps = s.steps ∧
    (forEach l judgeWindow s).paths = s.paths ∧ (forEach l judgeWindow s).head.windowAge = s.head.windowAge ∧
    (forEach l judgeWindow s).phantom = s.phantom ∧ (forEach l judgeWindow s).batch = s.batch ∧
    (forEach l judgeWindow s).report.slots = s.report.slots ∧ (forEach l judgeWindow s).ahead = s.ahead ∧
    (forEach l judgeWindow s).seed = s.seed ∧ (forEach l judgeWindow s).pending = s.pending := by
  have h := forEach_keeps (fun t : State => (t.phase, t.own, t.config, t.link.stations, t.link.clash, t.link.errors,
      t.timing, t.feeds, t.gain, t.steps, t.paths, t.head.windowAge, t.phantom, t.batch, t.report.slots, t.ahead,
      t.seed, t.pending)) (l := l) (f := judgeWindow) (fun _ _ => by simp) s
  simpa using h

/-- Changes only link.pair, demand, head, report.keys, report.events. -/
@[simp] theorem closeWindow_keeps (s : State) :
    (closeWindow s).phase = s.phase ∧ (closeWindow s).own = s.own ∧ (closeWindow s).config = s.config ∧
    (closeWindow s).link.stations = s.link.stations ∧ (closeWindow s).link.clash = s.link.clash ∧
    (closeWindow s).link.errors = s.link.errors ∧ (closeWindow s).timing = s.timing ∧ (closeWindow s).feeds = s.feeds
    ∧ (closeWindow s).gain = s.gain ∧ (closeWindow s).steps = s.steps ∧ (closeWindow s).paths = s.paths ∧
    (closeWindow s).phantom = s.phantom ∧ (closeWindow s).batch = s.batch ∧
    (closeWindow s).report.slots = s.report.slots ∧ (closeWindow s).ahead = s.ahead ∧ (closeWindow s).seed = s.seed ∧
    (closeWindow s).pending = s.pending := by
  unfold closeWindow
  simp

/-- Changes only link.pair, demand, head, report.keys, report.events. -/
@[simp] theorem windowAtBlock_keeps (s : State) :
    (windowAtBlock s).phase = s.phase ∧ (windowAtBlock s).own = s.own ∧ (windowAtBlock s).config = s.config ∧
    (windowAtBlock s).link.stations = s.link.stations ∧ (windowAtBlock s).link.clash = s.link.clash ∧
    (windowAtBlock s).link.errors = s.link.errors ∧ (windowAtBlock s).timing = s.timing ∧
    (windowAtBlock s).feeds = s.feeds ∧ (windowAtBlock s).gain = s.gain ∧ (windowAtBlock s).steps = s.steps ∧
    (windowAtBlock s).paths = s.paths ∧ (windowAtBlock s).phantom = s.phantom ∧ (windowAtBlock s).batch = s.batch ∧
    (windowAtBlock s).report.slots = s.report.slots ∧ (windowAtBlock s).ahead = s.ahead ∧
    (windowAtBlock s).seed = s.seed ∧ (windowAtBlock s).pending = s.pending := by
  unfold windowAtBlock
  (repeat' split) <;> simp

/-! ## The feed sample path -/

/-- Changes only paths. -/
@[simp] theorem modPath_keeps (f : Feed) (g : FeedPath → FeedPath) (s : State) :
    (modPath f g s).phase = s.phase ∧ (modPath f g s).own = s.own ∧ (modPath f g s).config = s.config ∧
    (modPath f g s).link = s.link ∧ (modPath f g s).timing = s.timing ∧ (modPath f g s).feeds = s.feeds ∧
    (modPath f g s).demand = s.demand ∧ (modPath f g s).gain = s.gain ∧ (modPath f g s).steps = s.steps ∧
    (modPath f g s).head = s.head ∧ (modPath f g s).phantom = s.phantom ∧ (modPath f g s).batch = s.batch ∧
    (modPath f g s).report = s.report ∧ (modPath f g s).ahead = s.ahead ∧ (modPath f g s).seed = s.seed ∧
    (modPath f g s).pending = s.pending :=
  ⟨rfl, rfl, rfl, rfl, rfl, rfl, rfl, rfl, rfl, rfl, rfl, rfl, rfl, rfl, rfl, rfl⟩

/-- Changes only paths. -/
@[simp] theorem buildRows_keeps (frame : Tab Sample 32) (s : State) :
    (buildRows frame s).phase = s.phase ∧ (buildRows frame s).own = s.own ∧ (buildRows frame s).config = s.config ∧
    (buildRows frame s).link = s.link ∧ (buildRows frame s).timing = s.timing ∧ (buildRows frame s).feeds = s.feeds ∧
    (buildRows frame s).demand = s.demand ∧ (buildRows frame s).gain = s.gain ∧ (buildRows frame s).steps = s.steps ∧
    (buildRows frame s).head = s.head ∧ (buildRows frame s).phantom = s.phantom ∧ (buildRows frame s).batch = s.batch
    ∧ (buildRows frame s).report = s.report ∧ (buildRows frame s).ahead = s.ahead ∧ (buildRows frame s).seed = s.seed
    ∧ (buildRows frame s).pending = s.pending :=
  ⟨rfl, rfl, rfl, rfl, rfl, rfl, rfl, rfl, rfl, rfl, rfl, rfl, rfl, rfl, rfl, rfl⟩

/-- Changes only timing, report.keys. -/
@[simp] theorem toSample_keeps (s : State) :
    (toSample s).phase = s.phase ∧ (toSample s).own = s.own ∧ (toSample s).config = s.config ∧
    (toSample s).link = s.link ∧ (toSample s).feeds = s.feeds ∧ (toSample s).demand = s.demand ∧
    (toSample s).gain = s.gain ∧ (toSample s).steps = s.steps ∧ (toSample s).paths = s.paths ∧
    (toSample s).head = s.head ∧ (toSample s).phantom = s.phantom ∧ (toSample s).batch = s.batch ∧
    (toSample s).report.slots = s.report.slots ∧ (toSample s).report.events = s.report.events ∧
    (toSample s).ahead = s.ahead ∧ (toSample s).seed = s.seed ∧ (toSample s).pending = s.pending := by
  unfold toSample
  simp

/-- Changes only timing, gain.recs, steps, paths, head.recs, report.keys. -/
@[simp] theorem sampleWork_keeps (frame : Tab Sample 32) (s : State) :
    (sampleWork frame s).phase = s.phase ∧ (sampleWork frame s).own = s.own ∧ (sampleWork frame s).config = s.config ∧
    (sampleWork frame s).link = s.link ∧ (sampleWork frame s).feeds = s.feeds ∧ (sampleWork frame s).demand = s.demand
    ∧ (sampleWork frame s).gain.table = s.gain.table ∧ (sampleWork frame s).gain.full = s.gain.full ∧
    (sampleWork frame s).gain.announce = s.gain.announce ∧ (sampleWork frame s).head.windowAge = s.head.windowAge ∧
    (sampleWork frame s).phantom = s.phantom ∧ (sampleWork frame s).batch = s.batch ∧
    (sampleWork frame s).report.slots = s.report.slots ∧ (sampleWork frame s).report.events = s.report.events ∧
    (sampleWork frame s).ahead = s.ahead ∧ (sampleWork frame s).seed = s.seed ∧
    (sampleWork frame s).pending = s.pending := by
  unfold sampleWork
  simp

/-- With no note of a QUIET_COUNT_EXPIRY, a header carries the clock state that stands (R29). -/
theorem clockAtEnd_of_no_note {s : State} (h : ∀ c, Ahead.quiet c ∉ s.ahead) : s.clockAtEnd = s.timing.clock := by
  have hn : s.ahead.findSome? Ahead.endedClock = none := List.findSome?_eq_none_iff.mpr fun a ha => by
    cases a with
    | quiet c => exact absurd ha (h c)
    | _ => rfl
  rw [State.clockAtEnd, hn, Option.getD_none]

/-- Changes only paths. -/
@[simp] theorem offerBlocks_keeps (s : State) :
    (offerBlocks s).phase = s.phase ∧ (offerBlocks s).own = s.own ∧ (offerBlocks s).config = s.config ∧
    (offerBlocks s).link = s.link ∧ (offerBlocks s).timing = s.timing ∧ (offerBlocks s).feeds = s.feeds ∧
    (offerBlocks s).demand = s.demand ∧ (offerBlocks s).gain = s.gain ∧ (offerBlocks s).steps = s.steps ∧
    (offerBlocks s).head = s.head ∧ (offerBlocks s).phantom = s.phantom ∧ (offerBlocks s).batch = s.batch ∧
    (offerBlocks s).report = s.report ∧ (offerBlocks s).ahead = s.ahead ∧ (offerBlocks s).seed = s.seed ∧
    (offerBlocks s).pending = s.pending :=
  ⟨rfl, rfl, rfl, rfl, rfl, rfl, rfl, rfl, rfl, rfl, rfl, rfl, rfl, rfl, rfl, rfl⟩

/-! ## The phantom controller -/

/-- Changes only phantom.recs. -/
@[simp] theorem putPhantom_keeps (c : Chan) (r : PhantomRec) (s : State) :
    (putPhantom c r s).phase = s.phase ∧ (putPhantom c r s).own = s.own ∧ (putPhantom c r s).config = s.config ∧
    (putPhantom c r s).link = s.link ∧ (putPhantom c r s).timing = s.timing ∧ (putPhantom c r s).feeds = s.feeds ∧
    (putPhantom c r s).demand = s.demand ∧ (putPhantom c r s).gain = s.gain ∧ (putPhantom c r s).steps = s.steps ∧
    (putPhantom c r s).paths = s.paths ∧ (putPhantom c r s).head = s.head ∧
    (putPhantom c r s).phantom.bank = s.phantom.bank ∧ (putPhantom c r s).phantom.lineQuiet = s.phantom.lineQuiet ∧
    (putPhantom c r s).phantom.overload = s.phantom.overload ∧
    (putPhantom c r s).phantom.mainGood = s.phantom.mainGood ∧ (putPhantom c r s).phantom.auxGood = s.phantom.auxGood
    ∧ (putPhantom c r s).batch = s.batch ∧ (putPhantom c r s).report = s.report ∧ (putPhantom c r s).ahead = s.ahead ∧
    (putPhantom c r s).seed = s.seed ∧ (putPhantom c r s).pending = s.pending := by
  unfold putPhantom
  split <;> simp

/-- Changes only link.pair, phantom.recs, report.keys, report.events. -/
@[simp] theorem countPhantom_keeps (c : Chan) (e : Event) (g : PhantomRec → PhantomRec) (s : State) :
    (countPhantom c e g s).phase = s.phase ∧ (countPhantom c e g s).own = s.own ∧
    (countPhantom c e g s).config = s.config ∧ (countPhantom c e g s).link.stations = s.link.stations ∧
    (countPhantom c e g s).link.clash = s.link.clash ∧ (countPhantom c e g s).link.errors = s.link.errors ∧
    (countPhantom c e g s).timing = s.timing ∧ (countPhantom c e g s).feeds = s.feeds ∧
    (countPhantom c e g s).demand = s.demand ∧ (countPhantom c e g s).gain = s.gain ∧
    (countPhantom c e g s).steps = s.steps ∧ (countPhantom c e g s).paths = s.paths ∧
    (countPhantom c e g s).head = s.head ∧ (countPhantom c e g s).phantom.bank = s.phantom.bank ∧
    (countPhantom c e g s).phantom.lineQuiet = s.phantom.lineQuiet ∧
    (countPhantom c e g s).phantom.overload = s.phantom.overload ∧
    (countPhantom c e g s).phantom.mainGood = s.phantom.mainGood ∧
    (countPhantom c e g s).phantom.auxGood = s.phantom.auxGood ∧ (countPhantom c e g s).batch = s.batch ∧
    (countPhantom c e g s).report.slots = s.report.slots ∧ (countPhantom c e g s).ahead = s.ahead ∧
    (countPhantom c e g s).seed = s.seed ∧ (countPhantom c e g s).pending = s.pending := by
  unfold countPhantom
  simp

/-- Changes only phantom.recs. -/
@[simp] theorem readMonitors_keeps (m : Tab Nat 32) (s : State) :
    (readMonitors m s).phase = s.phase ∧ (readMonitors m s).own = s.own ∧ (readMonitors m s).config = s.config ∧
    (readMonitors m s).link = s.link ∧ (readMonitors m s).timing = s.timing ∧ (readMonitors m s).feeds = s.feeds ∧
    (readMonitors m s).demand = s.demand ∧ (readMonitors m s).gain = s.gain ∧ (readMonitors m s).steps = s.steps ∧
    (readMonitors m s).paths = s.paths ∧ (readMonitors m s).head = s.head ∧
    (readMonitors m s).phantom.bank = s.phantom.bank ∧ (readMonitors m s).phantom.lineQuiet = s.phantom.lineQuiet ∧
    (readMonitors m s).phantom.overload = s.phantom.overload ∧
    (readMonitors m s).phantom.mainGood = s.phantom.mainGood ∧ (readMonitors m s).phantom.auxGood = s.phantom.auxGood
    ∧ (readMonitors m s).batch = s.batch ∧ (readMonitors m s).report = s.report ∧ (readMonitors m s).ahead = s.ahead ∧
    (readMonitors m s).seed = s.seed ∧ (readMonitors m s).pending = s.pending :=
  ⟨rfl, rfl, rfl, rfl, rfl, rfl, rfl, rfl, rfl, rfl, rfl, rfl, rfl, rfl, rfl, rfl, rfl, rfl, rfl, rfl, rfl⟩

/-- Changes only link.pair, phantom.recs, report.keys, report.events. -/
@[simp] theorem endSettle_keeps (c : Chan) (s : State) :
    (endSettle c s).phase = s.phase ∧ (endSettle c s).own = s.own ∧ (endSettle c s).config = s.config ∧
    (endSettle c s).link.stations = s.link.stations ∧ (endSettle c s).link.clash = s.link.clash ∧
    (endSettle c s).link.errors = s.link.errors ∧ (endSettle c s).timing = s.timing ∧ (endSettle c s).feeds = s.feeds
    ∧ (endSettle c s).demand = s.demand ∧ (endSettle c s).gain = s.gain ∧ (endSettle c s).steps = s.steps ∧
    (endSettle c s).paths = s.paths ∧ (endSettle c s).head = s.head ∧ (endSettle c s).phantom.bank = s.phantom.bank ∧
    (endSettle c s).phantom.lineQuiet = s.phantom.lineQuiet ∧ (endSettle c s).phantom.overload = s.phantom.overload ∧
    (endSettle c s).phantom.mainGood = s.phantom.mainGood ∧ (endSettle c s).phantom.auxGood = s.phantom.auxGood ∧
    (endSettle c s).batch = s.batch ∧ (endSettle c s).report.slots = s.report.slots ∧ (endSettle c s).ahead = s.ahead
    ∧ (endSettle c s).seed = s.seed ∧ (endSettle c s).pending = s.pending := by
  unfold endSettle
  dsimp only
  (repeat' split) <;> simp

/-- Changes only link.pair, phantom.recs, report.keys, report.events. -/
@[simp] theorem advanceSettle_keeps (c : Chan) (s : State) :
    (advanceSettle c s).phase = s.phase ∧ (advanceSettle c s).own = s.own ∧ (advanceSettle c s).config = s.config ∧
    (advanceSettle c s).link.stations = s.link.stations ∧ (advanceSettle c s).link.clash = s.link.clash ∧
    (advanceSettle c s).link.errors = s.link.errors ∧ (advanceSettle c s).timing = s.timing ∧
    (advanceSettle c s).feeds = s.feeds ∧ (advanceSettle c s).demand = s.demand ∧ (advanceSettle c s).gain = s.gain ∧
    (advanceSettle c s).steps = s.steps ∧ (advanceSettle c s).paths = s.paths ∧ (advanceSettle c s).head = s.head ∧
    (advanceSettle c s).phantom.bank = s.phantom.bank ∧ (advanceSettle c s).phantom.lineQuiet = s.phantom.lineQuiet ∧
    (advanceSettle c s).phantom.overload = s.phantom.overload ∧
    (advanceSettle c s).phantom.mainGood = s.phantom.mainGood ∧
    (advanceSettle c s).phantom.auxGood = s.phantom.auxGood ∧ (advanceSettle c s).batch = s.batch ∧
    (advanceSettle c s).report.slots = s.report.slots ∧ (advanceSettle c s).ahead = s.ahead ∧
    (advanceSettle c s).seed = s.seed ∧ (advanceSettle c s).pending = s.pending := by
  unfold advanceSettle
  dsimp only
  (repeat' split) <;> simp

/-- All of its rounds change only link.pair, phantom.recs, report.keys, report.events. -/
@[simp] theorem forEach_advanceSettle (l : List Chan) (s : State) :
    (forEach l advanceSettle s).phase = s.phase ∧ (forEach l advanceSettle s).own = s.own ∧
    (forEach l advanceSettle s).config = s.config ∧ (forEach l advanceSettle s).link.stations = s.link.stations ∧
    (forEach l advanceSettle s).link.clash = s.link.clash ∧ (forEach l advanceSettle s).link.errors = s.link.errors ∧
    (forEach l advanceSettle s).timing = s.timing ∧ (forEach l advanceSettle s).feeds = s.feeds ∧
    (forEach l advanceSettle s).demand = s.demand ∧ (forEach l advanceSettle s).gain = s.gain ∧
    (forEach l advanceSettle s).steps = s.steps ∧ (forEach l advanceSettle s).paths = s.paths ∧
    (forEach l advanceSettle s).head = s.head ∧ (forEach l advanceSettle s).phantom.bank = s.phantom.bank ∧
    (forEach l advanceSettle s).phantom.lineQuiet = s.phantom.lineQuiet ∧
    (forEach l advanceSettle s).phantom.overload = s.phantom.overload ∧
    (forEach l advanceSettle s).phantom.mainGood = s.phantom.mainGood ∧
    (forEach l advanceSettle s).phantom.auxGood = s.phantom.auxGood ∧ (forEach l advanceSettle s).batch = s.batch ∧
    (forEach l advanceSettle s).report.slots = s.report.slots ∧ (forEach l advanceSettle s).ahead = s.ahead ∧
    (forEach l advanceSettle s).seed = s.seed ∧ (forEach l advanceSettle s).pending = s.pending := by
  have h := forEach_keeps (fun t : State => (t.phase, t.own, t.config, t.link.stations, t.link.clash, t.link.errors,
      t.timing, t.feeds, t.demand, t.gain, t.steps, t.paths, t.head, t.phantom.bank, t.phantom.lineQuiet,
      t.phantom.overload, t.phantom.mainGood, t.phantom.auxGood, t.batch, t.report.slots, t.ahead, t.seed, t.pending))
      (l := l) (f := advanceSettle) (fun _ _ => by simp) s
  simpa using h

/-- Changes only link.pair, phantom.recs, report.keys, report.events. -/
@[simp] theorem trip_keeps (c : Chan) (s : State) :
    (trip c s).phase = s.phase ∧ (trip c s).own = s.own ∧ (trip c s).config = s.config ∧
    (trip c s).link.stations = s.link.stations ∧ (trip c s).link.clash = s.link.clash ∧
    (trip c s).link.errors = s.link.errors ∧ (trip c s).timing = s.timing ∧ (trip c s).feeds = s.feeds ∧
    (trip c s).demand = s.demand ∧ (trip c s).gain = s.gain ∧ (trip c s).steps = s.steps ∧ (trip c s).paths = s.paths
    ∧ (trip c s).head = s.head ∧ (trip c s).phantom.bank = s.phantom.bank ∧
    (trip c s).phantom.lineQuiet = s.phantom.lineQuiet ∧ (trip c s).phantom.overload = s.phantom.overload ∧
    (trip c s).phantom.mainGood = s.phantom.mainGood ∧ (trip c s).phantom.auxGood = s.phantom.auxGood ∧
    (trip c s).batch = s.batch ∧ (trip c s).report.slots = s.report.slots ∧ (trip c s).ahead = s.ahead ∧
    (trip c s).seed = s.seed ∧ (trip c s).pending = s.pending := by
  unfold trip
  simp

/-- Changes only link.pair, phantom.recs, report.keys, report.events. -/
@[simp] theorem judgeShort_keeps (c : Chan) (s : State) :
    (judgeShort c s).phase = s.phase ∧ (judgeShort c s).own = s.own ∧ (judgeShort c s).config = s.config ∧
    (judgeShort c s).link.stations = s.link.stations ∧ (judgeShort c s).link.clash = s.link.clash ∧
    (judgeShort c s).link.errors = s.link.errors ∧ (judgeShort c s).timing = s.timing ∧
    (judgeShort c s).feeds = s.feeds ∧ (judgeShort c s).demand = s.demand ∧ (judgeShort c s).gain = s.gain ∧
    (judgeShort c s).steps = s.steps ∧ (judgeShort c s).paths = s.paths ∧ (judgeShort c s).head = s.head ∧
    (judgeShort c s).phantom.bank = s.phantom.bank ∧ (judgeShort c s).phantom.lineQuiet = s.phantom.lineQuiet ∧
    (judgeShort c s).phantom.overload = s.phantom.overload ∧ (judgeShort c s).phantom.mainGood = s.phantom.mainGood ∧
    (judgeShort c s).phantom.auxGood = s.phantom.auxGood ∧ (judgeShort c s).batch = s.batch ∧
    (judgeShort c s).report.slots = s.report.slots ∧ (judgeShort c s).ahead = s.ahead ∧ (judgeShort c s).seed = s.seed
    ∧ (judgeShort c s).pending = s.pending := by
  unfold judgeShort
  dsimp only
  (repeat' split) <;> simp

/-- All of its rounds change only link.pair, phantom.recs, report.keys, report.events. -/
@[simp] theorem forEach_judgeShort (l : List Chan) (s : State) :
    (forEach l judgeShort s).phase = s.phase ∧ (forEach l judgeShort s).own = s.own ∧
    (forEach l judgeShort s).config = s.config ∧ (forEach l judgeShort s).link.stations = s.link.stations ∧
    (forEach l judgeShort s).link.clash = s.link.clash ∧ (forEach l judgeShort s).link.errors = s.link.errors ∧
    (forEach l judgeShort s).timing = s.timing ∧ (forEach l judgeShort s).feeds = s.feeds ∧
    (forEach l judgeShort s).demand = s.demand ∧ (forEach l judgeShort s).gain = s.gain ∧
    (forEach l judgeShort s).steps = s.steps ∧ (forEach l judgeShort s).paths = s.paths ∧
    (forEach l judgeShort s).head = s.head ∧ (forEach l judgeShort s).phantom.bank = s.phantom.bank ∧
    (forEach l judgeShort s).phantom.lineQuiet = s.phantom.lineQuiet ∧
    (forEach l judgeShort s).phantom.overload = s.phantom.overload ∧
    (forEach l judgeShort s).phantom.mainGood = s.phantom.mainGood ∧
    (forEach l judgeShort s).phantom.auxGood = s.phantom.auxGood ∧ (forEach l judgeShort s).batch = s.batch ∧
    (forEach l judgeShort s).report.slots = s.report.slots ∧ (forEach l judgeShort s).ahead = s.ahead ∧
    (forEach l judgeShort s).seed = s.seed ∧ (forEach l judgeShort s).pending = s.pending := by
  have h := forEach_keeps (fun t : State => (t.phase, t.own, t.config, t.link.stations, t.link.clash, t.link.errors,
      t.timing, t.feeds, t.demand, t.gain, t.steps, t.paths, t.head, t.phantom.bank, t.phantom.lineQuiet,
      t.phantom.overload, t.phantom.mainGood, t.phantom.auxGood, t.batch, t.report.slots, t.ahead, t.seed, t.pending))
      (l := l) (f := judgeShort) (fun _ _ => by simp) s
  simpa using h

/-- Changes only link.pair, phantom.recs, report.keys, report.events. -/
@[simp] theorem shed_keeps (cause : OffCause) (c : Chan) (s : State) :
    (shed cause c s).phase = s.phase ∧ (shed cause c s).own = s.own ∧ (shed cause c s).config = s.config ∧
    (shed cause c s).link.stations = s.link.stations ∧ (shed cause c s).link.clash = s.link.clash ∧
    (shed cause c s).link.errors = s.link.errors ∧ (shed cause c s).timing = s.timing ∧
    (shed cause c s).feeds = s.feeds ∧ (shed cause c s).demand = s.demand ∧ (shed cause c s).gain = s.gain ∧
    (shed cause c s).steps = s.steps ∧ (shed cause c s).paths = s.paths ∧ (shed cause c s).head = s.head ∧
    (shed cause c s).phantom.bank = s.phantom.bank ∧ (shed cause c s).phantom.lineQuiet = s.phantom.lineQuiet ∧
    (shed cause c s).phantom.overload = s.phantom.overload ∧ (shed cause c s).phantom.mainGood = s.phantom.mainGood ∧
    (shed cause c s).phantom.auxGood = s.phantom.auxGood ∧ (shed cause c s).batch = s.batch ∧
    (shed cause c s).report.slots = s.report.slots ∧ (shed cause c s).ahead = s.ahead ∧ (shed cause c s).seed = s.seed
    ∧ (shed cause c s).pending = s.pending := by
  unfold shed
  simp

/-- Changes only link.pair, phantom.recs, report.keys, report.events. -/
@[simp] theorem shedToFit_keeps (n : Nat) (s : State) :
    (shedToFit n s).phase = s.phase ∧ (shedToFit n s).own = s.own ∧ (shedToFit n s).config = s.config ∧
    (shedToFit n s).link.stations = s.link.stations ∧ (shedToFit n s).link.clash = s.link.clash ∧
    (shedToFit n s).link.errors = s.link.errors ∧ (shedToFit n s).timing = s.timing ∧ (shedToFit n s).feeds = s.feeds
    ∧ (shedToFit n s).demand = s.demand ∧ (shedToFit n s).gain = s.gain ∧ (shedToFit n s).steps = s.steps ∧
    (shedToFit n s).paths = s.paths ∧ (shedToFit n s).head = s.head ∧ (shedToFit n s).phantom.bank = s.phantom.bank ∧
    (shedToFit n s).phantom.lineQuiet = s.phantom.lineQuiet ∧ (shedToFit n s).phantom.overload = s.phantom.overload ∧
    (shedToFit n s).phantom.mainGood = s.phantom.mainGood ∧ (shedToFit n s).phantom.auxGood = s.phantom.auxGood ∧
    (shedToFit n s).batch = s.batch ∧ (shedToFit n s).report.slots = s.report.slots ∧ (shedToFit n s).ahead = s.ahead
    ∧ (shedToFit n s).seed = s.seed ∧ (shedToFit n s).pending = s.pending := by
  induction n generalizing s with
  | zero => simp [shedToFit]
  | succ n ih =>
    unfold shedToFit
    (repeat' split) <;> simp [ih]

/-- Changes only link.pair, phantom.recs, phantom.bank, report.keys, report.events. -/
@[simp] theorem changeBank_keeps (s : State) :
    (changeBank s).phase = s.phase ∧ (changeBank s).own = s.own ∧ (changeBank s).config = s.config ∧
    (changeBank s).link.stations = s.link.stations ∧ (changeBank s).link.clash = s.link.clash ∧
    (changeBank s).link.errors = s.link.errors ∧ (changeBank s).timing = s.timing ∧ (changeBank s).feeds = s.feeds ∧
    (changeBank s).demand = s.demand ∧ (changeBank s).gain = s.gain ∧ (changeBank s).steps = s.steps ∧
    (changeBank s).paths = s.paths ∧ (changeBank s).head = s.head ∧
    (changeBank s).phantom.lineQuiet = s.phantom.lineQuiet ∧ (changeBank s).phantom.overload = s.phantom.overload ∧
    (changeBank s).phantom.mainGood = s.phantom.mainGood ∧ (changeBank s).phantom.auxGood = s.phantom.auxGood ∧
    (changeBank s).batch = s.batch ∧ (changeBank s).report.slots = s.report.slots ∧ (changeBank s).ahead = s.ahead ∧
    (changeBank s).seed = s.seed ∧ (changeBank s).pending = s.pending := by
  unfold changeBank
  simp

/-- Changes only link.pair, phantom.recs, phantom.bank, phantom.lineQuiet, report.keys, report.events. -/
@[simp] theorem advanceLines_keeps (s : State) :
    (advanceLines s).phase = s.phase ∧ (advanceLines s).own = s.own ∧ (advanceLines s).config = s.config ∧
    (advanceLines s).link.stations = s.link.stations ∧ (advanceLines s).link.clash = s.link.clash ∧
    (advanceLines s).link.errors = s.link.errors ∧ (advanceLines s).timing = s.timing ∧
    (advanceLines s).feeds = s.feeds ∧ (advanceLines s).demand = s.demand ∧ (advanceLines s).gain = s.gain ∧
    (advanceLines s).steps = s.steps ∧ (advanceLines s).paths = s.paths ∧ (advanceLines s).head = s.head ∧
    (advanceLines s).phantom.overload = s.phantom.overload ∧ (advanceLines s).phantom.mainGood = s.phantom.mainGood ∧
    (advanceLines s).phantom.auxGood = s.phantom.auxGood ∧ (advanceLines s).batch = s.batch ∧
    (advanceLines s).report.slots = s.report.slots ∧ (advanceLines s).ahead = s.ahead ∧ (advanceLines s).seed = s.seed
    ∧ (advanceLines s).pending = s.pending := by
  unfold advanceLines
  dsimp only
  (repeat' split) <;> simp

/-- Changes only link.pair, phantom.recs, phantom.overload, report.keys, report.events. -/
@[simp] theorem shedForLoad_keeps (s : State) :
    (shedForLoad s).phase = s.phase ∧ (shedForLoad s).own = s.own ∧ (shedForLoad s).config = s.config ∧
    (shedForLoad s).link.stations = s.link.stations ∧ (shedForLoad s).link.clash = s.link.clash ∧
    (shedForLoad s).link.errors = s.link.errors ∧ (shedForLoad s).timing = s.timing ∧ (shedForLoad s).feeds = s.feeds
    ∧ (shedForLoad s).demand = s.demand ∧ (shedForLoad s).gain = s.gain ∧ (shedForLoad s).steps = s.steps ∧
    (shedForLoad s).paths = s.paths ∧ (shedForLoad s).head = s.head ∧ (shedForLoad s).phantom.bank = s.phantom.bank ∧
    (shedForLoad s).phantom.lineQuiet = s.phantom.lineQuiet ∧ (shedForLoad s).phantom.mainGood = s.phantom.mainGood ∧
    (shedForLoad s).phantom.auxGood = s.phantom.auxGood ∧ (shedForLoad s).batch = s.batch ∧
    (shedForLoad s).report.slots = s.report.slots ∧ (shedForLoad s).ahead = s.ahead ∧ (shedForLoad s).seed = s.seed ∧
    (shedForLoad s).pending = s.pending := by
  unfold shedForLoad
  dsimp only
  (repeat' split) <;> simp

/-- Changes only link.pair, phantom.recs, phantom.overload, report.keys, report.events. -/
@[simp] theorem judgeOverload_keeps (s : State) :
    (judgeOverload s).phase = s.phase ∧ (judgeOverload s).own = s.own ∧ (judgeOverload s).config = s.config ∧
    (judgeOverload s).link.stations = s.link.stations ∧ (judgeOverload s).link.clash = s.link.clash ∧
    (judgeOverload s).link.errors = s.link.errors ∧ (judgeOverload s).timing = s.timing ∧
    (judgeOverload s).feeds = s.feeds ∧ (judgeOverload s).demand = s.demand ∧ (judgeOverload s).gain = s.gain ∧
    (judgeOverload s).steps = s.steps ∧ (judgeOverload s).paths = s.paths ∧ (judgeOverload s).head = s.head ∧
    (judgeOverload s).phantom.bank = s.phantom.bank ∧ (judgeOverload s).phantom.lineQuiet = s.phantom.lineQuiet ∧
    (judgeOverload s).phantom.mainGood = s.phantom.mainGood ∧ (judgeOverload s).phantom.auxGood = s.phantom.auxGood ∧
    (judgeOverload s).batch = s.batch ∧ (judgeOverload s).report.slots = s.report.slots ∧
    (judgeOverload s).ahead = s.ahead ∧ (judgeOverload s).seed = s.seed ∧ (judgeOverload s).pending = s.pending := by
  unfold judgeOverload
  (repeat' split) <;> simp

/-- Changes only link.pair, phantom.recs, report.keys, report.events. -/
@[simp] theorem powerUp_keeps (c : Chan) (s : State) :
    (powerUp c s).phase = s.phase ∧ (powerUp c s).own = s.own ∧ (powerUp c s).config = s.config ∧
    (powerUp c s).link.stations = s.link.stations ∧ (powerUp c s).link.clash = s.link.clash ∧
    (powerUp c s).link.errors = s.link.errors ∧ (powerUp c s).timing = s.timing ∧ (powerUp c s).feeds = s.feeds ∧
    (powerUp c s).demand = s.demand ∧ (powerUp c s).gain = s.gain ∧ (powerUp c s).steps = s.steps ∧
    (powerUp c s).paths = s.paths ∧ (powerUp c s).head = s.head ∧ (powerUp c s).phantom.bank = s.phantom.bank ∧
    (powerUp c s).phantom.lineQuiet = s.phantom.lineQuiet ∧ (powerUp c s).phantom.overload = s.phantom.overload ∧
    (powerUp c s).phantom.mainGood = s.phantom.mainGood ∧ (powerUp c s).phantom.auxGood = s.phantom.auxGood ∧
    (powerUp c s).batch = s.batch ∧ (powerUp c s).report.slots = s.report.slots ∧ (powerUp c s).ahead = s.ahead ∧
    (powerUp c s).seed = s.seed ∧ (powerUp c s).pending = s.pending := by
  unfold powerUp
  simp

/-- Changes only link.pair, phantom.recs, report.keys, report.events. -/
@[simp] theorem passOver_keeps (c : Chan) (s : State) :
    (passOver c s).phase = s.phase ∧ (passOver c s).own = s.own ∧ (passOver c s).config = s.config ∧
    (passOver c s).link.stations = s.link.stations ∧ (passOver c s).link.clash = s.link.clash ∧
    (passOver c s).link.errors = s.link.errors ∧ (passOver c s).timing = s.timing ∧ (passOver c s).feeds = s.feeds ∧
    (passOver c s).demand = s.demand ∧ (passOver c s).gain = s.gain ∧ (passOver c s).steps = s.steps ∧
    (passOver c s).paths = s.paths ∧ (passOver c s).head = s.head ∧ (passOver c s).phantom.bank = s.phantom.bank ∧
    (passOver c s).phantom.lineQuiet = s.phantom.lineQuiet ∧ (passOver c s).phantom.overload = s.phantom.overload ∧
    (passOver c s).phantom.mainGood = s.phantom.mainGood ∧ (passOver c s).phantom.auxGood = s.phantom.auxGood ∧
    (passOver c s).batch = s.batch ∧ (passOver c s).report.slots = s.report.slots ∧ (passOver c s).ahead = s.ahead ∧
    (passOver c s).seed = s.seed ∧ (passOver c s).pending = s.pending := by
  unfold passOver
  split <;> simp

/-- Changes only link.pair, phantom.recs, report.keys, report.events. -/
@[simp] theorem considerChannel_keeps (c : Chan) (s : State) :
    (considerChannel c s).phase = s.phase ∧ (considerChannel c s).own = s.own ∧
    (considerChannel c s).config = s.config ∧ (considerChannel c s).link.stations = s.link.stations ∧
    (considerChannel c s).link.clash = s.link.clash ∧ (considerChannel c s).link.errors = s.link.errors ∧
    (considerChannel c s).timing = s.timing ∧ (considerChannel c s).feeds = s.feeds ∧
    (considerChannel c s).demand = s.demand ∧ (considerChannel c s).gain = s.gain ∧
    (considerChannel c s).steps = s.steps ∧ (considerChannel c s).paths = s.paths ∧
    (considerChannel c s).head = s.head ∧ (considerChannel c s).phantom.bank = s.phantom.bank ∧
    (considerChannel c s).phantom.lineQuiet = s.phantom.lineQuiet ∧
    (considerChannel c s).phantom.overload = s.phantom.overload ∧
    (considerChannel c s).phantom.mainGood = s.phantom.mainGood ∧
    (considerChannel c s).phantom.auxGood = s.phantom.auxGood ∧ (considerChannel c s).batch = s.batch ∧
    (considerChannel c s).report.slots = s.report.slots ∧ (considerChannel c s).ahead = s.ahead ∧
    (considerChannel c s).seed = s.seed ∧ (considerChannel c s).pending = s.pending := by
  unfold considerChannel
  split <;> simp

/-- All of its rounds change only link.pair, phantom.recs, report.keys, report.events. -/
@[simp] theorem forEach_considerChannel (l : List Chan) (s : State) :
    (forEach l considerChannel s).phase = s.phase ∧ (forEach l considerChannel s).own = s.own ∧
    (forEach l considerChannel s).config = s.config ∧ (forEach l considerChannel s).link.stations = s.link.stations ∧
    (forEach l considerChannel s).link.clash = s.link.clash ∧
    (forEach l considerChannel s).link.errors = s.link.errors ∧ (forEach l considerChannel s).timing = s.timing ∧
    (forEach l considerChannel s).feeds = s.feeds ∧ (forEach l considerChannel s).demand = s.demand ∧
    (forEach l considerChannel s).gain = s.gain ∧ (forEach l considerChannel s).steps = s.steps ∧
    (forEach l considerChannel s).paths = s.paths ∧ (forEach l considerChannel s).head = s.head ∧
    (forEach l considerChannel s).phantom.bank = s.phantom.bank ∧
    (forEach l considerChannel s).phantom.lineQuiet = s.phantom.lineQuiet ∧
    (forEach l considerChannel s).phantom.overload = s.phantom.overload ∧
    (forEach l considerChannel s).phantom.mainGood = s.phantom.mainGood ∧
    (forEach l considerChannel s).phantom.auxGood = s.phantom.auxGood ∧ (forEach l considerChannel s).batch = s.batch
    ∧ (forEach l considerChannel s).report.slots = s.report.slots ∧ (forEach l considerChannel s).ahead = s.ahead ∧
    (forEach l considerChannel s).seed = s.seed ∧ (forEach l considerChannel s).pending = s.pending := by
  have h := forEach_keeps (fun t : State => (t.phase, t.own, t.config, t.link.stations, t.link.clash, t.link.errors,
      t.timing, t.feeds, t.demand, t.gain, t.steps, t.paths, t.head, t.phantom.bank, t.phantom.lineQuiet,
      t.phantom.overload, t.phantom.mainGood, t.phantom.auxGood, t.batch, t.report.slots, t.ahead, t.seed, t.pending))
      (l := l) (f := considerChannel) (fun _ _ => by simp) s
  simpa using h

/-- Changes only link.pair, phantom.recs, report.keys, report.events. -/
@[simp] theorem admissionPass_keeps (s : State) :
    (admissionPass s).phase = s.phase ∧ (admissionPass s).own = s.own ∧ (admissionPass s).config = s.config ∧
    (admissionPass s).link.stations = s.link.stations ∧ (admissionPass s).link.clash = s.link.clash ∧
    (admissionPass s).link.errors = s.link.errors ∧ (admissionPass s).timing = s.timing ∧
    (admissionPass s).feeds = s.feeds ∧ (admissionPass s).demand = s.demand ∧ (admissionPass s).gain = s.gain ∧
    (admissionPass s).steps = s.steps ∧ (admissionPass s).paths = s.paths ∧ (admissionPass s).head = s.head ∧
    (admissionPass s).phantom.bank = s.phantom.bank ∧ (admissionPass s).phantom.lineQuiet = s.phantom.lineQuiet ∧
    (admissionPass s).phantom.overload = s.phantom.overload ∧ (admissionPass s).phantom.mainGood = s.phantom.mainGood
    ∧ (admissionPass s).phantom.auxGood = s.phantom.auxGood ∧ (admissionPass s).batch = s.batch ∧
    (admissionPass s).report.slots = s.report.slots ∧ (admissionPass s).ahead = s.ahead ∧
    (admissionPass s).seed = s.seed ∧ (admissionPass s).pending = s.pending := by
  unfold admissionPass
  simp

/-- Changes only link.pair, phantom.recs, phantom.bank, phantom.lineQuiet, phantom.overload, report.keys,
report.events. -/
@[simp] theorem phantomAtBlock_keeps (m : Tab Nat 32) (s : State) :
    (phantomAtBlock m s).phase = s.phase ∧ (phantomAtBlock m s).own = s.own ∧ (phantomAtBlock m s).config = s.config ∧
    (phantomAtBlock m s).link.stations = s.link.stations ∧ (phantomAtBlock m s).link.clash = s.link.clash ∧
    (phantomAtBlock m s).link.errors = s.link.errors ∧ (phantomAtBlock m s).timing = s.timing ∧
    (phantomAtBlock m s).feeds = s.feeds ∧ (phantomAtBlock m s).demand = s.demand ∧ (phantomAtBlock m s).gain = s.gain
    ∧ (phantomAtBlock m s).steps = s.steps ∧ (phantomAtBlock m s).paths = s.paths ∧ (phantomAtBlock m s).head = s.head
    ∧ (phantomAtBlock m s).phantom.mainGood = s.phantom.mainGood ∧
    (phantomAtBlock m s).phantom.auxGood = s.phantom.auxGood ∧ (phantomAtBlock m s).batch = s.batch ∧
    (phantomAtBlock m s).report.slots = s.report.slots ∧ (phantomAtBlock m s).ahead = s.ahead ∧
    (phantomAtBlock m s).seed = s.seed ∧ (phantomAtBlock m s).pending = s.pending := by
  unfold phantomAtBlock
  simp

/-! ## The batch buffer -/

/-- Changes only link.pair, batch.record, report.keys, report.slots. -/
@[simp] theorem openBatch_keeps (e : Envelope) (f : Feed) (count : Byte) (s : State) :
    (openBatch e f count s).phase = s.phase ∧ (openBatch e f count s).own = s.own ∧
    (openBatch e f count s).config = s.config ∧ (openBatch e f count s).link.stations = s.link.stations ∧
    (openBatch e f count s).link.clash = s.link.clash ∧ (openBatch e f count s).link.errors = s.link.errors ∧
    (openBatch e f count s).timing = s.timing ∧ (openBatch e f count s).feeds = s.feeds ∧
    (openBatch e f count s).demand = s.demand ∧ (openBatch e f count s).gain = s.gain ∧
    (openBatch e f count s).steps = s.steps ∧ (openBatch e f count s).paths = s.paths ∧
    (openBatch e f count s).head = s.head ∧ (openBatch e f count s).phantom = s.phantom ∧
    (openBatch e f count s).batch.flags = s.batch.flags ∧ (openBatch e f count s).report.events = s.report.events ∧
    (openBatch e f count s).ahead = s.ahead ∧ (openBatch e f count s).seed = s.seed ∧
    (openBatch e f count s).pending = s.pending :=
  ⟨rfl, rfl, rfl, rfl, rfl, rfl, rfl, rfl, rfl, rfl, rfl, rfl, rfl, rfl, rfl, rfl, rfl, rfl, rfl⟩

/-- Changes only link.pair, report.keys, report.slots. -/
@[simp] theorem commitDone_keeps (e : Envelope) (b : BatchBody) (s : State) :
    (commitDone e b s).phase = s.phase ∧ (commitDone e b s).own = s.own ∧ (commitDone e b s).config = s.config ∧
    (commitDone e b s).link.stations = s.link.stations ∧ (commitDone e b s).link.clash = s.link.clash ∧
    (commitDone e b s).link.errors = s.link.errors ∧ (commitDone e b s).timing = s.timing ∧
    (commitDone e b s).feeds = s.feeds ∧ (commitDone e b s).demand = s.demand ∧ (commitDone e b s).gain = s.gain ∧
    (commitDone e b s).steps = s.steps ∧ (commitDone e b s).paths = s.paths ∧ (commitDone e b s).head = s.head ∧
    (commitDone e b s).phantom = s.phantom ∧ (commitDone e b s).batch = s.batch ∧
    (commitDone e b s).report.events = s.report.events ∧ (commitDone e b s).ahead = s.ahead ∧
    (commitDone e b s).seed = s.seed ∧ (commitDone e b s).pending = s.pending :=
  ⟨rfl, rfl, rfl, rfl, rfl, rfl, rfl, rfl, rfl, rfl, rfl, rfl, rfl, rfl, rfl, rfl, rfl, rfl, rfl⟩

/-- Changes only link.pair, demand, phantom.recs, report.keys, report.events. -/
@[simp] theorem writeItem_keeps (f : Feed) (blk : Word16) (i : BatchItem) (s : State) :
    (writeItem f blk i s).phase = s.phase ∧ (writeItem f blk i s).own = s.own ∧
    (writeItem f blk i s).config = s.config ∧ (writeItem f blk i s).link.stations = s.link.stations ∧
    (writeItem f blk i s).link.clash = s.link.clash ∧ (writeItem f blk i s).link.errors = s.link.errors ∧
    (writeItem f blk i s).timing = s.timing ∧ (writeItem f blk i s).feeds = s.feeds ∧
    (writeItem f blk i s).gain = s.gain ∧ (writeItem f blk i s).steps = s.steps ∧
    (writeItem f blk i s).paths = s.paths ∧ (writeItem f blk i s).head = s.head ∧
    (writeItem f blk i s).phantom.bank = s.phantom.bank ∧
    (writeItem f blk i s).phantom.lineQuiet = s.phantom.lineQuiet ∧
    (writeItem f blk i s).phantom.overload = s.phantom.overload ∧
    (writeItem f blk i s).phantom.mainGood = s.phantom.mainGood ∧
    (writeItem f blk i s).phantom.auxGood = s.phantom.auxGood ∧ (writeItem f blk i s).batch = s.batch ∧
    (writeItem f blk i s).report.slots = s.report.slots ∧ (writeItem f blk i s).ahead = s.ahead ∧
    (writeItem f blk i s).seed = s.seed ∧ (writeItem f blk i s).pending = s.pending := by
  unfold writeItem
  simp

/-- All of its rounds change only link.pair, demand, phantom.recs, report.keys, report.events. -/
@[simp] theorem forEach_writeItem (f : Feed) (blk : Word16) (l : List BatchItem) (s : State) :
    (forEach l (writeItem f blk) s).phase = s.phase ∧ (forEach l (writeItem f blk) s).own = s.own ∧
    (forEach l (writeItem f blk) s).config = s.config ∧
    (forEach l (writeItem f blk) s).link.stations = s.link.stations ∧
    (forEach l (writeItem f blk) s).link.clash = s.link.clash ∧
    (forEach l (writeItem f blk) s).link.errors = s.link.errors ∧ (forEach l (writeItem f blk) s).timing = s.timing ∧
    (forEach l (writeItem f blk) s).feeds = s.feeds ∧ (forEach l (writeItem f blk) s).gain = s.gain ∧
    (forEach l (writeItem f blk) s).steps = s.steps ∧ (forEach l (writeItem f blk) s).paths = s.paths ∧
    (forEach l (writeItem f blk) s).head = s.head ∧ (forEach l (writeItem f blk) s).phantom.bank = s.phantom.bank ∧
    (forEach l (writeItem f blk) s).phantom.lineQuiet = s.phantom.lineQuiet ∧
    (forEach l (writeItem f blk) s).phantom.overload = s.phantom.overload ∧
    (forEach l (writeItem f blk) s).phantom.mainGood = s.phantom.mainGood ∧
    (forEach l (writeItem f blk) s).phantom.auxGood = s.phantom.auxGood ∧
    (forEach l (writeItem f blk) s).batch = s.batch ∧ (forEach l (writeItem f blk) s).report.slots = s.report.slots ∧
    (forEach l (writeItem f blk) s).ahead = s.ahead ∧ (forEach l (writeItem f blk) s).seed = s.seed ∧
    (forEach l (writeItem f blk) s).pending = s.pending := by
  have h := forEach_keeps (fun t : State => (t.phase, t.own, t.config, t.link.stations, t.link.clash, t.link.errors,
      t.timing, t.feeds, t.gain, t.steps, t.paths, t.head, t.phantom.bank, t.phantom.lineQuiet, t.phantom.overload,
      t.phantom.mainGood, t.phantom.auxGood, t.batch, t.report.slots, t.ahead, t.seed, t.pending)) (l := l) (f :=
      (writeItem f blk)) (fun _ _ => by simp) s
  simpa using h

/-- Changes only link.pair, demand, phantom.recs, batch, report.keys, report.events. -/
@[simp] theorem writeBatch_keeps (b : BatchBody) (blk : Word16) (s : State) :
    (writeBatch b blk s).phase = s.phase ∧ (writeBatch b blk s).own = s.own ∧ (writeBatch b blk s).config = s.config ∧
    (writeBatch b blk s).link.stations = s.link.stations ∧ (writeBatch b blk s).link.clash = s.link.clash ∧
    (writeBatch b blk s).link.errors = s.link.errors ∧ (writeBatch b blk s).timing = s.timing ∧
    (writeBatch b blk s).feeds = s.feeds ∧ (writeBatch b blk s).gain = s.gain ∧ (writeBatch b blk s).steps = s.steps ∧
    (writeBatch b blk s).paths = s.paths ∧ (writeBatch b blk s).head = s.head ∧
    (writeBatch b blk s).phantom.bank = s.phantom.bank ∧ (writeBatch b blk s).phantom.lineQuiet = s.phantom.lineQuiet
    ∧ (writeBatch b blk s).phantom.overload = s.phantom.overload ∧
    (writeBatch b blk s).phantom.mainGood = s.phantom.mainGood ∧
    (writeBatch b blk s).phantom.auxGood = s.phantom.auxGood ∧ (writeBatch b blk s).report.slots = s.report.slots ∧
    (writeBatch b blk s).ahead = s.ahead ∧ (writeBatch b blk s).seed = s.seed ∧
    (writeBatch b blk s).pending = s.pending := by
  unfold writeBatch
  simp

/-- Changes only link.pair, batch, report.keys, report.slots. -/
@[simp] theorem timeOut_keeps (b : BatchBody) (s : State) :
    (timeOut b s).phase = s.phase ∧ (timeOut b s).own = s.own ∧ (timeOut b s).config = s.config ∧
    (timeOut b s).link.stations = s.link.stations ∧ (timeOut b s).link.clash = s.link.clash ∧
    (timeOut b s).link.errors = s.link.errors ∧ (timeOut b s).timing = s.timing ∧ (timeOut b s).feeds = s.feeds ∧
    (timeOut b s).demand = s.demand ∧ (timeOut b s).gain = s.gain ∧ (timeOut b s).steps = s.steps ∧
    (timeOut b s).paths = s.paths ∧ (timeOut b s).head = s.head ∧ (timeOut b s).phantom = s.phantom ∧
    (timeOut b s).report.events = s.report.events ∧ (timeOut b s).ahead = s.ahead ∧ (timeOut b s).seed = s.seed ∧
    (timeOut b s).pending = s.pending :=
  ⟨rfl, rfl, rfl, rfl, rfl, rfl, rfl, rfl, rfl, rfl, rfl, rfl, rfl, rfl, rfl, rfl, rfl, rfl⟩

/-- Changes only link.pair, demand, phantom.recs, batch, report. -/
@[simp] theorem batchAtBlock_keeps (s : State) :
    (batchAtBlock s).phase = s.phase ∧ (batchAtBlock s).own = s.own ∧ (batchAtBlock s).config = s.config ∧
    (batchAtBlock s).link.stations = s.link.stations ∧ (batchAtBlock s).link.clash = s.link.clash ∧
    (batchAtBlock s).link.errors = s.link.errors ∧ (batchAtBlock s).timing = s.timing ∧
    (batchAtBlock s).feeds = s.feeds ∧ (batchAtBlock s).gain = s.gain ∧ (batchAtBlock s).steps = s.steps ∧
    (batchAtBlock s).paths = s.paths ∧ (batchAtBlock s).head = s.head ∧ (batchAtBlock s).phantom.bank = s.phantom.bank
    ∧ (batchAtBlock s).phantom.lineQuiet = s.phantom.lineQuiet ∧
    (batchAtBlock s).phantom.overload = s.phantom.overload ∧ (batchAtBlock s).phantom.mainGood = s.phantom.mainGood ∧
    (batchAtBlock s).phantom.auxGood = s.phantom.auxGood ∧ (batchAtBlock s).ahead = s.ahead ∧
    (batchAtBlock s).seed = s.seed ∧ (batchAtBlock s).pending = s.pending := by
  unfold batchAtBlock
  (repeat' split) <;> simp

/-! ## The binding table, losses and the box reset -/

/-- Changes only feeds, report.keys. -/
@[simp] theorem bindFeed_keeps (f : Feed) (b : Binding) (s : State) :
    (bindFeed f b s).phase = s.phase ∧ (bindFeed f b s).own = s.own ∧ (bindFeed f b s).config = s.config ∧
    (bindFeed f b s).link = s.link ∧ (bindFeed f b s).timing = s.timing ∧ (bindFeed f b s).demand = s.demand ∧
    (bindFeed f b s).gain = s.gain ∧ (bindFeed f b s).steps = s.steps ∧ (bindFeed f b s).paths = s.paths ∧
    (bindFeed f b s).head = s.head ∧ (bindFeed f b s).phantom = s.phantom ∧ (bindFeed f b s).batch = s.batch ∧
    (bindFeed f b s).report.slots = s.report.slots ∧ (bindFeed f b s).report.events = s.report.events ∧
    (bindFeed f b s).ahead = s.ahead ∧ (bindFeed f b s).seed = s.seed ∧ (bindFeed f b s).pending = s.pending := by
  unfold bindFeed
  simp

/-- Changes only link.pair, feeds, demand, gain.recs, paths, phantom.recs, batch, report.keys, report.events. -/
@[simp] theorem releaseFeed_keeps (f : Feed) (s : State) :
    (releaseFeed f s).phase = s.phase ∧ (releaseFeed f s).own = s.own ∧ (releaseFeed f s).config = s.config ∧
    (releaseFeed f s).link.stations = s.link.stations ∧ (releaseFeed f s).link.clash = s.link.clash ∧
    (releaseFeed f s).link.errors = s.link.errors ∧ (releaseFeed f s).timing = s.timing ∧
    (releaseFeed f s).gain.table = s.gain.table ∧ (releaseFeed f s).gain.full = s.gain.full ∧
    (releaseFeed f s).gain.announce = s.gain.announce ∧ (releaseFeed f s).steps = s.steps ∧
    (releaseFeed f s).head = s.head ∧ (releaseFeed f s).phantom.bank = s.phantom.bank ∧
    (releaseFeed f s).phantom.lineQuiet = s.phantom.lineQuiet ∧
    (releaseFeed f s).phantom.overload = s.phantom.overload ∧ (releaseFeed f s).phantom.mainGood = s.phantom.mainGood
    ∧ (releaseFeed f s).phantom.auxGood = s.phantom.auxGood ∧ (releaseFeed f s).report.slots = s.report.slots ∧
    (releaseFeed f s).ahead = s.ahead ∧ (releaseFeed f s).seed = s.seed ∧ (releaseFeed f s).pending = s.pending := by
  unfold releaseFeed
  simp

/-- Changes only link.pair, feeds, batch, report.keys. -/
@[simp] theorem loseDesk_keeps (st : Station) (s : State) :
    (loseDesk st s).phase = s.phase ∧ (loseDesk st s).own = s.own ∧ (loseDesk st s).config = s.config ∧
    (loseDesk st s).link.stations = s.link.stations ∧ (loseDesk st s).link.clash = s.link.clash ∧
    (loseDesk st s).link.errors = s.link.errors ∧ (loseDesk st s).timing = s.timing ∧
    (loseDesk st s).demand = s.demand ∧ (loseDesk st s).gain = s.gain ∧ (loseDesk st s).steps = s.steps ∧
    (loseDesk st s).paths = s.paths ∧ (loseDesk st s).head = s.head ∧ (loseDesk st s).phantom = s.phantom ∧
    (loseDesk st s).report.slots = s.report.slots ∧ (loseDesk st s).report.events = s.report.events ∧
    (loseDesk st s).ahead = s.ahead ∧ (loseDesk st s).seed = s.seed ∧ (loseDesk st s).pending = s.pending := by
  unfold loseDesk
  simp

/-- Changes only link.pair, link.stations, feeds, demand, gain.table, gain.full, batch, report.keys. -/
@[simp] theorem loseStation_keeps (st : Station) (role : Role) (s : State) :
    (loseStation st role s).phase = s.phase ∧ (loseStation st role s).own = s.own ∧
    (loseStation st role s).config = s.config ∧ (loseStation st role s).link.clash = s.link.clash ∧
    (loseStation st role s).link.errors = s.link.errors ∧ (loseStation st role s).timing = s.timing ∧
    (loseStation st role s).gain.recs = s.gain.recs ∧ (loseStation st role s).gain.announce = s.gain.announce ∧
    (loseStation st role s).steps = s.steps ∧ (loseStation st role s).paths = s.paths ∧
    (loseStation st role s).head = s.head ∧ (loseStation st role s).phantom = s.phantom ∧
    (loseStation st role s).report.slots = s.report.slots ∧ (loseStation st role s).report.events = s.report.events ∧
    (loseStation st role s).ahead = s.ahead ∧ (loseStation st role s).seed = s.seed ∧
    (loseStation st role s).pending = s.pending := by
  unfold loseStation
  split <;> simp

/-- Changes only link.pair, link.stations, feeds, demand, gain.table, gain.full, batch, report.keys. -/
@[simp] theorem ageStation_keeps (st : Station) (s : State) :
    (ageStation st s).phase = s.phase ∧ (ageStation st s).own = s.own ∧ (ageStation st s).config = s.config ∧
    (ageStation st s).link.clash = s.link.clash ∧ (ageStation st s).link.errors = s.link.errors ∧
    (ageStation st s).timing = s.timing ∧ (ageStation st s).gain.recs = s.gain.recs ∧
    (ageStation st s).gain.announce = s.gain.announce ∧ (ageStation st s).steps = s.steps ∧
    (ageStation st s).paths = s.paths ∧ (ageStation st s).head = s.head ∧ (ageStation st s).phantom = s.phantom ∧
    (ageStation st s).report.slots = s.report.slots ∧ (ageStation st s).report.events = s.report.events ∧
    (ageStation st s).ahead = s.ahead ∧ (ageStation st s).seed = s.seed ∧ (ageStation st s).pending = s.pending := by
  unfold ageStation
  (repeat' split) <;> simp

/-- All of its rounds change only link.pair, link.stations, feeds, demand, gain.table, gain.full, batch, report.keys.
-/
@[simp] theorem forEach_ageStation (l : List Station) (s : State) :
    (forEach l ageStation s).phase = s.phase ∧ (forEach l ageStation s).own = s.own ∧
    (forEach l ageStation s).config = s.config ∧ (forEach l ageStation s).link.clash = s.link.clash ∧
    (forEach l ageStation s).link.errors = s.link.errors ∧ (forEach l ageStation s).timing = s.timing ∧
    (forEach l ageStation s).gain.recs = s.gain.recs ∧ (forEach l ageStation s).gain.announce = s.gain.announce ∧
    (forEach l ageStation s).steps = s.steps ∧ (forEach l ageStation s).paths = s.paths ∧
    (forEach l ageStation s).head = s.head ∧ (forEach l ageStation s).phantom = s.phantom ∧
    (forEach l ageStation s).report.slots = s.report.slots ∧ (forEach l ageStation s).report.events = s.report.events
    ∧ (forEach l ageStation s).ahead = s.ahead ∧ (forEach l ageStation s).seed = s.seed ∧
    (forEach l ageStation s).pending = s.pending := by
  have h := forEach_keeps (fun t : State => (t.phase, t.own, t.config, t.link.clash, t.link.errors, t.timing,
      t.gain.recs, t.gain.announce, t.steps, t.paths, t.head, t.phantom, t.report.slots, t.report.events, t.ahead,
      t.seed, t.pending)) (l := l) (f := ageStation) (fun _ _ => by simp) s
  simpa using h

/-- Changes only link.pair, link.stations, feeds, demand, gain.table, gain.full, batch, report.keys. -/
@[simp] theorem ageStations_keeps (s : State) :
    (ageStations s).phase = s.phase ∧ (ageStations s).own = s.own ∧ (ageStations s).config = s.config ∧
    (ageStations s).link.clash = s.link.clash ∧ (ageStations s).link.errors = s.link.errors ∧
    (ageStations s).timing = s.timing ∧ (ageStations s).gain.recs = s.gain.recs ∧
    (ageStations s).gain.announce = s.gain.announce ∧ (ageStations s).steps = s.steps ∧
    (ageStations s).paths = s.paths ∧ (ageStations s).head = s.head ∧ (ageStations s).phantom = s.phantom ∧
    (ageStations s).report.slots = s.report.slots ∧ (ageStations s).report.events = s.report.events ∧
    (ageStations s).ahead = s.ahead ∧ (ageStations s).seed = s.seed ∧ (ageStations s).pending = s.pending := by
  unfold ageStations
  simp

/-- Changes only report.keys, report.slots. -/
@[simp] theorem resetReport_keeps (s : State) :
    (resetReport s).phase = s.phase ∧ (resetReport s).own = s.own ∧ (resetReport s).config = s.config ∧
    (resetReport s).link = s.link ∧ (resetReport s).timing = s.timing ∧ (resetReport s).feeds = s.feeds ∧
    (resetReport s).demand = s.demand ∧ (resetReport s).gain = s.gain ∧ (resetReport s).steps = s.steps ∧
    (resetReport s).paths = s.paths ∧ (resetReport s).head = s.head ∧ (resetReport s).phantom = s.phantom ∧
    (resetReport s).batch = s.batch ∧ (resetReport s).report.events = s.report.events ∧
    (resetReport s).ahead = s.ahead ∧ (resetReport s).seed = s.seed ∧ (resetReport s).pending = s.pending :=
  ⟨rfl, rfl, rfl, rfl, rfl, rfl, rfl, rfl, rfl, rfl, rfl, rfl, rfl, rfl, rfl, rfl, rfl⟩

/-- Changes only link.pair, link.stations, feeds, demand, gain.recs, gain.table, gain.full, steps, paths, head.recs,
batch, report. -/
@[simp] theorem resetBlocks_keeps (rb : Readback) (s : State) :
    (resetBlocks rb s).phase = s.phase ∧ (resetBlocks rb s).own = s.own ∧ (resetBlocks rb s).config = s.config ∧
    (resetBlocks rb s).link.clash = s.link.clash ∧ (resetBlocks rb s).link.errors = s.link.errors ∧
    (resetBlocks rb s).timing = s.timing ∧ (resetBlocks rb s).gain.announce = s.gain.announce ∧
    (resetBlocks rb s).head.windowAge = s.head.windowAge ∧ (resetBlocks rb s).phantom = s.phantom ∧
    (resetBlocks rb s).ahead = s.ahead ∧ (resetBlocks rb s).seed = s.seed ∧ (resetBlocks rb s).pending = s.pending := by
  unfold resetBlocks
  simp

/-! ## Sending -/

/-- Changes only batch.flags, report. -/
@[simp] theorem clearSent_keeps (x : Sending) (s : State) :
    (clearSent x s).phase = s.phase ∧ (clearSent x s).own = s.own ∧ (clearSent x s).config = s.config ∧
    (clearSent x s).link = s.link ∧ (clearSent x s).timing = s.timing ∧ (clearSent x s).feeds = s.feeds ∧
    (clearSent x s).demand = s.demand ∧ (clearSent x s).gain = s.gain ∧ (clearSent x s).steps = s.steps ∧
    (clearSent x s).paths = s.paths ∧ (clearSent x s).head = s.head ∧ (clearSent x s).phantom = s.phantom ∧
    (clearSent x s).batch.record = s.batch.record ∧ (clearSent x s).ahead = s.ahead ∧ (clearSent x s).seed = s.seed ∧
    (clearSent x s).pending = s.pending := by
  unfold clearSent
  (repeat' split) <;> simp

/-- Changes only link.pair, link.errors. -/
@[simp] theorem discardReception_keeps (cause : ReceptionFault) (s : State) :
    (discardReception cause s).phase = s.phase ∧ (discardReception cause s).own = s.own ∧
    (discardReception cause s).config = s.config ∧ (discardReception cause s).link.stations = s.link.stations ∧
    (discardReception cause s).link.clash = s.link.clash ∧ (discardReception cause s).timing = s.timing ∧
    (discardReception cause s).feeds = s.feeds ∧ (discardReception cause s).demand = s.demand ∧
    (discardReception cause s).gain = s.gain ∧ (discardReception cause s).steps = s.steps ∧
    (discardReception cause s).paths = s.paths ∧ (discardReception cause s).head = s.head ∧
    (discardReception cause s).phantom = s.phantom ∧ (discardReception cause s).batch = s.batch ∧
    (discardReception cause s).report = s.report ∧ (discardReception cause s).ahead = s.ahead ∧
    (discardReception cause s).seed = s.seed ∧ (discardReception cause s).pending = s.pending :=
  ⟨rfl, rfl, rfl, rfl, rfl, rfl, rfl, rfl, rfl, rfl, rfl, rfl, rfl, rfl, rfl, rfl, rfl, rfl⟩

/-! ## The block start -/

/-- Changes only link.pair, link.stations, feeds, demand, gain.table, gain.full, phantom.recs, batch, report, seed. -/
@[simp] theorem stationsAndBatch_keeps (s : State) :
    (stationsAndBatch s).phase = s.phase ∧ (stationsAndBatch s).own = s.own ∧ (stationsAndBatch s).config = s.config ∧
    (stationsAndBatch s).link.clash = s.link.clash ∧ (stationsAndBatch s).link.errors = s.link.errors ∧
    (stationsAndBatch s).timing = s.timing ∧ (stationsAndBatch s).gain.recs = s.gain.recs ∧
    (stationsAndBatch s).gain.announce = s.gain.announce ∧ (stationsAndBatch s).steps = s.steps ∧
    (stationsAndBatch s).paths = s.paths ∧ (stationsAndBatch s).head = s.head ∧
    (stationsAndBatch s).phantom.bank = s.phantom.bank ∧ (stationsAndBatch s).phantom.lineQuiet = s.phantom.lineQuiet
    ∧ (stationsAndBatch s).phantom.overload = s.phantom.overload ∧
    (stationsAndBatch s).phantom.mainGood = s.phantom.mainGood ∧
    (stationsAndBatch s).phantom.auxGood = s.phantom.auxGood ∧ (stationsAndBatch s).ahead = s.ahead ∧
    (stationsAndBatch s).pending = s.pending := by
  unfold stationsAndBatch
  split <;> simp

/-- Changes only report.keys. -/
@[simp] theorem periodic_keeps (s : State) :
    (periodic s).phase = s.phase ∧ (periodic s).own = s.own ∧ (periodic s).config = s.config ∧
    (periodic s).link = s.link ∧ (periodic s).timing = s.timing ∧ (periodic s).feeds = s.feeds ∧
    (periodic s).demand = s.demand ∧ (periodic s).gain = s.gain ∧ (periodic s).steps = s.steps ∧
    (periodic s).paths = s.paths ∧ (periodic s).head = s.head ∧ (periodic s).phantom = s.phantom ∧
    (periodic s).batch = s.batch ∧ (periodic s).report.slots = s.report.slots ∧
    (periodic s).report.events = s.report.events ∧ (periodic s).ahead = s.ahead ∧ (periodic s).seed = s.seed ∧
    (periodic s).pending = s.pending := by
  unfold periodic
  dsimp only
  (repeat' split) <;> simp

/-- Changes only ahead. -/
@[simp] theorem clearAhead_keeps (s : State) :
    (clearAhead s).phase = s.phase ∧ (clearAhead s).own = s.own ∧ (clearAhead s).config = s.config ∧
    (clearAhead s).link = s.link ∧ (clearAhead s).timing = s.timing ∧ (clearAhead s).feeds = s.feeds ∧
    (clearAhead s).demand = s.demand ∧ (clearAhead s).gain = s.gain ∧ (clearAhead s).steps = s.steps ∧
    (clearAhead s).paths = s.paths ∧ (clearAhead s).head = s.head ∧ (clearAhead s).phantom = s.phantom ∧
    (clearAhead s).batch = s.batch ∧ (clearAhead s).report = s.report ∧ (clearAhead s).seed = s.seed ∧
    (clearAhead s).pending = s.pending :=
  ⟨rfl, rfl, rfl, rfl, rfl, rfl, rfl, rfl, rfl, rfl, rfl, rfl, rfl, rfl, rfl, rfl⟩

/-- Changes only link.pair, link.stations, timing, feeds, demand, gain, steps, phantom.recs, phantom.bank,
phantom.lineQuiet, phantom.overload, batch, report, seed. -/
@[simp] theorem blockTasks_keeps (i : BlockInputs) (s : State) :
    (blockTasks i s).phase = s.phase ∧ (blockTasks i s).own = s.own ∧ (blockTasks i s).config = s.config ∧
    (blockTasks i s).link.clash = s.link.clash ∧ (blockTasks i s).link.errors = s.link.errors ∧
    (blockTasks i s).paths = s.paths ∧ (blockTasks i s).head = s.head ∧
    (blockTasks i s).phantom.mainGood = s.phantom.mainGood ∧ (blockTasks i s).phantom.auxGood = s.phantom.auxGood ∧
    (blockTasks i s).ahead = s.ahead ∧ (blockTasks i s).pending = s.pending := by
  unfold blockTasks
  simp

/-- Changes only link.pair, link.stations, timing, feeds, demand, gain, steps, phantom.recs, phantom.bank,
phantom.lineQuiet, phantom.overload, batch, report, ahead, seed. -/
@[simp] theorem blockWork_keeps (i : BlockInputs) (s : State) :
    (blockWork i s).phase = s.phase ∧ (blockWork i s).own = s.own ∧ (blockWork i s).config = s.config ∧
    (blockWork i s).link.clash = s.link.clash ∧ (blockWork i s).link.errors = s.link.errors ∧
    (blockWork i s).paths = s.paths ∧ (blockWork i s).head = s.head ∧
    (blockWork i s).phantom.mainGood = s.phantom.mainGood ∧ (blockWork i s).phantom.auxGood = s.phantom.auxGood ∧
    (blockWork i s).pending = s.pending := by
  unfold blockWork
  simp

/-- Changes only link.pair, timing, demand, paths, head, report.keys, report.events. -/
@[simp] theorem endBlock_keeps (s : State) :
    (endBlock s).phase = s.phase ∧ (endBlock s).own = s.own ∧ (endBlock s).config = s.config ∧
    (endBlock s).link.stations = s.link.stations ∧ (endBlock s).link.clash = s.link.clash ∧
    (endBlock s).link.errors = s.link.errors ∧ (endBlock s).feeds = s.feeds ∧ (endBlock s).gain = s.gain ∧
    (endBlock s).steps = s.steps ∧ (endBlock s).phantom = s.phantom ∧ (endBlock s).batch = s.batch ∧
    (endBlock s).report.slots = s.report.slots ∧ (endBlock s).ahead = s.ahead ∧ (endBlock s).seed = s.seed ∧
    (endBlock s).pending = s.pending := by
  unfold endBlock
  simp

/-- Changes only timing, report.keys. -/
@[simp] theorem beginBlock_keeps (s : State) :
    (beginBlock s).phase = s.phase ∧ (beginBlock s).own = s.own ∧ (beginBlock s).config = s.config ∧
    (beginBlock s).link = s.link ∧ (beginBlock s).feeds = s.feeds ∧ (beginBlock s).demand = s.demand ∧
    (beginBlock s).gain = s.gain ∧ (beginBlock s).steps = s.steps ∧ (beginBlock s).paths = s.paths ∧
    (beginBlock s).head = s.head ∧ (beginBlock s).phantom = s.phantom ∧ (beginBlock s).batch = s.batch ∧
    (beginBlock s).report.slots = s.report.slots ∧ (beginBlock s).report.events = s.report.events ∧
    (beginBlock s).ahead = s.ahead ∧ (beginBlock s).seed = s.seed ∧ (beginBlock s).pending = s.pending := by
  unfold beginBlock
  dsimp only
  (repeat' split) <;> simp

end Sys2Proof.Laws
end

