-- ==== Sys2Proof/Laws/PerInstr.lean ====
section
/-! SUPPORT. The kinds of command agree with each other, command by command. -/

namespace Sys2Proof.Laws

/-- A request that is put to a check is a desk request with that envelope, a desk request is a heard message from its
source, and no start is a heard message. -/
def Kinds.Statement (i : Instr) : Prop :=
  (∀ e k f a b, i.rangeCheck = some (e, k, f, a, b) → i.holderCheck = some (e, k, f))
    ∧ (∀ e k f, i.holderCheck = some (e, k, f) → i.deskRequest = some e)
    ∧ (∀ e, i.deskRequest = some e → i.sender = some e.source)
    ∧ (i.isStart = true → i.sender = none)

theorem kinds_agree (i : Instr) : Kinds.Statement i := by
  cases i <;>
    simp +contextual [Kinds.Statement, Instr.rangeCheck, Instr.holderCheck, Instr.deskRequest, Instr.sender,
      Instr.isStart]

theorem Kinds.powerOn (i : StartInputs) : Kinds.Statement (.powerOn i) := kinds_agree _
theorem Kinds.resetLine (i : StartInputs) : Kinds.Statement (.resetLine i) := kinds_agree _
theorem Kinds.startUpEnd (mainGood auxGood : Bool) (lines : Tab Bool 6) (i : BlockInputs) :
    Kinds.Statement (.startUpEnd mainGood auxGood lines i) := kinds_agree _
theorem Kinds.presence (e : Envelope) : Kinds.Statement (.presence e) := kinds_agree _
theorem Kinds.invalidMessage (source : Station) (kind : Byte) :
    Kinds.Statement (.invalidMessage source kind) := kinds_agree _
theorem Kinds.receptionDiscarded (cause : ReceptionFault) :
    Kinds.Statement (.receptionDiscarded cause) := kinds_agree _
theorem Kinds.claim (e : Envelope) (feed : Byte) : Kinds.Statement (.claim e feed) := kinds_agree _
theorem Kinds.release (e : Envelope) (feed : Byte) : Kinds.Statement (.release e feed) := kinds_agree _
theorem Kinds.setDemand (e : Envelope) (feed first last flags gain : Byte) :
    Kinds.Statement (.setDemand e feed first last flags gain) := kinds_agree _
theorem Kinds.clearDemand (e : Envelope) (feed first last : Byte) :
    Kinds.Statement (.clearDemand e feed first last) := kinds_agree _
theorem Kinds.lock (e : Envelope) (feed first last mode : Byte) :
    Kinds.Statement (.lock e feed first last mode) := kinds_agree _
theorem Kinds.unlock (e : Envelope) (feed first last : Byte) :
    Kinds.Statement (.unlock e feed first last) := kinds_agree _
theorem Kinds.headroomReset (e : Envelope) (feed first last : Byte) :
    Kinds.Statement (.headroomReset e feed first last) := kinds_agree _
theorem Kinds.tone (e : Envelope) (feed first last state : Byte) :
    Kinds.Statement (.tone e feed first last state) := kinds_agree _
theorem Kinds.batchOpen (e : Envelope) (feed count : Byte) : Kinds.Statement (.batchOpen e feed count) := kinds_agree _
theorem Kinds.batchEntry (e : Envelope) (feed chan flags gain : Byte) :
    Kinds.Statement (.batchEntry e feed chan flags gain) := kinds_agree _
theorem Kinds.batchCommit (e : Envelope) : Kinds.Statement (.batchCommit e) := kinds_agree _
theorem Kinds.batchCancel (e : Envelope) : Kinds.Statement (.batchCancel e) := kinds_agree _
theorem Kinds.boxReset (e : Envelope) (readback : Readback) : Kinds.Statement (.boxReset e readback) := kinds_agree _
theorem Kinds.linkCandidate (e : Envelope) (group flags candidate locked backoff : Byte) :
    Kinds.Statement (.linkCandidate e group flags candidate locked backoff) := kinds_agree _
theorem Kinds.reply (e : Envelope) : Kinds.Statement (.reply e) := kinds_agree _
theorem Kinds.channelState (e : Envelope) : Kinds.Statement (.channelState e) := kinds_agree _
theorem Kinds.boxState (e : Envelope) : Kinds.Statement (.boxState e) := kinds_agree _
theorem Kinds.transmissionAttempt : Kinds.Statement .transmissionAttempt := kinds_agree _
theorem Kinds.lostAttempt (bytesRead : List Byte) : Kinds.Statement (.lostAttempt bytesRead) := kinds_agree _
theorem Kinds.transmissionFault : Kinds.Statement .transmissionFault := kinds_agree _
theorem Kinds.messageSent : Kinds.Statement .messageSent := kinds_agree _
theorem Kinds.blockStart (i : BlockInputs) : Kinds.Statement (.blockStart i) := kinds_agree _
theorem Kinds.batchWrite : Kinds.Statement .batchWrite := kinds_agree _
theorem Kinds.samplePeriod (frame : Tab Sample 32) : Kinds.Statement (.samplePeriod frame) := kinds_agree _
theorem Kinds.compensation (c : Chan) : Kinds.Statement (.compensation c) := kinds_agree _
theorem Kinds.retryWrite (c : Chan) (code : Byte) : Kinds.Statement (.retryWrite c code) := kinds_agree _
theorem Kinds.windowClose : Kinds.Statement .windowClose := kinds_agree _
theorem Kinds.markEvent (tick : Nat) : Kinds.Statement (.markEvent tick) := kinds_agree _
theorem Kinds.enterLocked (tick : Nat) : Kinds.Statement (.enterLocked tick) := kinds_agree _
theorem Kinds.enterHoldover (cause : BadMark) : Kinds.Statement (.enterHoldover cause) := kinds_agree _
theorem Kinds.missingMark : Kinds.Statement .missingMark := kinds_agree _
theorem Kinds.quietCountExpiry : Kinds.Statement .quietCountExpiry := kinds_agree _
theorem Kinds.markLineRelease : Kinds.Statement .markLineRelease := kinds_agree _
theorem Kinds.stationLoss (station : Station) : Kinds.Statement (.stationLoss station) := kinds_agree _
theorem Kinds.linkEntryExpiry (group : Group) (source : Station) :
    Kinds.Statement (.linkEntryExpiry group source) := kinds_agree _
theorem Kinds.batchTimeout : Kinds.Statement .batchTimeout := kinds_agree _
theorem Kinds.settleEnd (c : Chan) : Kinds.Statement (.settleEnd c) := kinds_agree _
theorem Kinds.shortTrip (c : Chan) : Kinds.Statement (.shortTrip c) := kinds_agree _
theorem Kinds.shedLoad : Kinds.Statement .shedLoad := kinds_agree _
theorem Kinds.bankChange : Kinds.Statement .bankChange := kinds_agree _
theorem Kinds.powerGoodChange (mainGood auxGood : Bool) :
    Kinds.Statement (.powerGoodChange mainGood auxGood) := kinds_agree _
theorem Kinds.portLineChange (f : Feed) (up : Bool) : Kinds.Statement (.portLineChange f up) := kinds_agree _
theorem Kinds.feedBlockSent (f : Feed) : Kinds.Statement (.feedBlockSent f) := kinds_agree _
theorem Kinds.pairIdle : Kinds.Statement .pairIdle := kinds_agree _
theorem Kinds.resetLineHeld : Kinds.Statement .resetLineHeld := kinds_agree _

end Sys2Proof.Laws
end

