-- ==== Sys2Proof/Machine/Receive.lean ====
section
/-! DEFINITION. How the link controller reads the bytes of a message into a command (R3, R10, R11, R178, R179). The sender
of commands may use it; `step` does not. -/

namespace Sys2Proof.Machine

/-- The class that a kind must carry; none for an unknown kind (R11, R178). -/
def classOfKind (kind : Nat) : Option Nat :=
  if kind = 1 then some 4
  else if 2 ≤ kind ∧ kind ≤ 14 then some 0
  else if kind = 32 then some 1
  else if kind = 33 then some 2
  else if kind = 34 then some 3
  else if kind = 35 then some 4
  else none

/-- The command of a message of good check and right class, by its kind and its body; none where the body length is not
the one of a kind that the part acts on (R11, R178, R179). BOX RESET brings no readbacks of its own: `rb`. -/
def bodyCommand (e : Envelope) (rb : Readback) (kind : Nat) (body : List Byte) : Option Instr :=
  match kind, body with
  | 1, [] => some (.presence e)
  | 2, [f] => some (.claim e f)
  | 3, [f] => some (.release e f)
  | 4, [f, a, b, fl, g] => some (.setDemand e f a b fl g)
  | 5, [f, a, b] => some (.clearDemand e f a b)
  | 6, [f, a, b, m] => some (.lock e f a b m)
  | 7, [f, a, b] => some (.unlock e f a b)
  | 8, [f, a, b] => some (.headroomReset e f a b)
  | 9, [f, a, b, st] => some (.tone e f a b st)
  | 10, [f, n] => some (.batchOpen e f n)
  | 11, [f, c, fl, g] => some (.batchEntry e f c fl g)
  | 12, [] => some (.batchCommit e)
  | 13, [] => some (.batchCancel e)
  | 14, [] => some (.boxReset e rb)
  | 32, _ => some (.reply e)
  | 33, [g, fl, c, l, b] => some (.linkCandidate e g fl c l b)
  | 34, _ => some (.channelState e)
  | 35, _ => some (.boxState e)
  | _, _ => none

/-- A message of good check: its kind must be known, its class the kind's, its length the kind's (R11, step 3). -/
def heardCommand (rb : Readback) (arb kind target tag : Byte) (body : List Byte) : Instr :=
  let source : Station := (arb.extractLsb' 0 5).toFin
  if classOfKind kind.toNat = some (arb.extractLsb' 5 3).toNat then
    match bodyCommand ⟨source, target, tag⟩ rb kind.toNat body with
    | some i => i
    | none => .invalidMessage source kind
  else .invalidMessage source kind

/-- What the bytes of one message on the pair are to the part (R10, R11): a body length above 64 and a message that ends
early are framing faults, a bad check discards the reception, and the rest is heard. -/
def receive (rb : Readback) (bytes : List Byte) : Instr :=
  match bytes with
  | arb :: kind :: target :: tag :: len :: rest =>
    if 64 < len.toNat then .receptionDiscarded .oversize
    else
      match rest.drop len.toNat with
      | hi :: lo :: _ =>
        if crc16 ([arb, kind, target, tag, len] ++ rest.take len.toNat) = ofBe16 hi lo then
          heardCommand rb arb kind target tag (rest.take len.toNat)
        else .receptionDiscarded .badCheck
      | _ => .receptionDiscarded .earlyIdle
  | _ => .receptionDiscarded .earlyIdle

end Sys2Proof.Machine
end

