-- ==== Sys2Proof/WellFormed.lean ====
section
/-! DEFINITION. Well-formed commands: operands that the part's connections can bring. -/

namespace Sys2Proof

/-- A readback lists a channel at most once. -/
def Readback.wf (r : Readback) : Bool := decide ((r.map Prod.fst).Nodup)

/-- The serial memory gives 54 bytes, or none when it does not answer (R174). -/
def StartInputs.wf (i : StartInputs) : Bool :=
  (i.image.length == 54 || i.image.length == 0) && Readback.wf i.readback

/-- A tick of a block: no block is longer than 24,600 ticks (R17). -/
def tickWf (t : Nat) : Bool := decide (t ≤ 24600)

/-- The checks on a command's operands. -/
def Instr.wf : Instr → Bool
  | .powerOn i => i.wf
  | .resetLine i => i.wf
  | .startUpEnd _ _ _ i => Readback.wf i.readback
  | .boxReset _ r => Readback.wf r
  | .blockStart i => Readback.wf i.readback
  | .lostAttempt bytes => decide (bytes.length ≤ 71)
  | .markEvent t => tickWf t
  | .enterLocked t => tickWf t
  | .enterHoldover (.mark t) => tickWf t
  | .linkEntryExpiry g _ => decide (g ≠ 0)
  | .enterHoldover .missing => true
  | .presence _ | .invalidMessage _ _ | .receptionDiscarded _ | .claim _ _ | .release _ _ | .setDemand _ _ _ _ _ _
  | .clearDemand _ _ _ _ | .lock _ _ _ _ _ | .unlock _ _ _ _ | .headroomReset _ _ _ _ | .tone _ _ _ _ _
  | .batchOpen _ _ _ | .batchEntry _ _ _ _ _ | .batchCommit _ | .batchCancel _ | .linkCandidate _ _ _ _ _ _
  | .reply _ | .channelState _ | .boxState _ | .transmissionAttempt | .transmissionFault | .messageSent | .batchWrite
  | .samplePeriod _ | .compensation _ | .retryWrite _ _ | .windowClose | .missingMark | .quietCountExpiry
  | .markLineRelease | .stationLoss _ | .batchTimeout | .settleEnd _ | .shortTrip _ | .shedLoad | .bankChange
  | .powerGoodChange _ _ | .portLineChange _ _ | .feedBlockSent _ | .pairIdle | .resetLineHeld => true

end Sys2Proof
end

