-- ==== Sys2Proof/Tests/Slice0.lean ====
section
/-! SUPPORT. Tests: ill-formed commands are refused by the check, the tables and formats agree with the manual's figures,
single steps on small states, and for every statement that has hypotheses values that meet them together. -/

set_option maxRecDepth 10000

namespace Sys2Proof.Tests

open Sys2Proof Sys2Proof.Machine

/-! ## Small states -/

/-- No other station drives the mark line, no current flows, every preamp reads back the code written. -/
def quiet : BlockInputs := ⟨false, Tab.const 0, []⟩

/-- The part runs on an idle pair. -/
def ready : State := { State.reset with phase := .running, link.pair := .idle }

/-- Feed A is BOUND to station 3, a desk; station 4 is a desk too. -/
def bound : State :=
  { ready with
    link.stations := (ready.link.stations.set 3 (.present .desk 0)).set 4 (.present .desk 0)
    feeds := ready.feeds.set 0 ⟨.bound 3 5, true⟩ }

/-- Requests to this box (station 0) from stations 3 and 4, and one to station 9. -/
def e3 : Envelope := ⟨3, 0, 7⟩
def e4 : Envelope := ⟨4, 255, 9⟩
def e39 : Envelope := ⟨3, 9, 7⟩

/-- The state that a command leads to. -/
def run (c : Instr) (s : State) : State :=
  match exec c s with
  | .next t => t
  | _ => s

/-- Run some commands in order. -/
def runs (l : List Instr) (s : State) : State := l.foldl (fun t c => run c t) s

def withPhantom (c : Chan) (st : PhantomState) (cause : OffCause) (s : State) : State :=
  { s with phantom.recs := s.phantom.recs.modify c (fun r => { r with state := st, cause := cause }) }

def withLock (c : Chan) (l : Lock) (s : State) : State :=
  { s with gain.recs := s.gain.recs.modify c (fun r => { r with lock := l }) }

def withStep (c : Chan) (f : StepRec → StepRec) (s : State) : State := { s with steps := s.steps.modify c f }

def withEntry (c : Chan) (f : Feed) (e : Entry) (s : State) : State :=
  { s with demand := s.demand.modify c (fun r =>
      { r with entries := r.entries.set f (some e), view := r.view.set f (some e) }) }

def withTiming (f : Timing → Timing) (s : State) : State := { s with timing := f s.timing }

/-! ## Well-formed commands -/

theorem test_wf_refuses_ill_formed :
    (Instr.powerOn ⟨0, List.replicate 53 0, []⟩).wf = false
    ∧ (Instr.resetLine ⟨0, [], [(1, 0), (1, 2)]⟩).wf = false
    ∧ (Instr.startUpEnd true true (Tab.const true) ⟨false, Tab.const 0, [(0, 0), (0, 0)]⟩).wf = false
    ∧ (Instr.boxReset e3 [(2, 1), (2, 1)]).wf = false
    ∧ (Instr.blockStart ⟨false, Tab.const 0, [(3, 1), (4, 1), (3, 2)]⟩).wf = false
    ∧ (Instr.lostAttempt (List.replicate 72 0)).wf = false
    ∧ (Instr.markEvent 24601).wf = false ∧ (Instr.enterLocked 24601).wf = false
    ∧ (Instr.enterHoldover (.mark 24601)).wf = false ∧ (Instr.linkEntryExpiry 0 5).wf = false := by decide +kernel

theorem test_wf_takes_well_formed :
    (Instr.powerOn ⟨0, List.replicate 54 0, [(1, 0)]⟩).wf = true ∧ (Instr.resetLine ⟨0, [], []⟩).wf = true
    ∧ (Instr.startUpEnd true true (Tab.const true) quiet).wf = true ∧ (Instr.boxReset e3 [(2, 1)]).wf = true
    ∧ (Instr.blockStart quiet).wf = true ∧ (Instr.lostAttempt (List.replicate 71 0)).wf = true
    ∧ (Instr.markEvent 24600).wf = true ∧ (Instr.enterLocked 0).wf = true
    ∧ (Instr.enterHoldover .missing).wf = true ∧ (Instr.linkEntryExpiry 15 5).wf = true := by decide +kernel

/-! ## Tables and formats -/

theorem test_check_of_the_manual :
    crc16 [0x31, 0x32, 0x33, 0x34, 0x35, 0x36, 0x37, 0x38, 0x39] = 0x29B1#16 := by decide +kernel

theorem test_table_values :
    coefficients.length = 97 ∧ coefficient (-48) = 66161 ∧ coefficient 0 = 1048576 ∧ coefficient 48 = 16618810
    ∧ toneSamples.length = 48 ∧ toneSample 12 = BitVec.ofInt 24 1056063 ∧ toneSample 24 = 0
    ∧ thresholds.length = 24 ∧ clipThreshold defaultConfig = 7476353 := by decide +kernel

/-- The figures of the trimmed sample: 3,000,000 at +6.0 dB (section 7.8), limits and rounding (R106). -/
theorem test_trimmed_samples :
    trimmed (BitVec.ofInt 24 3000000) 12 = BitVec.ofInt 24 5985786
    ∧ trimmed (BitVec.ofInt 24 3366055) 10 = BitVec.ofInt 24 5985786
    ∧ trimmed (BitVec.ofInt 24 8388607) 48 = BitVec.ofInt 24 8388607
    ∧ trimmed (BitVec.ofInt 24 (-8388608)) 1 = BitVec.ofInt 24 (-8388608)
    ∧ trimmed (BitVec.ofInt 24 (-8388608)) 0 = BitVec.ofInt 24 (-8388608) := by decide +kernel

/-- R66: the candidate of one request, of requests far apart, and of requests below 0 dB. -/
theorem test_candidates :
    candidate [85] = some 84 ∧ candidate [-31] = some 0 ∧ candidate [126] = some 126
    ∧ candidate [0, 48] = some 0 ∧ candidate [0, 49] = some 2 ∧ candidate [20, 85] = some 38
    ∧ candidate [-48, 126] = some 78 := by decide +kernel

/-- Section 12.2: a blank memory is set aside; the byte 3A is group 3, LOW, BACKOFF. -/
theorem test_configuration_images :
    loadConfig [] = defaultConfig ∧ loadConfig (List.replicate 54 255) = defaultConfig
    ∧ chanConfigOf 0x3A = ⟨3, .low, .backoff⟩ := by decide +kernel

/-- How bytes of the pair give a command (R10, R11, R178): a PRESENCE, a SET DEMAND, a bad check, an unknown kind, a body
that is too long. -/
theorem test_receive_reads_messages :
    receive [] ([0x83, 1, 255, 0, 0] ++ be16 (crc16 [0x83, 1, 255, 0, 0])) = .presence ⟨3, 255, 0⟩
    ∧ receive [] ([0x03, 4, 0, 7, 5, 0, 1, 8, 0x81, 40] ++ be16 (crc16 [0x03, 4, 0, 7, 5, 0, 1, 8, 0x81, 40]))
        = .setDemand ⟨3, 0, 7⟩ 0 1 8 0x81 40
    ∧ receive [] [0x83, 1, 255, 0, 0, 0, 0] = .receptionDiscarded .badCheck
    ∧ receive [] ([0x03, 99, 0, 7, 0] ++ be16 (crc16 [0x03, 99, 0, 7, 0])) = .invalidMessage 3 99
    ∧ receive [] [0x03, 4, 0, 7, 65, 0, 0] = .receptionDiscarded .oversize := by decide +kernel

/-! ## Single steps -/

theorem test_step_idles_and_runs_the_front_command :
    step bound = .next bound
    ∧ step { bound with pending := [.presence e4, .pairIdle] }
        = exec (.presence e4) { bound with pending := [.pairIdle] } := ⟨rfl, rfl⟩

/-- A start, its end, and the pair's first idle (R172, R1): BOX is the one key, so the first message is BOX STATE
(R170). -/
theorem test_start_up :
    let t := runs [.powerOn ⟨0, [], []⟩, .startUpEnd true true (Tab.const true) quiet, .pairIdle] State.reset
    t.phase = .running ∧ t.link.pair = .idle ∧ t.phantom.bank = 3 ∧ t.report.keys = [.box]
    ∧ t.alertLine = true ∧ t.lockLine = false := by decide +kernel

/-- A message begins with the first start bit after idle (R1): a second CLAIM is heard after PAIR_IDLE, not before. -/
theorem test_a_message_begins_after_idle :
    ((runs [.presence e4, .claim e3 1] ready).feeds.get 1).binding = .free
    ∧ ((runs [.presence e4, .pairIdle, .claim e3 1] ready).feeds.get 1).binding = .bound 3 0 := by decide +kernel

/-- The header of a block that ends in HOLDOVER shows HOLDOVER, whether BLOCK_START expires the quiet count or
QUIET_COUNT_EXPIRY has (R29). -/
theorem test_header_of_the_block_that_ends :
    let s := withTiming (fun u => { u with clock := .holdover, quietCount := 999 }) bound
    let shown := fun t : State => (t.paths.get 0).port.map (fun b => b.header.clock)
    shown (run (.blockStart quiet) s) = [.holdover] ∧ shown (runs [.quietCountExpiry, .blockStart quiet] s) = [.holdover]
    ∧ (run (.blockStart quiet) s).timing.clock = .free := by decide +kernel

/-- Claim, demand, lock and release, each on its record. -/
theorem test_requests :
    ((run (.claim e3 1) ready).feeds.get 1).binding = .bound 3 0
    ∧ (run (.claim e4 0) bound).report.slots.get 4 = some { plain 2 .feedTaken 9 with value := 3 }
    ∧ (run (.setDemand e3 0 1 8 0x84 40) bound).entry 7 0 = some ⟨40, true, false, false, 0⟩
    ∧ ((run (.lock e3 0 2 2 1) bound).gain.recs.get 1).lock = .fixed 0 0
    ∧ ((run (.release e3 0) bound).feeds.get 0).binding = .free
    ∧ (run (.batchOpen e3 0 2) bound).batch.record = .loading ⟨3, 0, 2, [], 7⟩ 0
    ∧ (run (.batchCommit e3) bound).report.slots.get 3 = some (plain 12 .noBatch 7) := by decide +kernel

/-- A demand is heard at the next block start: a step of 1 dB is issued and compensated at once with K = 0, and a wanted
channel is powered where the budget allows (R72, R87, R142). -/
theorem test_block_start_and_sample :
    let s := runs [.setDemand e3 0 8 8 0x81 40, .blockStart quiet]
      { bound with phantom := { bound.phantom with bank := 3, lineQuiet := 20 } }
    (s.steps.get 7).pending = some ⟨2, 0, true⟩ ∧ (s.phantom.recs.get 7).state = .rising 250
    ∧ ((run (.samplePeriod (Tab.const 0)) s).steps.get 7).applied = 2 := by decide +kernel

/-- The mark of section 2.3 at tick 9,300 of a block in ACQUIRING realigns; a first mark takes FREE to ACQUIRING. -/
theorem test_marks :
    (run (.markEvent 0) ready).timing.clock = .acquiring
    ∧ (run (.markEvent 9300) (withTiming (fun u => { u with clock := .acquiring }) ready)).timing.slip = true
    ∧ (run (.markEvent 9300) (withTiming (fun u => { u with clock := .locked }) ready)).timing.slip = false := by
  decide +kernel

/-! ## Values that meet the hypotheses of the statements -/

/-- Feed A is BOUND and a CLAIM waits in the queue. -/
def queued : State := { bound with pending := [.claim e3 1] }

/-- EveryCommandAnswersNext: a command that is neither start, send nor box reset, with a key, an event bit and a batch flag
standing; they stand after it. -/
theorem witness_EveryCommandAnswersNext :
    let s := { bound with
      report.keys := [Key.box], report.events := bound.report.events.set 0 256, batch := ⟨.idle, 8⟩ };
    let m := Instr.claim e3 1;
    m.isStart = false ∧ m ≠ .messageSent ∧ (∀ e rb, m ≠ .boxReset e rb) ∧ (s.report.events.get 0).getLsbD 8 = true
    ∧ s.batch.flags.getLsbD 3 = true ∧ (run m s).report.keys = [.box, .reply 3]
    ∧ (run m s).report.events.get 0 = 256 ∧ (run m s).batch.flags = 8 :=
  ⟨rfl, (fun h => nomatch h), (fun _ _ h => nomatch h), (by decide +kernel)⟩

/-- StepRunsFrontCommand, NothingElseActsBeforeStartUpEnds. -/
theorem witness_machine :
    bound.pending = [] ∧ Instr.isStart .pairIdle = false ∧ State.reset.running = false
    ∧ exec .pairIdle State.reset = .next State.reset := ⟨rfl, rfl, rfl, rfl⟩

/-- StepKeepsKeyLaw, KeyLawBoundsTheList. -/
theorem witness_KeyLaw : KeyLaw queued ∧ step queued = .next (run (.claim e3 1) bound) :=
  ⟨⟨List.nodup_nil, fun _ h => (nomatch h), fun _ h => (nomatch h), rfl, fun _ h => (nomatch h)⟩, rfl⟩

/-- StepKeepsLoadLaw, StepKeepsLinkLaw, StepKeepsHoldLaw. -/
theorem witness_LoadLaw_LinkLaw_HoldLaw : LoadLaw queued ∧ LinkLaw queued ∧ HoldLaw queued := by
  refine ⟨?_, ⟨Nat.zero_le _, List.nodup_nil, fun _ h => (nomatch h), fun h => (nomatch h)⟩, ?_, fun _ h => (nomatch h),
    fun _ h => (nomatch h), fun _ _ h => (nomatch h)⟩
  · unfold LoadLaw; decide +kernel
  · decide +kernel

/-- StepKeepsTimingLaw, StepKeepsStationLaw. -/
theorem witness_TimingLaw_StationLaw : TimingLaw queued ∧ StationLaw queued := by
  refine ⟨?_, fun st => ⟨?_, ?_⟩⟩
  · refine ⟨by decide +kernel, by decide +kernel, fun _ => ⟨rfl, rfl⟩, ?_⟩
    simp [queued, bound, ready, State.reset, State.start, Timing.start, tickLimit]
  · revert st; decide +kernel
  · intro role age h
    have hs : ∀ st, queued.link.stations.get st = .self ∨ queued.link.stations.get st = .absent
        ∨ queued.link.stations.get st = .present .desk 0 := by decide +kernel
    rcases hs st with h' | h' | h' <;> rw [h'] at h <;> cases h
    decide

/-- StepKeepsPhantomLaw, StepKeepsPathLaw. -/
theorem witness_PhantomLaw_PathLaw : PhantomLaw queued ∧ PathLaw queued := by
  refine ⟨⟨fun c => ?_, by decide +kernel, by decide +kernel⟩, fun f => ?_⟩
  · have h : ∀ c, queued.phantom.recs.get c = PhantomRec.start ∧ queued.requested c = false := by decide +kernel
    rw [(h c).1, (h c).2]
    exact ⟨rfl, Nat.zero_le _, by decide⟩
  · revert f; unfold PathInOrder; decide +kernel

/-- StepKeepsPhantomLaw, a channel in FAULT: station 3 wants phantom on channel 1 by feed A, and withdraws it. -/
theorem witness_PhantomLaw_fault :
    let s := withPhantom 0 .fault .short (withEntry 0 0 ⟨0, false, true, false, 0⟩ bound);
    let m := Instr.clearDemand e3 0 1 1;
    m.isStart = false ∧ exec m s = .next (run m s) ∧ (s.phantom.recs.get 0).state = .fault ∧ s.requested 0 = true
    ∧ (run m s).requested 0 = false ∧ ((run m s).phantom.recs.get 0).state = .off
    ∧ ((run (.shortTrip 0) s).phantom.recs.get 0).state = .fault :=
  ⟨rfl, rfl, (by decide +kernel)⟩

/-- StepKeepsGainLaw. -/
theorem witness_GainLaw : GainLaw queued := by
  have h : ∀ c, queued.steps.get c = StepRec.start ∧ queued.gain.recs.get c = ResRec.start
      ∧ (queued.head.recs.get c).backoff = 0 ∧ queued.demand.get c = DemandRec.start := by decide +kernel
  have n : ∀ f, noEntries.get f = none := by decide +kernel
  refine ⟨fun c => ?_, fun c => ?_, fun c => ?_, fun c f => ?_, fun _ hx => (nomatch hx), by decide +kernel⟩
  · rw [(h c).1]
    exact ⟨by decide, fun _ hp => (nomatch hp), by decide, by decide, fun _ hf => (nomatch hf)⟩
  · rw [(h c).2.1]
    exact ⟨by decide, by decide, fun _ hp => (nomatch hp), by decide +kernel⟩
  · rw [(h c).2.2.1]; decide
  · rw [(h c).2.2.2]
    exact ⟨fun e he => by simp [DemandRec.start, n] at he, fun e he => by simp [DemandRec.start, n] at he⟩

/-- Feed A is bound and channel 2 is FIXED at +10.0 dB by feed A, channel 3 HELD at 0 dB by feed B. -/
def locked : State := withLock 2 (.held 1 0) (withLock 1 (.fixed 0 20) bound)

theorem witness_FixedLockRemains :
    Takes e3 locked ∧ HeldBy e3 0 0 (heard e3 locked) ∧ chanOf 2 = some 1
    ∧ (locked.gain.recs.get 1).lock = .fixed 0 20 ∧ exec .messageSent locked = .next locked :=
  ⟨⟨rfl, (by decide), rfl⟩, ⟨rfl, rfl⟩, rfl, rfl, rfl⟩

/-- Channel 3 is HELD at 0 dB by feed B. -/
def held : State := withLock 2 (.held 1 0) bound

/-- The same, A at 1 dB and the step to the frozen gain pending: it was, when the lock was taken. -/
def heldMoving : State := withStep 2 (fun r => { r with applied := 2, pending := some ⟨0, 1, false⟩ }) held

/-- A lock on channel 3 alone, at the gain where it settles, satisfies the lock law. -/
theorem lockLaw_of_third (s : State)
    (h : ∀ c, (s.gain.recs.get c).lock = .opened
      ∨ ((s.gain.recs.get c).lock = .held 1 0 ∧ s.settled c = 0 ∧ (s.gain.recs.get c).target = 0)) : LockLaw s := by
  intro c g hg
  rcases h c with h | ⟨h, ha, ht⟩ <;> rw [h] at hg <;> cases hg
  exact ⟨ha, .inr ht⟩

/-- AppliedGainMovesByCompensation: a HELD channel that stands, and one whose last step is pending. -/
theorem witness_AppliedGainMovesByCompensation :
    LockLaw { held with pending := [.blockStart quiet] } ∧ LockLaw heldMoving
    ∧ (held.gain.recs.get 2).lock.frozen = some 0 ∧ (held.steps.get 2).pending = none
    ∧ (heldMoving.gain.recs.get 2).lock.frozen = some 0 ∧ (heldMoving.steps.get 2).pending = some ⟨0, 1, false⟩
    ∧ ((run (.samplePeriod (Tab.const 0)) heldMoving).steps.get 2).applied = 0
    ∧ Instr.isStart .windowClose = false ∧ exec .windowClose held = .next (run .windowClose held) :=
  ⟨lockLaw_of_third _ (by decide +kernel), lockLaw_of_third _ (by decide +kernel), (by decide +kernel),
    (by decide +kernel), (by decide +kernel), (by decide +kernel), (by decide +kernel), rfl, rfl⟩

/-- An image of 54 bytes that passes the four checks, every field out of its range at the upper end. -/
def topImage : List Byte :=
  let b := [0x53#8, 0x32#8, 54#8, 1#8] ++ List.replicate 48 255#8
  b ++ be16 (crc16 b)

/-- The same with every field 0. -/
def zeroImage : List Byte :=
  let b := [0x53#8, 0x32#8, 54#8, 1#8] ++ List.replicate 48 0#8
  b ++ be16 (crc16 b)

theorem witness_ConfigurationFromImage :
    ImageGood topImage ∧ (loadConfig topImage).latency = 47 ∧ (loadConfig topImage).allowance = 15
    ∧ ImageGood zeroImage ∧ (loadConfig zeroImage).clipLevel = 1 ∧ (loadConfig zeroImage).shortThreshold = 12
    ∧ ¬ ImageGood [] ∧ ¬ ImageGood (List.replicate 54 0) := by
  unfold ImageGood; decide +kernel

/-- A start on box 5, whose channel 4 has mismatched its start write. -/
def started : State := run (.powerOn ⟨5, [], [(3, 9)]⟩) bound

/-- The state stands as at power-on; channel 4's restore write mismatches again, or matches. -/
theorem witness_StartUpEndBeginsBlockZero :
    exec (.powerOn ⟨5, [], [(3, 9)]⟩) bound = .next started ∧ started.phase = .startUp ∧ AsAtPowerOn started
    ∧ (started.steps.get 3).mismatch = 1 ∧ readsBack [(3, 9)] 3 0 ≠ 0 ∧ readsBack [] 3 0 = 0
    ∧ (run (.startUpEnd true false (Tab.const true) { quiet with readback := [(3, 9)] }) started).report.keys
        = [.box, .channel 3]
    ∧ (run (.startUpEnd true false (Tab.const true) quiet) started).phantom.bank = 2 := by
  unfold AsAtPowerOn
  exact ⟨rfl, by decide +kernel⟩

/-- A part in start-up cannot hear; a running one can, and hears its own number as a clash. -/
theorem witness_MessagesThatGoNoFurther :
    Instr.sender (.reply e3) = some 3 ∧ State.reset.canHear = false
    ∧ Instr.sender (.presence ⟨0, 255, 0⟩) = some bound.own ∧ bound.canHear = true
    ∧ Instr.deskRequest (.claim e39 0) = some e39 ∧ e39.source ≠ bound.own ∧ forUs e39 bound = false := by
  decide +kernel

/-- Feed B stands ORPHANED with station 4, which is LOST, as holder; station 3 is present. -/
def orphaned : State :=
  { bound with
    link.stations := bound.link.stations.set 4 (.lost .desk)
    feeds := bound.feeds.set 1 ⟨.orphaned 4 2, true⟩ }

theorem witness_PresenceIsRecorded :
    orphaned.canHear = true ∧ e4.source ≠ orphaned.own ∧ (orphaned.feeds.get 1).binding = .orphaned 4 2
    ∧ orphaned.link.stations.get 4 = .lost .desk ∧ (orphaned.feeds.get 0).binding = .bound 3 5
    ∧ orphaned.link.stations.get 3 = .present .desk 0
    ∧ ((run (.presence e4) orphaned).feeds.get 1).binding = .bound 4 2 := by decide +kernel

/-- OtherMessagesAreHeard: the hypotheses of both clauses, with a box's kind and a desk's. -/
theorem witness_OtherMessagesAreHeard :
    bound.canHear = true ∧ e3.source ≠ bound.own
    ∧ (run (.invalidMessage 3 35) bound).link.stations.get 3 = .present .box 0
    ∧ (run (.invalidMessage 3 36) bound).link.stations.get 3 = .present .desk 0
    ∧ orphaned.canHear = true ∧ orphaned.link.stations.get 4 = .lost .desk
    ∧ (orphaned.feeds.get 1).binding = .orphaned 4 2 ∧ (orphaned.feeds.get 0).binding = .bound 3 5
    ∧ ((run (.invalidMessage 4 36) orphaned).feeds.get 1).binding = .bound 4 2
    ∧ ((run (.invalidMessage 4 35) orphaned).feeds.get 1).binding = .orphaned 4 2 := by decide +kernel

/-- An attempt has just begun on CHANNEL 1; the list holds BOX and CHANNEL 1. -/
def sending : State :=
  { bound with
    report.keys := [.box, .channel 0]
    link.pair := .sending (freshAttempt bound (.channel 0)) }

theorem witness_DiscardedReceptionsAndIdle :
    bound.canHear = true ∧ bound.running = true ∧ bound.link.pair = .idle
    ∧ ({ bound with link.pair := .waiting } : State).link.pair = .waiting
    ∧ ({ bound with link.pair := .receiving 5 } : State).link.pair = .receiving 5
    ∧ ({ bound with link.pair := .receiving 5 } : State).canHear = true
    ∧ ({ bound with link.pair := .ended } : State).running = true
    ∧ ({ bound with link.pair := .ended } : State).canHear = false
    ∧ sending.link.pair = .sending (freshAttempt bound (.channel 0)) := ⟨rfl, rfl, rfl, rfl, rfl, rfl, rfl, rfl, rfl⟩

/-- The list [BOX, CHANNEL 1, CHANNEL 2]: CHANNEL 1 goes first. -/
theorem witness_AttemptTakesTheFirstKey :
    let s := { bound with report.keys := [Key.box, .channel 0, .channel 1] }
    s.running = true ∧ s.link.clash = false ∧ s.link.pair = .idle
    ∧ s.report.keys = [Key.box] ++ .channel 0 :: [.channel 1]
    ∧ (∀ x ∈ [Key.box], Key.rank (.channel 0) < x.rank) ∧ (∀ x ∈ [Key.channel 1], Key.rank (.channel 0) ≤ x.rank)
    ∧ bound.report.keys = [] ∧ sending.link.pair ≠ .idle ∧ (run (.presence ⟨0, 255, 0⟩) bound).link.clash = true := by
  decide +kernel

/-- AttemptsThatAreNoSends, SentMessageClearsWhatItCarried. -/
theorem witness_sending :
    sending.running = true ∧ sending.link.pair = .sending (freshAttempt bound (.channel 0))
    ∧ (run .messageSent sending).report.keys = [.box] := by decide +kernel

/-- SentMessageLayout: the last byte of a header's channel flags, for channels 31 and 32. -/
theorem witness_SentMessageLayout :
    2 * 15 = (30 : Chan).val ∧ 2 * 15 + 1 = (31 : Chan).val
    ∧ (headerBytes ⟨9, 0x1234, .holdover, true, 12, noFlags.set 30 ⟨true, false, false, true⟩⟩)
        = [9, 0x12, 0x34, 0x83, 12] ++ List.replicate 15 0 ++ [0x90]
    ∧ (keyMessage bound .box).take 7 = [0x80, 35, 255, 0, 35, 0x10, 0] := by decide +kernel

/-- ClaimIsDecidedOnTheRecord: station 3 claims B free, A its own, and F where no feed is; station 4 claims A; station 3
claims B ORPHANED with 4, station 4 comes back with a CLAIM of B. -/
theorem witness_ClaimIsDecidedOnTheRecord :
    feedOf 5 = some 5 ∧ feedOf 6 = none
    ∧ ((heard e3 bound).feeds.get 1).binding = .free
    ∧ ((heard e3 bound).feeds.get 0).binding = .bound 3 5
    ∧ ((heard e4 bound).feeds.get 0).binding = .bound 3 5
    ∧ ((heard e3 orphaned).feeds.get 1).binding = .orphaned 4 2
    ∧ (orphaned.feeds.get 1).binding = .orphaned 4 2 ∧ ((heard e4 orphaned).feeds.get 1).binding = .bound 4 2
    ∧ (let s := { bound with feeds := bound.feeds.set 1 ⟨.orphaned 3 2, true⟩ };
      ((heard e3 s).feeds.get 1).binding = .orphaned 3 2)
    ∧ e3.source ≠ e4.source ∧ bound.canHear = true ∧ forUs e3 bound = true ∧ forUs e4 orphaned = true := by
  decide +kernel

/-- RequestsThatFailACheck: no feed 6, a feed of another desk, ranges 0-1, 2-1 and 1-33, a code 3, a mode 2, counts 0 and
65; the requests are taken and A is held by station 3. -/
theorem witness_RequestsThatFailACheck :
    Instr.holderCheck (.release e4 0) = some (e4, 3, 0) ∧ Takes e4 bound ∧ NotHeld e4 0 (heard e4 bound)
    ∧ NotHeld e4 6 (heard e4 bound) ∧ Instr.rangeCheck (.tone e3 0 1 33 0) = some (e3, 9, 0, 1, 33) ∧ Takes e3 bound
    ∧ HeldBy e3 0 0 (heard e3 bound) ∧ ¬ RangeOk 0 1 ∧ ¬ RangeOk 2 1 ∧ ¬ RangeOk 1 33 ∧ RangeOk 1 32 ∧ RangeOk 32 32
    ∧ (12 : Byte).extractLsb' 2 2 = 3 ∧ (3 : Byte).extractLsb' 0 2 = 3 ∧ (2 : Byte) ≠ 0 ∧ (2 : Byte) ≠ 1
    ∧ 64 < (65 : Byte).toNat := by
  unfold Takes NotHeld HeldBy; decide +kernel

/-- ReleaseUndoesWhatTheFeedSet, SetDemandWritesItsRange, ClearDemandRemovesEntries, LockIsDecidedWhole (both ends of the
range), UnlockIsDecidedWhole, HeadroomResetAndToneChangeTheirRange, BatchOpenIsDecidedOnTheRecord. -/
theorem witness_requests :
    Takes e3 bound ∧ HeldBy e3 0 0 (heard e3 bound) ∧ RangeOk 1 32
    ∧ muteOf 0x86 = some .on ∧ phantomOf 0x86 = some .off ∧ muteOf 0 = some .keep
    ∧ 1 ≤ (1 : Byte).toNat ∧ (64 : Byte).toNat ≤ 64 := by
  unfold Takes HeldBy; decide +kernel

/-- LockIsDecidedWhole, UnlockIsDecidedWhole: in `locked`, feed A may lock channels 1 and 2 and not channel 3; it may
unlock channel 1 and neither of the others. -/
theorem witness_locks :
    Takes e3 locked ∧ HeldBy e3 0 0 (heard e3 locked)
    ∧ (∀ c, InRange 1 2 c → LockPasses 0 false ((heard e3 locked).gain.recs.get c).lock)
    ∧ InRange 1 3 2 ∧ ((heard e3 locked).gain.recs.get 2).lock = .held 1 0 ∧ (1 : Feed) ≠ 0
    ∧ (let s := withLock 2 (.fixed 1 0) locked;
      (∀ c, InRange 1 3 c → c < 2 → LockPasses 0 false ((heard e3 s).gain.recs.get c).lock)
      ∧ ((heard e3 s).gain.recs.get 2).lock = .fixed 1 0)
    ∧ (∀ c, InRange 1 1 c → LockPasses 0 true ((heard e3 locked).gain.recs.get c).lock)
    ∧ InRange 3 3 2 ∧ InRange 2 3 1 ∧ ((heard e3 locked).gain.recs.get 1).lock = .fixed 0 20 := by
  have h : ∀ c, (c = 1 ∧ ((heard e3 locked).gain.recs.get c).lock = .fixed 0 20) ∨ c = 2
      ∨ ((heard e3 locked).gain.recs.get c).lock = .opened := by decide +kernel
  have h' : ∀ c, (c = 1 ∧ ((heard e3 (withLock 2 (.fixed 1 0) locked)).gain.recs.get c).lock = .fixed 0 20) ∨ c = 2
      ∨ ((heard e3 (withLock 2 (.fixed 1 0) locked)).gain.recs.get c).lock = .opened := by decide +kernel
  refine ⟨⟨rfl, by decide, rfl⟩, ⟨rfl, rfl⟩, fun c hc => ?_, by decide, by decide +kernel, by decide,
    ⟨fun c _ hc => ?_, by decide +kernel⟩, fun c hc => ?_, by decide, by decide, by decide +kernel⟩
  · rcases h c with ⟨_, h⟩ | rfl | h
    · exact .inr (.inr ⟨rfl, 20, h⟩)
    · exact absurd hc (by decide)
    · exact .inl h
  · rcases h' c with ⟨_, h⟩ | rfl | h
    · exact .inr (.inr ⟨rfl, 20, h⟩)
    · exact absurd hc (by decide)
    · exact .inl h
  · rcases h c with ⟨rfl, _⟩ | rfl | h
    · exact absurd hc (by decide)
    · exact absurd hc (by decide)
    · exact .inl h

/-- Batches of station 3 on feed A: loading with one of two entries, full, and committing. -/
def oneOfTwo : BatchBody := ⟨3, 0, 2, [⟨4, some 30, .keep⟩], 7⟩
def full : BatchBody := ⟨3, 0, 2, [⟨4, some 30, .keep⟩, ⟨4, none, .on⟩], 7⟩

def withBatch (r : BatchRecord) : State := { bound with batch := ⟨r, 0⟩ }

/-- BatchOpenIsDecidedOnTheRecord, BatchEntryIsDecidedOnTheRecord, BatchCommitAndCancelAreDecidedOnTheRecord: each state of
the record, for the owner and for station 4, with good and bad fields. -/
theorem witness_batches :
    bound.batch.record = .idle ∧ Takes e3 (withBatch (.loading oneOfTwo 99)) ∧ Takes e4 (withBatch (.committing full))
    ∧ HeldBy e3 0 0 (heard e3 (withBatch (.loading oneOfTwo 99)))
    ∧ (withBatch (.loading oneOfTwo 99)).batch.record = .loading oneOfTwo 99 ∧ oneOfTwo.owner = e3.source
    ∧ oneOfTwo.owner ≠ e4.source ∧ oneOfTwo.items.length < oneOfTwo.count ∧ feedOf 0 = some oneOfTwo.feed
    ∧ chanOf 32 = some 31 ∧ muteOf 0 = some .keep ∧ full.count ≤ full.items.length ∧ full.items.length = full.count
    ∧ oneOfTwo.items.length ≠ oneOfTwo.count ∧ feedOf 6 ≠ some full.feed ∧ chanOf 0 = none ∧ chanOf 33 = none
    ∧ muteOf 12 = none
    ∧ (withBatch (.committing full)).batch.record = .committing full
    ∧ (withBatch (.committing full)).batch.record.body = some full
    ∧ (let s := { withBatch (.loading oneOfTwo 0) with feeds := bound.feeds.set 1 ⟨.bound 4 0, true⟩ };
      Takes e4 s ∧ feedOf 1 = some 1 ∧ holds (heard e4 s) 1 4 = true) := by
  unfold Takes HeldBy; decide +kernel

/-- BoxResetActsOnEveryBlock: station 4 holds nothing; station 3 holds A, channel 3 is HELD, channel 1 in FAULT and the
rest GOOD. -/
theorem witness_BoxResetActsOnEveryBlock :
    let s := withStep 0 (fun r => { r with front := .fault 7 }) locked
    Takes e4 s ∧ (∀ f, holds (heard e4 s) f 4 = false) ∧ Takes e3 s ∧ holds (heard e3 s) 0 3 = true
    ∧ ((heard e3 s).gain.recs.get 2).lock = .held 1 0 ∧ ((heard e3 s).steps.get 0).front = .fault 7
    ∧ ((heard e3 s).steps.get 1).front = .good ∧ readsBack [] 0 0 = 0 ∧ readsBack [(0, 9)] 0 0 ≠ 0 := by
  unfold Takes; decide +kernel

/-- Every channel is in group 3, and the table holds one entry, of station 6. -/
def grouped : State :=
  { bound with
    config.chans := Tab.const ⟨3, .high, .backoff⟩
    gain.table := [⟨3, 6, some 20, none, 6, 4⟩] }

def e6 : Envelope := ⟨6, 255, 0⟩

/-- LinkCandidateIsStored: a group unused and one used, good and bad values, a pair in the table and one that is not, a
full table. -/
theorem witness_LinkCandidateIsStored :
    grouped.canHear = true ∧ e6.source ≠ grouped.own ∧ groupOf 0 = none ∧ groupOf 16 = none ∧ groupOf 3 = some 3
    ∧ grouped.used 3 = true ∧ grouped.used 4 = false ∧ WholeDb (20 : Byte).toInt ∧ ¬ WholeDb (21 : Byte).toInt
    ∧ ¬ WholeDb (128 : Byte).toInt ∧ BackoffValue (36 : Byte).toInt ∧ ¬ BackoffValue (42 : Byte).toInt
    ∧ grouped.gain.table = [] ++ ⟨3, 6, some 20, none, 6, 4⟩ :: []
    ∧ (∀ y ∈ grouped.gain.table, ¬ (y.group = 3 ∧ y.source = 5)) ∧ grouped.gain.table.length < 32
    ∧ (let l := (List.finRange 32).map (fun st => (⟨4, st, none, none, 0, 0⟩ : LinkEntry));
      32 ≤ l.length ∧ ∀ y ∈ l, ¬ (y.group = 3 ∧ y.source = 6)) := by decide +kernel

/-- CandidateRule: spans of 24.0 and 24.5 dB, and the lowest lo with the highest hi. -/
theorem witness_CandidateRule :
    (∀ r ∈ ([1, 48] : List Int), 1 ≤ r ∧ r ≤ 48) ∧ (0 : Int) = max 0 (min 126 0) ∧ (48 : Int) - 0 ≤ 48
    ∧ candidate [1, 48] = some 0 ∧ (48 : Int) < 49 - 0 ∧ candidate [1, 49] = some 2
    ∧ (-48 : Int) ∈ ([-48, 126] : List Int) ∧ (0 : Int) = max 0 (min 126 (-48)) := by decide +kernel

/-- ResolutionGivesBackoffTargetAndTrims: `grouped` with channel 1 dirty; a channel of no group; one that is locked. -/
theorem witness_ResolutionGivesBackoffTargetAndTrims :
    (let s := markDirty 0 grouped;
      s.group 0 = 3 ∧ s.group 31 = 3 ∧ (s.demand.get 0).dirty = true ∧ BackoffValue (s.head.recs.get 31).backoff
      ∧ (s.gain.recs.get 31).lock = .opened
      ∧ ((resolveAll s).gain.recs.get 31).beff = 6 ∧ ((resolveAll s).gain.recs.get 31).target = 14)
    ∧ (let s := markDirty 0 (withLock 7 (.held 0 40) { grouped with head.recs := grouped.head.recs.set 5 ⟨12, 0, 0⟩ });
      (∀ d, BackoffValue (s.head.recs.get d).backoff) ∧ (3 : Group) ≠ 0 ∧ s.group 0 = 3
      ∧ (resolveAll s).gain.announce.get 3 = ⟨none, some 40, 12⟩ ∧ s.gain.announce.get 3 = ⟨none, none, 0⟩
      ∧ Key.link 3 ∈ (resolveAll s).report.keys)
    ∧ bound.group 0 = 0 ∧ (bound.demand.get 0).dirty = false ∧ ((markDirty 0 bound).demand.get 0).dirty = true
    ∧ (locked.gain.recs.get 1).lock.frozen = some 20
    ∧ ((resolveAll (markDirty 1 locked)).gain.recs.get 1).target = 20 := by decide +kernel

/-- Channel 1 moves from 20.0 to 21.0 dB and its target is 30.0 dB, without and with a pending step. -/
def moving : State :=
  { withStep 0 (fun r => { r with applied := 40, code := 20 }) bound with
    gain.recs := bound.gain.recs.modify 0 (fun r => { r with target := 60 }) }

def stepped : State := withStep 0 (fun r => { r with pending := some ⟨42, 1, false⟩ }) moving

def faulty (n : Nat) : State := withStep 0 (fun r => { r with front := .fault n }) moving

theorem witness_StepControllerDecides :
    (let r := moving.steps.get 0;
      Ahead.retry 0 ∉ moving.ahead ∧ r.front = .good ∧ r.mismatch = 0 ∧ r.pending = none ∧ r.applied ≠ 60
      ∧ stepInterval moving.config ≤ min 8 (r.age + 1) ∧ readsBack [] 0 21 = 21 ∧ readsBack [(0, 99)] 0 21 ≠ 21)
    ∧ (stepped.steps.get 0).pending.isSome = true ∧ Ahead.retry 0 ∈ (run (.retryWrite 0 20) (faulty 99)).ahead
    ∧ ((faulty 98).steps.get 0).front = .fault 98 ∧ ((faulty 99).steps.get 0).front = .fault 99
    ∧ (let s := withStep 0 (fun r => { r with mismatch := 1 }) moving;
      (s.steps.get 0).mismatch = 1 ∧ ((stepAtBlock [(0, 99)] 0 s).steps.get 0).front = .fault 0
      ∧ ((stepAtBlock [] 0 s).steps.get 0).pending = some ⟨42, 0, true⟩)
    ∧ (let s := withStep 0 (fun r => { r with mismatch := 1, applied := 60 }) moving;
      (s.steps.get 0).applied = (s.gain.recs.get 0).target ∧ ((stepAtBlock [] 0 s).steps.get 0).mismatch = 0) := by
  decide +kernel

theorem witness_CompensationAndRetry :
    stepped.running = true ∧ stepped.timing.slip = false ∧ stepped.timing.begun < 48
    ∧ (stepped.steps.get 0).pending = some ⟨42, 1, false⟩ ∧ ((run (.compensation 0) stepped).steps.get 0).applied = 42
    ∧ (faulty 99).running = true ∧ ((faulty 99).steps.get 0).front = .fault 99
    ∧ ((run (.retryWrite 0 20) (faulty 99)).steps.get 0).front = .good
    ∧ ((run (.retryWrite 0 21) (faulty 99)).steps.get 0).front = .fault 0 := by decide +kernel

/-- TrimmedSampleRule and FixedTablesFollowTheirFormulas: both ends of each range. -/
theorem witness_tables :
    (-48 : Int) ≤ -48 ∧ (48 : Int) ≤ 48 ∧ ({ defaultConfig with clipLevel := 24 } : Configuration).clipLevel = 24
    ∧ clipThreshold { defaultConfig with clipLevel := 24 } = 2107122
    ∧ clipThreshold { defaultConfig with clipLevel := 1 } = 7919355 := by decide +kernel

/-- SamplePeriodBuildsRows: tone, settle mute, demand mute and trim on feed A; a block that is over; a pending step that
counts down, and one whose countdown reaches 0. -/
theorem witness_SamplePeriodBuildsRows :
    (let s := run (.tone e3 0 1 1 1) (withEntry 2 0 ⟨12, true, false, false, 0⟩
        (withPhantom 1 (.rising 9) .none (withEntry 3 0 ⟨12, false, false, false, 0⟩ bound)));
      s.running = true ∧ s.timing.slip = false ∧ s.timing.begun < 48 ∧ (s.feeds.get 0).binding.installed = true
      ∧ (s.paths.get 0).tone.get 0 = true ∧ (s.paths.get 0).tone.get 1 = false
      ∧ (s.phantom.recs.get 1).state.settling = true ∧ (s.phantom.recs.get 2).state.settling = false
      ∧ (s.demand.get 2).view.get 0 = some ⟨12, true, false, false, 0⟩
      ∧ (s.demand.get 3).view.get 0 = some ⟨12, false, false, false, 0⟩)
    ∧ 48 ≤ (withTiming (fun u => { u with begun := 48 }) bound).timing.begun
    ∧ (moving.steps.get 0).pending = none ∧ (stepped.steps.get 0).pending = some ⟨42, 1, false⟩
    ∧ ((run (.samplePeriod (Tab.const 0)) stepped).steps.get 0).applied = 42
    ∧ (let s := withStep 0 (fun r => { r with pending := some ⟨42, 2, false⟩ }) moving;
      (s.steps.get 0).pending = some ⟨42, 2, false⟩
      ∧ ((run (.samplePeriod (Tab.const 0)) s).steps.get 0).pending = some ⟨42, 1, false⟩)
    ∧ (let s := { bound with feeds := bound.feeds.set 5 ⟨.absent, false⟩ };
      (s.feeds.get 5).binding.installed = false) := by decide +kernel

/-- BlockStartWork, AdmissionPassFollowsItsOrder, WindowCloseJudgesEveryChannel: a running part with an ABSENT feed, a
committing batch and a station of age 199; queued channels of both kinds; windows below and at the count rule. -/
theorem witness_blocks :
    (let s := { orphaned with
        feeds := orphaned.feeds.set 5 ⟨.absent, false⟩
        link.stations := orphaned.link.stations.set 3 (.present .desk 199) };
      s.running = true ∧ s.batch.record = .idle ∧ (s.feeds.get 5).binding.installed = false
      ∧ (s.feeds.get 0).binding.installed = true ∧ s.link.stations.get 3 = .present .desk 199
      ∧ (3 * (16 : Chan).val = 48) ∧ (5 : Group).val % 10 = 15 % 10 ∧ grouped.used 3 = true)
    ∧ (let s := withPhantom 0 (.waiting true) .none (withPhantom 1 .shed .shedLoad bound);
      (s.phantom.recs.get 2).state = .off ∧ ((admissionPass s).phantom.recs.get 0).state = .waiting false
      ∧ ((admissionPass { s with phantom.bank := 1 }).phantom.recs.get 1).state = .rising 250)
    ∧ (let s := { bound with head := { bound.head with windowAge := 9 } };
      s.running = true ∧ 9 ≤ s.head.windowAge ∧ (s.head.recs.get 0).window < countRule s.config
      ∧ Ahead.window ∉ s.ahead ∧ Ahead.window ∈ (run .windowClose s).ahead ∧ bound.head.windowAge < 9)
    ∧ (let s := { grouped with head := ⟨(Tab.const ⟨30, 4, 255⟩ : Tab HeadRec 32).set 1 ⟨36, 4, 0⟩, 9⟩ };
      countRule s.config ≤ (s.head.recs.get 0).window ∧ (s.config.chans.get 0).guard = .backoff
      ∧ (s.gain.recs.get 0).lock = .opened ∧ (s.head.recs.get 0).backoff < 36 ∧ 36 ≤ (s.head.recs.get 1).backoff
      ∧ (bound.config.chans.get 0).guard ≠ .backoff
      ∧ ((run .windowClose s).head.recs.get 0) = ⟨36, 0, 0⟩) := by decide +kernel

theorem witness_LinesAndPortsFollow :
    bound.running = true ∧ (bound.feeds.get 0).binding.installed = true ∧ (bound.feeds.get 0).lineUp ≠ false
    ∧ (let s := { bound with feeds := bound.feeds.set 5 ⟨.absent, false⟩ };
      (s.feeds.get 5).binding.installed = false)
    ∧ (run (.powerGoodChange true false) { bound with phantom := { bound.phantom with lineQuiet := 20 } }).phantom.lineQuiet
        = 0 := by decide +kernel

/-- BatchAtItsBlockStart: two entries for channel 5, the first of which sets its gain and the second its mute, with none
that sets the phantom; a batch of idle age 99. -/
theorem witness_BatchAtItsBlockStart :
    (withBatch (.committing full)).running = true
    ∧ (withBatch (.committing full)).batch.record = .committing full
    ∧ full.items = [] ++ ⟨4, some 30, .keep⟩ :: [⟨4, none, .on⟩]
    ∧ full.items = [⟨4, some 30, .keep⟩] ++ ⟨4, none, .on⟩ :: []
    ∧ (∀ j ∈ [(⟨4, none, .on⟩ : BatchItem)], j.chan = 4 → j.gain = none) ∧ (∀ i ∈ full.items, i.chan ≠ 5)
    ∧ (∀ i ∈ oneOfTwo.items, i.chan = 4 → i.mute = .keep)
    ∧ (run .batchWrite (withBatch (.committing full))).entry 4 0 = some ⟨30, true, false, false, 1⟩
    ∧ (withBatch (.loading oneOfTwo 99)).batch.record = .loading oneOfTwo 99
    ∧ (batchAtBlock (withBatch (.committing full))).entry 4 0 = some ⟨30, true, false, false, 0⟩
    ∧ (batchAtBlock (withBatch (.loading oneOfTwo 98))).batch.record = .loading oneOfTwo 99
    ∧ (withBatch (.committing full)).link.stations.get full.owner ≠ .present .desk 199
    ∧ (run .batchTimeout (withBatch (.loading oneOfTwo 99))).batch = ⟨.idle, 4⟩ := by decide +kernel

/-- LossesAndExpiries: a desk and a box of age 199, a link table entry of age 49. -/
theorem witness_LossesAndExpiries :
    (let s := { bound with link.stations := bound.link.stations.set 3 (.present .desk 199) };
      s.running = true ∧ s.link.stations.get 3 = .present .desk 199 ∧ (s.feeds.get 0).binding = .bound 3 5
      ∧ ((run (.stationLoss 3) s).feeds.get 0).binding = .orphaned 3 5)
    ∧ (let s := { grouped with link.stations := grouped.link.stations.set 6 (.present .box 199) };
      s.link.stations.get 6 = .present .box 199 ∧ (run (.stationLoss 6) s).gain.table = [])
    ∧ (let s := { grouped with gain.table := [⟨3, 6, some 20, none, 6, 49⟩] };
      (run (.linkEntryExpiry 3 6) s).gain.table = [] ∧ ((run (.linkEntryExpiry 3 6) s).demand.get 9).dirty = true
      ∧ (ageLinks s).gain.table = [])
    ∧ (let s := { bound with link.stations := bound.link.stations.set 3 (.present .desk 198) };
      (ageStation 3 s).link.stations.get 3 = .present .desk 199)
    ∧ bound.link.stations.get 0 = .self ∧ bound.link.stations.get 5 = .absent := by decide +kernel

/-- SettleEndMovesTheState: the end of each settle, with and without a want. -/
theorem witness_SettleEndMovesTheState :
    (let s := withPhantom 0 (.rising 1) .none (withEntry 0 0 ⟨0, false, true, false, 0⟩ bound);
      s.running = true ∧ Ahead.settle 0 ∉ s.ahead ∧ (s.phantom.recs.get 0).state = .rising 1 ∧ s.requested 0 = true
      ∧ ((advanceSettle 0 s).phantom.recs.get 0).state = .on)
    ∧ (let s := withPhantom 0 (.falling 2) .short bound;
      (s.phantom.recs.get 0).state = .falling 2 ∧ ((advanceSettle 0 s).phantom.recs.get 0).state = .falling 1)
    ∧ (let s := { withPhantom 0 (.falling 250) .short bound with ahead := [.settle 0] };
      Ahead.settle 0 ∈ s.ahead ∧ (s.phantom.recs.get 1).state = .off)
    ∧ (let s := withPhantom 0 (.falling 1) .released bound;
      (s.phantom.recs.get 0).state = .falling 1 ∧ s.requested 0 = false
      ∧ ((run (.settleEnd 0) s).phantom.recs.get 0).state = .off)
    ∧ (∀ cause ∈ [OffCause.released, .shedBudget, .shedLoad, .short],
      let s := withPhantom 0 (.falling 1) cause (withEntry 0 0 ⟨0, false, true, false, 0⟩ bound);
      s.requested 0 = true ∧ (s.phantom.recs.get 0).cause = cause) := by decide +kernel

/-- TripsShedsAndBankChanges: an ON and a RISING channel that have been short, an overload with and without a victim, and
a bank change from 3 to 0 that sheds both powered channels. -/
theorem witness_TripsShedsAndBankChanges :
    let p := fun st : PhantomState => { withPhantom 1 st .none bound with
      phantom := { bound.phantom with
        recs := (bound.phantom.recs.set 1 ⟨st, .none, 255, 49, 0, 0, 0⟩).set 2 ⟨.on, .none, 0, 0, 0, 0, 0⟩
        overload := 19, lineQuiet := 19, bank := 3 } };
    (p .on).running = true ∧ 49 ≤ ((p .on).phantom.recs.get 1).persist ∧ ((p .on).phantom.recs.get 1).state = .on
    ∧ ((p (.rising 151)).phantom.recs.get 1).state = .rising 151
    ∧ ((run (.shortTrip 1) (p (.rising 151))).phantom.recs.get 1).state = .falling 250
    ∧ 19 ≤ (p .on).phantom.overload ∧ (p .on).poweredChannels = [1, 2]
    ∧ (p .on).place 1 = (p .on).place 2 ∧ (1 : Chan) < 2
    ∧ ((run .shedLoad (p .on)).phantom.recs.get 2).cause = .shedLoad
    ∧ (p .on).phantom.lineQuiet = 19 ∧ (p .on).lineIndex ≠ (p .on).phantom.bank
    ∧ ((run .bankChange (p .on)).phantom.recs.get 1).cause = .shedBudget
    ∧ { bound with phantom.overload := 19 }.poweredChannels = []
    ∧ 8 * (p .on).config.shortThreshold < ((p .on).phantom.recs.get 1).current
    ∧ ¬ 8 * (p .on).config.shortThreshold < ((p .on).phantom.recs.get 2).current
    ∧ ((judgeShort 1 (p (.rising 150))).phantom.recs.get 1).state = .falling 250
    ∧ ((judgeShort 1 (p (.rising 151))).phantom.recs.get 1).persist = 0
    ∧ ¬ 8 * (p .on).budget < (p .on).measuredTotal
    ∧ 8 * (run .bankChange (p .on)).budget < (run .bankChange (p .on)).measuredTotal
    ∧ Ahead.overload ∈ (run .shedLoad (p .on)).ahead ∧ Ahead.overload ∉ (p .on).ahead
    ∧ bound.phantom.lineQuiet ≠ 19 ∧ ((advanceLines (p .on)).phantom.recs.get 1).cause = .shedBudget := by decide +kernel

/-- The last mark came on the boundary, and the running block has come as far as the tick count. -/
def marked (clock : ClockState) (ticks lockCount badCount : Nat) : State :=
  withTiming (fun u => { u with
    clock := clock, tickCount := ticks, blockTicks := ticks, lastOffset := some 0, lockCount := lockCount
    badCount := badCount }) bound

/-- The interval that a mark at a tick of the running block measures. -/
def interval (s : State) (tick : Nat) : Nat := min (s.timing.tickCount + (tick - s.timing.blockTicks)) 16777215

/-- MarkEventUnderTheClockState: marks at ticks 24,551 (inside, before the boundary), 24,550 (outside) and 9,300
(misplaced), after the boundary (tick 30 of a block that follows 24,560 ticks), and while the part drives the line; each
clock state; lock counts 14 and 15, bad counts 1 and 2. -/
theorem witness_MarkEventUnderTheClockState :
    (let s := withTiming (fun u => { u with driveLeft := some 2048 }) bound;
      2047 - s.timing.blockTicks < 2048 ∧ 2048 ≤ 2048 - s.timing.blockTicks)
    ∧ NoMissBefore 24551 (marked .acquiring 0 14 0).timing ∧ NoMissBefore 24551 bound.timing
    ∧ interval (marked .acquiring 0 14 0) 24551 = 24551 ∧ interval (marked .acquiring 0 14 0) 24550 = 24550
    ∧ interval (marked .acquiring 0 14 0) 9300 = 9300
    ∧ interval (withTiming (fun u => { u with tickCount := 24560 }) (marked .locked 0 16 0)) 30 = 24590
    ∧ (run (.markEvent 24551) (marked .acquiring 0 14 0)).timing.lockCount = 15
    ∧ (run (.markEvent 24551) (marked .acquiring 0 15 0)).timing.clock = .locked
    ∧ (run (.markEvent 24550) (marked .acquiring 0 14 0)).timing.lockCount = 0
    ∧ (run (.markEvent 24551) (marked .locked 0 16 1)).timing.badCount = 0
    ∧ (run (.markEvent 24550) (marked .locked 0 16 1)).timing.badCount = 2
    ∧ (run (.markEvent 24550) (marked .locked 0 16 2)).timing.clock = .holdover
    ∧ (run (.markEvent 24601) (marked .holdover 0 16 3)).timing.clock = .acquiring
    ∧ (run (.markEvent 24602) (marked .holdover 0 16 3)).timing.clock = .holdover
    ∧ (run (.markEvent 30) (withTiming (fun u => { u with tickCount := 24560 }) (marked .locked 0 16 0))).timing.blockLen
        = 24600 := by
  refine ⟨by decide, ?_, .inl rfl, by decide +kernel⟩
  refine .inr fun k => .inr ?_
  change 0 + 24551 ≤ 36864 + 24576 * k
  omega

theorem witness_LockedAndHoldoverAreEntered :
    (let s := marked .acquiring 0 15 0;
      s.running = true ∧ s.timing.clock = .acquiring ∧ s.timing.lockCount = 15 ∧ s.timing.driveLeft = none
      ∧ s.timing.lastOffset ≠ none ∧ interval s 24551 = 24551 ∧ interval s 24601 = 24601)
    ∧ (let s := marked .locked 0 16 2;
      s.timing.clock = .locked ∧ s.timing.badCount = 2 ∧ interval s 24550 < 24551
      ∧ exec (.markEvent 24550) s = .next (run (.markEvent 24550) s))
    ∧ (let s := withTiming (fun u => { u with tickCount := 24576 }) (marked .locked 0 16 2);
      s.timing.tickCount < 36864 ∧ 36864 - s.timing.tickCount ≤ s.timing.blockLen - s.timing.blockTicks
      ∧ (run (.enterHoldover .missing) s).timing.clock = .holdover)
    ∧ (let s := marked .locked 0 16 2;
      interval s 24602 = 24602 ∧ (run (.enterHoldover (.mark 24602)) s).timing.clock = .holdover)
    ∧ (let s := withTiming (fun u => { u with tickCount := 24576 }) (marked .locked 0 16 2);
      interval s 514 = 25090 ∧ (run (.enterHoldover (.mark 514)) s).timing.clock = .holdover)
    ∧ (let s := withTiming (fun u => { u with tickCount := 24063 }) (marked .locked 0 16 2);
      interval s 513 = 24576 ∧ (run (.enterHoldover (.mark 513)) s).timing.clock = .holdover
      ∧ (run (.markEvent 512) s).timing.badCount = 0)
    ∧ (let s := withTiming (fun u => { u with tickCount := 61440 }) (marked .locked 0 16 2);
      36864 + 24576 * 2 = 86016 ∧ s.timing.tickCount < 86016 ∧ 86016 - 24576 ≤ s.timing.tickCount
      ∧ 86016 - s.timing.tickCount ≤ s.timing.blockLen - s.timing.blockTicks
      ∧ (run (.enterHoldover .missing) s).timing.clock = .holdover
      ∧ (run (.enterHoldover .missing) s).timing.tickCount = 86016) :=
  ⟨(by decide +kernel), ⟨rfl, rfl, (by decide +kernel), rfl⟩, (by decide +kernel), (by decide +kernel),
    (by decide +kernel), (by decide +kernel), (by decide +kernel)⟩

/-- MissingMarksQuietAndRelease: the first missing mark and a later one, each clock state, a quiet count of 999, a drive of
2,048 ticks. -/
theorem witness_MissingMarksQuietAndRelease :
    (∀ clock ∈ [ClockState.free, .acquiring, .locked, .holdover],
      let s := withTiming (fun u => { u with tickCount := 24576 }) (marked clock 0 3 1);
      s.running = true ∧ s.timing.lastOffset ≠ none ∧ s.timing.tickCount < 36864 + 24576 * 0
      ∧ 36864 - s.timing.tickCount ≤ s.timing.blockLen - s.timing.blockTicks ∧ s.timing.badCount < 2
      ∧ (run .missingMark s).timing.tickCount = 36864)
    ∧ (let s := withTiming (fun u => { u with tickCount := 36864 }) (marked .locked 0 16 2);
      36864 + 24576 * 1 - 24576 ≤ s.timing.tickCount
      ∧ 36864 + 24576 * 1 - s.timing.tickCount ≤ s.timing.blockLen - s.timing.blockTicks ∧ s.timing.badCount = 2)
    ∧ (∀ clock ∈ [ClockState.acquiring, .holdover],
      let s := withTiming (fun u => { u with quietCount := 999 }) (marked clock 0 3 3);
      (run .quietCountExpiry s).timing.clock = .free)
    ∧ (let s := withTiming (fun u => { u with driveLeft := some 2048 }) bound;
      (run .markLineRelease s).timing.blockTicks = 2048)
    ∧ (let s := { marked .acquiring 24576 15 0 with config.markLead := true };
      s.config.markLead = true ∧ s.timing.driveLeft = none ∧ s.timing.lastOffset ≠ none ∧ s.timing.lockCount = 15
      ∧ (driveMark false s).timing.clock = .locked ∧ driveMark true s = s)
    ∧ (let s := { marked .locked 24602 16 2 with config.markLead := true };
      s.timing.badCount = 2 ∧ (driveMark false s).timing.clock = .holdover)
    ∧ (let s := { marked .holdover 24601 16 3 with config.markLead := true };
      (driveMark false s).timing.clock = .acquiring) := by decide +kernel

/-- EventsThatAreNotDueChangeNothing: nothing is due in `bound`; a pending step with its issue sample to come and one of
countdown 2; and one count short of each event. -/
theorem witness_EventsThatAreNotDueChangeNothing :
    (∀ st, bound.link.stations.get st = .self ∨ bound.link.stations.get st = .absent
      ∨ bound.link.stations.get st = .present .desk 0)
    ∧ bound.batch.record = .idle ∧ (bound.steps.get 0).pending = none ∧ (bound.steps.get 0).front = .good
    ∧ bound.head.windowAge < 9 ∧ (bound.phantom.recs.get 0).state = .off ∧ (bound.phantom.recs.get 0).persist < 49
    ∧ bound.phantom.overload < 19 ∧ bound.phantom.lineQuiet ≠ 19 ∧ bound.timing.quietCount < 999
    ∧ bound.timing.driveLeft = none ∧ bound.timing.lastOffset = none
    ∧ ((withStep 0 (fun r => { r with pending := some ⟨42, 1, true⟩ }) moving).steps.get 0).pending = some ⟨42, 1, true⟩
    ∧ ((withStep 0 (fun r => { r with pending := some ⟨42, 2, false⟩ }) moving).steps.get 0).pending
        = some ⟨42, 2, false⟩
    ∧ ((faulty 98).steps.get 0).front = .fault 98
    ∧ ((withPhantom 0 (.rising 2) .none bound).phantom.recs.get 0).state = .rising 2 := by decide +kernel

end Sys2Proof.Tests
end

section
/-! The station law is kept (Section 1.5, R13 to R15): it speaks of the own number and of the station table alone, most
commands leave both as they were, and the others set one entry, forget entries or write the table anew. -/

namespace Sys2Proof.Proofs

open Sys2Proof.Machine Sys2Proof.Laws

/-! ## What the law speaks of -/

/-- The own number and the station table: all that the station law speaks of. -/
def standing (s : State) : Station × Tab Presence 32 := (s.own, s.link.stations)

theorem standing_eq_iff {s t : State} :
    standing t = standing s ↔ t.own = s.own ∧ t.link.stations = s.link.stations := Prod.mk_inj

theorem stationLaw_of_standing {s t : State} (h : standing t = standing s) (hs : StationLaw s) : StationLaw t := by
  obtain ⟨ho, hst⟩ := standing_eq_iff.mp h
  unfold StationLaw
  rw [ho, hst]
  exact hs

/-- An entry that the law allows for another station: not SELF, and PRESENT only below age 200. -/
def AllowedElsewhere (p : Presence) : Prop := p ≠ .self ∧ ∀ role age, p = .present role age → age < 200

theorem allowed_present {role : Role} {age : Nat} (h : age < 200) : AllowedElsewhere (.present role age) :=
  ⟨by simp, fun _ _ e => by cases e; exact h⟩

theorem allowed_lost (role : Role) : AllowedElsewhere (.lost role) := ⟨by simp, by simp⟩

/-- One other station's entry is set to an allowed value. -/
theorem stationLaw_set {s t : State} {st : Station} {p : Presence} (hs : StationLaw s) (hne : st ≠ s.own)
    (hp : AllowedElsewhere p) (ho : t.own = s.own) (hst : t.link.stations = s.link.stations.set st p) :
    StationLaw t := by
  intro x
  rw [ho, hst, get_set]
  split
  · next hx => exact hx ▸ ⟨iff_of_false hp.1 hne, hp.2⟩
  · exact hs x

/-- A PRESENT entry is another station's. -/
theorem ne_own_of_present {s : State} {st : Station} {role : Role} {age : Nat} (hs : StationLaw s)
    (h : s.link.stations.get st = .present role age) : st ≠ s.own := by
  intro e
  rw [(hs st).1.mpr e] at h
  cases h

/-- The table as a start writes it (R15). -/
theorem stationLaw_start {t : State} (h : t.link.stations = (LinkController.start t.own).stations) : StationLaw t := by
  intro st
  rw [h, LinkController.start, get_gen]
  split <;> simp_all

/-! ## Ageing, loss and hearing -/

/-- R14: the entry becomes LOST; what the loss brings about in other blocks leaves the table alone. -/
theorem loseStation_stations (st : Station) (role : Role) (s : State) :
    (loseStation st role s).link.stations = s.link.stations.set st (.lost role) := by
  cases role <;> simp [loseStation]

theorem loseStation_stationLaw {s : State} {st : Station} {role : Role} (hs : StationLaw s) (hne : st ≠ s.own) :
    StationLaw (loseStation st role s) :=
  stationLaw_set hs hne (allowed_lost role) (by simp) (loseStation_stations st role s)

theorem ageStation_stationLaw {s : State} (st : Station) (hs : StationLaw s) : StationLaw (ageStation st s) := by
  unfold ageStation
  split
  case h_1 role age h =>
    have hne := ne_own_of_present hs h
    split
    · next hage => exact stationLaw_set hs hne (allowed_present hage) rfl rfl
    · exact loseStation_stationLaw hs hne
  all_goals exact hs

theorem ageStations_stationLaw {s : State} (hs : StationLaw s) : StationLaw (ageStations s) :=
  forEach_induct (fun st _ _ ht => ageStation_stationLaw st ht) hs

theorem stationLoss_stationLaw {s : State} (st : Station) (hs : StationLaw s) : StationLaw (stationLoss st s) := by
  unfold stationLoss whileRunning
  split
  · dsimp only
    split
    case h_1 role age h =>
      split
      · exact hs
      · exact loseStation_stationLaw hs (ne_own_of_present hs h)
    all_goals exact hs
  · exact hs

theorem recordHearing_stationLaw {s : State} {st : Station} {role : Role} (hs : StationLaw s) (hne : st ≠ s.own) :
    StationLaw (recordHearing st role s) := by
  refine stationLaw_set (p := .present role 0) hs hne (allowed_present (by decide)) ?_ ?_ <;> rw [recordHearing_frame]

/-- Hearing keeps the law where what follows from the kind keeps it. -/
theorem hear_stationLaw {s : State} {st : Station} {role : Role} {k : State → State}
    (hk : ∀ t, StationLaw t → StationLaw (k t)) (hs : StationLaw s) : StationLaw (hear st role k s) := by
  unfold hear
  split
  · split
    · exact hs
    · next hne => exact hk _ (recordHearing_stationLaw (s := messageEnded s) hs hne)
  · exact hs

theorem request_stationLaw {s : State} {e : Envelope} {k : State → State}
    (hk : ∀ t, StationLaw t → StationLaw (k t)) (hs : StationLaw s) : StationLaw (request e k s) :=
  hear_stationLaw (fun t ht => by split; exacts [hk t ht, ht]) hs

/-! ## What leaves own number and table as they were -/

theorem withHolder_standing {e : Envelope} {kind feed : Byte} {k : Feed → State → State} {s : State}
    (hk : ∀ f, standing (k f s) = standing s) : standing (withHolder e kind feed k s) = standing s := by
  unfold withHolder
  split
  · split
    · exact hk _
    · rfl
  · rfl

theorem takeLink_standing (source : Station) (group flags candidate locked backoff : Byte) (s : State) :
    standing (takeLink source group flags candidate locked backoff s) = standing s := by
  unfold takeLink
  (repeat' split) <;> simp [standing]

theorem takeClaim_standing (e : Envelope) (feed : Byte) (before : Tab FeedRec 6) (s : State) :
    standing (takeClaim e feed before s) = standing s := by
  unfold takeClaim
  (repeat' split) <;> simp [standing]

theorem takeRelease_standing (e : Envelope) (feed : Byte) (s : State) :
    standing (takeRelease e feed s) = standing s :=
  withHolder_standing fun f => by simp [standing]

theorem takeSetDemand_standing (e : Envelope) (feed first last flags gain : Byte) (s : State) :
    standing (takeSetDemand e feed first last flags gain s) = standing s :=
  withHolder_standing fun f => by (repeat' split) <;> simp [standing, setDemandDone]

theorem takeClearDemand_standing (e : Envelope) (feed first last : Byte) (s : State) :
    standing (takeClearDemand e feed first last s) = standing s :=
  withHolder_standing fun f => by (repeat' split) <;> simp [standing]

theorem lockPass_standing (e : Envelope) (kind : Byte) (f : Feed) (unlocking : Bool) (cs : List Chan)
    {k : Chan → State → State} (hk : ∀ c t, standing (k c t) = standing t) (s : State) :
    standing (lockPass e kind f unlocking cs k s) = standing s := by
  unfold lockPass
  split
  · rfl
  · exact forEach_keeps standing hk s

theorem takeLock_standing (e : Envelope) (feed first last mode : Byte) (s : State) :
    standing (takeLock e feed first last mode s) = standing s := by
  refine withHolder_standing fun f => ?_
  split
  · split
    · exact lockPass_standing _ _ _ _ _ (fun c t => by simp [standing]) s
    · rfl
  · rfl

theorem takeUnlock_standing (e : Envelope) (feed first last : Byte) (s : State) :
    standing (takeUnlock e feed first last s) = standing s := by
  refine withHolder_standing fun f => ?_
  split
  · exact lockPass_standing _ _ _ _ _ (fun c t => by simp [standing]) s
  · rfl

theorem takeHeadroomReset_standing (e : Envelope) (feed first last : Byte) (s : State) :
    standing (takeHeadroomReset e feed first last s) = standing s :=
  withHolder_standing fun f => by (repeat' split) <;> simp [standing]

theorem takeTone_standing (e : Envelope) (feed first last state : Byte) (s : State) :
    standing (takeTone e feed first last state s) = standing s :=
  withHolder_standing fun f => by (repeat' split) <;> simp [standing]

theorem takeOpen_standing (e : Envelope) (feed count : Byte) (s : State) :
    standing (takeOpen e feed count s) = standing s :=
  withHolder_standing fun f => by
    unfold decideOpen
    (repeat' split) <;> simp [standing]

theorem takeEntry_standing (e : Envelope) (feed chan flags gain : Byte) (s : State) :
    standing (takeEntry e feed chan flags gain s) = standing s := by
  unfold takeEntry botchEntry
  (repeat' split) <;> simp [standing]

theorem takeCommit_standing (e : Envelope) (s : State) : standing (takeCommit e s) = standing s := by
  unfold takeCommit
  (repeat' split) <;> simp [standing]

theorem takeCancel_standing (e : Envelope) (s : State) : standing (takeCancel e s) = standing s := by
  unfold takeCancel
  (repeat' split) <;> simp [standing]

theorem whileRunning_standing {f : State → State} (hf : ∀ s, standing (f s) = standing s) (s : State) :
    standing (whileRunning f s) = standing s := by
  unfold whileRunning
  split
  · exact hf s
  · rfl

theorem whileSending_standing {f : Sending → State → State} (hf : ∀ x s, standing (f x s) = standing s)
    (s : State) : standing (whileSending f s) = standing s :=
  whileRunning_standing (fun t => by split; exacts [hf _ t, rfl]) s

theorem lostAttempt_standing (bytes : List Byte) (s : State) : standing (lostAttempt bytes s) = standing s :=
  whileSending_standing (fun _ _ => by rfl) s

theorem transmissionFault_standing (s : State) : standing (transmissionFault s) = standing s :=
  whileSending_standing (fun _ _ => by rfl) s

theorem receptionDiscarded_standing (cause : ReceptionFault) (s : State) :
    standing (receptionDiscarded cause s) = standing s := by
  unfold receptionDiscarded
  split <;> rfl

theorem transmissionAttempt_standing (s : State) : standing (transmissionAttempt s) = standing s := by
  unfold transmissionAttempt beginAttempt
  (repeat' split) <;> rfl

theorem messageSent_standing (s : State) : standing (messageSent s) = standing s :=
  whileSending_standing (fun x t => by simp [standing]) s

theorem pairIdle_standing (s : State) : standing (pairIdle s) = standing s := by
  unfold pairIdle
  (repeat' split) <;> rfl

theorem batchWrite_standing (s : State) : standing (batchWrite s) = standing s := by
  unfold batchWrite
  (repeat' split) <;> simp [standing]

theorem batchTimeout_standing (s : State) : standing (batchTimeout s) = standing s := by
  unfold batchTimeout
  (repeat' split) <;> rfl

theorem samplePeriod_standing (frame : Tab Sample 32) (s : State) : standing (samplePeriod frame s) = standing s := by
  unfold samplePeriod
  split <;> simp [standing]

theorem compensation_standing (c : Chan) (s : State) : standing (compensation c s) = standing s := by
  unfold compensation
  (repeat' split) <;> simp [standing]

theorem retryWrite_standing (c : Chan) (code : Byte) (s : State) : standing (retryWrite c code s) = standing s := by
  unfold retryWrite
  (repeat' split) <;> simp [standing]

theorem windowClose_standing (s : State) : standing (windowClose s) = standing s := by
  unfold windowClose
  split <;> simp [standing]

theorem markEvent_standing (tick : Nat) (s : State) : standing (markEvent tick s) = standing s :=
  whileRunning_standing (fun t => by simp [standing]) s

theorem enterLockedAt_standing (tick : Nat) (s : State) : standing (enterLockedAt tick s) = standing s := by
  unfold enterLockedAt
  dsimp only
  split
  · exact markEvent_standing tick s
  · rfl

theorem declareMissing_standing (s : State) : standing (declareMissing s) = standing s :=
  whileRunning_standing (fun t => by split <;> simp [standing]) s

theorem enterHoldoverBy_standing (cause : BadMark) (s : State) : standing (enterHoldoverBy cause s) = standing s := by
  cases cause with
  | mark tick =>
    unfold enterHoldoverBy
    dsimp only
    split
    · exact markEvent_standing tick s
    · rfl
  | missing =>
    unfold enterHoldoverBy
    dsimp only
    split
    · exact declareMissing_standing s
    · rfl

theorem expireQuiet_standing (s : State) : standing (expireQuiet s) = standing s :=
  whileRunning_standing (fun t => by split <;> simp [standing]) s

theorem releaseMark_standing (s : State) : standing (releaseMark s) = standing s :=
  whileRunning_standing (fun t => by split <;> simp [standing]) s

theorem linkExpiry_standing (g : Group) (source : Station) (s : State) :
    standing (linkExpiry g source s) = standing s :=
  whileRunning_standing (fun t => by simp [standing]) s

theorem settleEnd_standing (c : Chan) (s : State) : standing (settleEnd c s) = standing s :=
  whileRunning_standing (fun t => by (repeat' split) <;> simp [standing]) s

theorem shortTrip_standing (c : Chan) (s : State) : standing (shortTrip c s) = standing s :=
  whileRunning_standing (fun t => by dsimp only; split <;> simp [standing, settlesAhead]) s

theorem shedLoad_standing (s : State) : standing (shedLoad s) = standing s :=
  whileRunning_standing (fun t => by split <;> simp [standing, settlesAhead]) s

theorem bankChange_standing (s : State) : standing (bankChange s) = standing s :=
  whileRunning_standing (fun t => by split <;> simp [standing, settlesAhead]) s

theorem powerGoodChange_standing (mainGood auxGood : Bool) (s : State) :
    standing (powerGoodChange mainGood auxGood s) = standing s := by
  unfold powerGoodChange
  split <;> rfl

theorem portLineChange_standing (f : Feed) (up : Bool) (s : State) :
    standing (whileRunning (lineChange f up) s) = standing s :=
  whileRunning_standing (fun t => by unfold lineChange; dsimp only; (repeat' split) <;> simp [standing]) s

theorem feedBlockSent_standing (f : Feed) (s : State) : standing (feedBlockSent f s) = standing s :=
  whileRunning_standing (fun _ => by rfl) s

/-! ## Box reset, starts and block starts -/

/-- R15: a box reset forgets every other station. -/
theorem resetBlocks_stations (rb : Readback) (s : State) :
    (resetBlocks rb s).link.stations = s.link.stations.map Presence.forget := by
  simp [resetBlocks]

theorem forget_eq_self (p : Presence) : p.forget = .self ↔ p = .self := by cases p <;> simp [Presence.forget]

theorem forget_ne_present (p : Presence) (role : Role) (age : Nat) : p.forget ≠ .present role age := by
  cases p <;> simp [Presence.forget]

theorem resetBlocks_stationLaw {s : State} (rb : Readback) (hs : StationLaw s) : StationLaw (resetBlocks rb s) := by
  have ho : (resetBlocks rb s).own = s.own := by simp
  intro st
  rw [resetBlocks_stations, ho, get_map, forget_eq_self]
  exact ⟨(hs st).1, fun role age h => absurd h (forget_ne_present _ role age)⟩

theorem takeBoxReset_stationLaw {s : State} (e : Envelope) (rb : Readback) (hs : StationLaw s) :
    StationLaw (takeBoxReset e rb s) := by
  unfold takeBoxReset
  split
  · exact stationLaw_of_standing (by simp [standing]) (resetBlocks_stationLaw rb hs)
  · exact stationLaw_of_standing rfl hs

theorem stationsAndBatch_stationLaw {s : State} (hs : StationLaw s) : StationLaw (stationsAndBatch s) := by
  have hbatch : ∀ t, StationLaw t → StationLaw (batchAtBlock t) :=
    fun t => stationLaw_of_standing (by simp [standing])
  unfold stationsAndBatch
  dsimp only
  split
  · exact hbatch _ (ageStations_stationLaw hs)
  · exact ageStations_stationLaw (hbatch _ hs)

theorem blockTasks_stationLaw {s : State} (i : BlockInputs) (hs : StationLaw s) : StationLaw (blockTasks i s) := by
  have hdrive : StationLaw (driveMark i.markLine s) := stationLaw_of_standing (by simp [standing]) hs
  exact stationLaw_of_standing (by simp [standing, blockTasks]) (stationsAndBatch_stationLaw hdrive)

theorem startUpEnd_stationLaw {s : State} (mainGood auxGood : Bool) (lines : Tab Bool 6) (i : BlockInputs)
    (hs : StationLaw s) : StationLaw (startUpEnd mainGood auxGood lines i s) := by
  unfold startUpEnd
  split
  · have hstart : StationLaw (startRunning mainGood auxGood lines s) := stationLaw_of_standing rfl hs
    exact stationLaw_of_standing (by simp [standing]) (blockTasks_stationLaw i hstart)
  · exact hs

theorem blockStart_stationLaw {s : State} (i : BlockInputs) (hs : StationLaw s) : StationLaw (blockStart i s) := by
  unfold blockStart whileRunning
  split
  · have hbegin : StationLaw (beginBlock (endBlock s)) := stationLaw_of_standing (by simp [standing]) hs
    exact stationLaw_of_standing (by simp [standing, blockWork]) (blockTasks_stationLaw (inputsAt i s.timing) hbegin)
  · exact hs

/-! ## Every command -/

/-- A request whose taking leaves own number and table as they were. -/
theorem request_stationLaw_of_standing {s : State} {e : Envelope} {k : State → State}
    (hk : ∀ t, standing (k t) = standing t) : StationLaw s → StationLaw (request e k s) :=
  request_stationLaw fun t => stationLaw_of_standing (hk t)

/-- A command that answers a next state keeps the law where that state meets it. -/
theorem stationLaw_of_next {u t : State} (h : Host.Outcome.next (φ := Fault) (ρ := Refusal) u = .next t)
    (hu : StationLaw u) : StationLaw t := Host.Outcome.next.inj h ▸ hu

theorem exec_stationLaw (c : Instr) {s t : State} (hs : StationLaw s) (h : exec c s = .next t) : StationLaw t := by
  have same {u : State} (hu : standing u = standing s) : StationLaw u := stationLaw_of_standing hu hs
  cases c with
  | powerOn i => exact stationLaw_of_next h (stationLaw_start rfl)
  | resetLine i => exact stationLaw_of_next h (stationLaw_start rfl)
  | resetLineHeld => exact stationLaw_of_next h (stationLaw_start rfl)
  | startUpEnd mg ag lines i => exact stationLaw_of_next h (startUpEnd_stationLaw mg ag lines i hs)
  | blockStart i => exact stationLaw_of_next h (blockStart_stationLaw i hs)
  | stationLoss st => exact stationLaw_of_next h (stationLoss_stationLaw st hs)
  | presence e => exact stationLaw_of_next h (hear_stationLaw (fun _ => id) hs)
  | reply e => exact stationLaw_of_next h (hear_stationLaw (fun _ => id) hs)
  | channelState e => exact stationLaw_of_next h (hear_stationLaw (fun _ => id) hs)
  | boxState e => exact stationLaw_of_next h (hear_stationLaw (fun _ => id) hs)
  | invalidMessage st kind => exact stationLaw_of_next h (hear_stationLaw (fun _ => id) hs)
  | linkCandidate e g fl ca lo ba =>
    exact stationLaw_of_next h
      (hear_stationLaw (fun t => stationLaw_of_standing (takeLink_standing e.source g fl ca lo ba t)) hs)
  | boxReset e rb => exact stationLaw_of_next h (request_stationLaw (fun _ => takeBoxReset_stationLaw e rb) hs)
  | claim e f =>
    exact stationLaw_of_next h (request_stationLaw_of_standing (takeClaim_standing e f s.feeds) hs)
  | release e f => exact stationLaw_of_next h (request_stationLaw_of_standing (takeRelease_standing e f) hs)
  | setDemand e f a b fl g =>
    exact stationLaw_of_next h (request_stationLaw_of_standing (takeSetDemand_standing e f a b fl g) hs)
  | clearDemand e f a b =>
    exact stationLaw_of_next h (request_stationLaw_of_standing (takeClearDemand_standing e f a b) hs)
  | lock e f a b m => exact stationLaw_of_next h (request_stationLaw_of_standing (takeLock_standing e f a b m) hs)
  | unlock e f a b => exact stationLaw_of_next h (request_stationLaw_of_standing (takeUnlock_standing e f a b) hs)
  | headroomReset e f a b =>
    exact stationLaw_of_next h (request_stationLaw_of_standing (takeHeadroomReset_standing e f a b) hs)
  | tone e f a b st => exact stationLaw_of_next h (request_stationLaw_of_standing (takeTone_standing e f a b st) hs)
  | batchOpen e f n => exact stationLaw_of_next h (request_stationLaw_of_standing (takeOpen_standing e f n) hs)
  | batchEntry e f c fl g =>
    exact stationLaw_of_next h (request_stationLaw_of_standing (takeEntry_standing e f c fl g) hs)
  | batchCommit e => exact stationLaw_of_next h (request_stationLaw_of_standing (takeCommit_standing e) hs)
  | batchCancel e => exact stationLaw_of_next h (request_stationLaw_of_standing (takeCancel_standing e) hs)
  | receptionDiscarded cause => exact stationLaw_of_next h (same (receptionDiscarded_standing cause s))
  | transmissionAttempt => exact stationLaw_of_next h (same (transmissionAttempt_standing s))
  | lostAttempt bytes => exact stationLaw_of_next h (same (lostAttempt_standing bytes s))
  | transmissionFault => exact stationLaw_of_next h (same (transmissionFault_standing s))
  | messageSent => exact stationLaw_of_next h (same (messageSent_standing s))
  | pairIdle => exact stationLaw_of_next h (same (pairIdle_standing s))
  | batchWrite => exact stationLaw_of_next h (same (batchWrite_standing s))
  | batchTimeout => exact stationLaw_of_next h (same (batchTimeout_standing s))
  | samplePeriod frame => exact stationLaw_of_next h (same (samplePeriod_standing frame s))
  | compensation c => exact stationLaw_of_next h (same (compensation_standing c s))
  | retryWrite c code => exact stationLaw_of_next h (same (retryWrite_standing c code s))
  | windowClose => exact stationLaw_of_next h (same (windowClose_standing s))
  | markEvent tick => exact stationLaw_of_next h (same (markEvent_standing tick s))
  | enterLocked tick => exact stationLaw_of_next h (same (enterLockedAt_standing tick s))
  | enterHoldover cause => exact stationLaw_of_next h (same (enterHoldoverBy_standing cause s))
  | missingMark => exact stationLaw_of_next h (same (declareMissing_standing s))
  | quietCountExpiry => exact stationLaw_of_next h (same (expireQuiet_standing s))
  | markLineRelease => exact stationLaw_of_next h (same (releaseMark_standing s))
  | linkEntryExpiry g source => exact stationLaw_of_next h (same (linkExpiry_standing g source s))
  | settleEnd c => exact stationLaw_of_next h (same (settleEnd_standing c s))
  | shortTrip c => exact stationLaw_of_next h (same (shortTrip_standing c s))
  | shedLoad => exact stationLaw_of_next h (same (shedLoad_standing s))
  | bankChange => exact stationLaw_of_next h (same (bankChange_standing s))
  | powerGoodChange mg ag => exact stationLaw_of_next h (same (powerGoodChange_standing mg ag s))
  | portLineChange f up => exact stationLaw_of_next h (same (portLineChange_standing f up s))
  | feedBlockSent f => exact stationLaw_of_next h (same (feedBlockSent_standing f s))

/-- Settles O11: a step on an empty queue idles, and any other runs one command. -/
theorem stepKeepsStationLaw : Obligations.StepKeepsStationLaw := by
  intro s t hs h
  unfold step at h
  split at h
  · exact stationLaw_of_next h hs
  · next c rest _ => exact exec_stationLaw c (s := { s with pending := rest }) hs h

end Sys2Proof.Proofs
end

section
/-! Hearing (R1, R9 to R13, R36): every heard message goes through `hear`, what a hearing records is said once by case,
and the statements about messages that are heard follow from that. -/

namespace Sys2Proof.Proofs

open Sys2Proof.Machine Sys2Proof.Laws

variable {s : State}

/-! ## What can be heard -/

/-- R1, R6: the part runs, and the pair has been idle or holds what is left of a lost attempt. -/
theorem canHear_iff :
    s.canHear = true ↔ s.running = true ∧ (s.link.pair = .idle ∨ ∃ check, s.link.pair = .receiving check) := by
  unfold State.canHear
  cases s.link.pair <;> simp

theorem hear_unheard (st : Station) (role : Role) (k : State → State) (h : s.canHear = false) :
    hear st role k s = s := by
  simp [hear, h]

theorem hear_own (role : Role) (k : State → State) (h : s.canHear = true) :
    hear s.own role k s = enterClash (messageEnded s) := by
  simp [hear, h]

theorem hear_other {st : Station} (role : Role) (k : State → State) (h : s.canHear = true) (hne : st ≠ s.own) :
    hear st role k s = k (recordHearing st role (messageEnded s)) := by
  simp [hear, h, hne]

/-- R12: a request whose target is neither this box nor ALL is heard for presence alone. -/
theorem request_not_for_us {e : Envelope} (k : State → State) (h : s.canHear = true) (hne : e.source ≠ s.own)
    (hu : forUs e s = false) : request e k s = heard e s := by
  have hu' : forUs e (heard e s) = false := by
    have ho : (heard e s).own = s.own := by simp [heard]
    rw [forUs, ho]
    exact hu
  unfold request
  rw [hear_other .desk _ h hne]
  exact if_neg (by rw [← heard, hu']; decide)

/-- Every desk request goes through `request` with its envelope. -/
theorem exec_eq_request {m : Instr} {e : Envelope} (h : m.deskRequest = some e) (s : State) :
    ∃ k, exec m s = .next (request e k s) := by
  cases m <;> simp only [Instr.deskRequest, Option.some.injEq, reduceCtorEq] at h <;> subst h <;> exact ⟨_, rfl⟩

/-- Every message with a source goes through `hear` with that source. -/
theorem exec_eq_hear {m : Instr} {st : Station} (h : m.sender = some st) (s : State) :
    ∃ role k, exec m s = .next (hear st role k s) := by
  cases m <;> simp only [Instr.sender, Option.some.injEq, reduceCtorEq] at h <;> subst h <;> exact ⟨_, _, rfl⟩

/-- Settles O21: whatever a message does, it does behind `hear`, and a desk request behind `request`. -/
theorem messagesThatGoNoFurther : Obligations.MessagesThatGoNoFurther := by
  refine ⟨fun m st s hm hc => ?_, fun m s hm hc => ?_, fun m e s hm hc hne hu => ?_⟩
  · obtain ⟨role, k, hk⟩ := exec_eq_hear hm s
    rw [hk, hear_unheard st role k hc]
  · obtain ⟨role, k, hk⟩ := exec_eq_hear hm s
    rw [hk, hear_own role k hc]
    rfl
  · obtain ⟨k, hk⟩ := exec_eq_request hm s
    rw [hk, request_not_for_us k hc hne hu]

/-! ## What a hearing records -/

/-- The station's entry stands ABSENT or LOST: a message from it as a desk is an arrival (R13). -/
def Away (s : State) (st : Station) : Prop :=
  s.link.stations.get st = .absent ∨ ∃ r, s.link.stations.get st = .lost r

/-- The station's entry is PRESENT with age 0 and nothing else has changed. -/
def withPresent (st : Station) (role : Role) (s : State) : State :=
  { s with link.stations := s.link.stations.set st (.present role 0) }

/-- R13, R36: the arrival of a desk also resumes its feeds. -/
theorem recordHearing_arrival {st : Station} (h : Away s st) :
    recordHearing st .desk s = setFeeds (s.feeds.map (resume st)) (withPresent st .desk s) := by
  obtain h | ⟨r, h⟩ := h <;> simp only [recordHearing, h] <;> rfl

/-- R13: any other hearing sets the entry and no more. -/
theorem recordHearing_no_arrival {st : Station} {role : Role} (h : ¬ (role = .desk ∧ Away s st)) :
    recordHearing st role s = withPresent st role s := by
  unfold recordHearing
  dsimp only
  split
  · next he => exact absurd ⟨rfl, .inl he⟩ h
  · next r he => exact absurd ⟨rfl, .inr ⟨r, he⟩⟩ h
  · rfl

/-- R36: a feed ORPHANED with the desk as holder is BOUND to it again. -/
theorem resume_of_orphaned {st : Station} {r : FeedRec} {since : Word16} (h : r.binding = .orphaned st since) :
    resume st r = { r with binding := .bound st since } := by
  simp [resume, h]

/-- R36: every other feed record stands. -/
theorem resume_of_not_orphaned {st : Station} {r : FeedRec} (h : ∀ since, r.binding ≠ .orphaned st since) :
    resume st r = r := by
  unfold resume
  split
  · next holder since hb => exact if_neg fun e : holder = st => h since (e ▸ hb)
  · rfl

/-- A table of which one record changes is another table. -/
theorem map_ne_of_get {α : Type} {n : Nat} {t : Tab α n} {g : α → α} {i : Fin n} (h : g (t.get i) ≠ t.get i) :
    t.map g ≠ t :=
  fun e => h ((get_map g t i).symm.trans (congrArg (fun u => u.get i) e))

/-- R165: BOX stands in the list after a change of a feed record. -/
theorem box_mem_setFeeds {t : Tab FeedRec 6} (h : t ≠ s.feeds) : Key.box ∈ (setFeeds t s).report.keys := by
  rw [setFeeds, if_neg h]
  exact (mem_ask .box .box).mpr (.inr rfl)

/-- R36, R42: what an arrival makes of a feed that stands ORPHANED with the desk as holder; the report says so. -/
theorem recordHearing_resumes {st : Station} {f : Feed} {since : Word16} (ha : Away s st)
    (hf : (s.feeds.get f).binding = .orphaned st since) :
    (recordHearing st .desk s).feeds.get f = { s.feeds.get f with binding := .bound st since }
      ∧ Key.box ∈ (recordHearing st .desk s).report.keys := by
  have hmoves : resume st (s.feeds.get f) ≠ s.feeds.get f := fun e => by
    rw [resume_of_orphaned hf] at e
    cases (congrArg FeedRec.binding e).trans hf
  rw [recordHearing_arrival ha, setFeeds_feeds, get_map]
  exact ⟨resume_of_orphaned hf, box_mem_setFeeds (map_ne_of_get hmoves)⟩

/-- R36: a feed that does not stand so stays as it is. -/
theorem recordHearing_feed_stands {st : Station} {role : Role} {f : Feed}
    (hf : ∀ since, (s.feeds.get f).binding ≠ .orphaned st since) :
    (recordHearing st role s).feeds.get f = s.feeds.get f := by
  by_cases h : role = .desk ∧ Away s st
  · obtain ⟨rfl, ha⟩ := h
    rw [recordHearing_arrival ha, setFeeds_feeds, get_map, resume_of_not_orphaned hf]
  · rw [recordHearing_no_arrival h]
    rfl

/-- A hearing leaves slots and events of the report queue as they were. -/
theorem recordHearing_report (st : Station) (role : Role) :
    (recordHearing st role s).report = { s.report with keys := (recordHearing st role s).report.keys } := by
  have hslots : (recordHearing st role s).report.slots = s.report.slots := by simp
  have hevents : (recordHearing st role s).report.events = s.report.events := by simp
  change _ = Report.mk _ _ _
  rw [← hslots, ← hevents]

/-- R11, R13: what a heard message makes of the link controller. -/
theorem heard_link (st : Station) (role : Role) :
    (recordHearing st role (messageEnded s)).link
      = { s.link with pair := .ended, stations := s.link.stations.set st (.present role 0) } := by
  rw [recordHearing_frame]
  rfl

/-- A heard message changes only link, feeds and report.keys. -/
theorem heard_frame (st : Station) (role : Role) :
    recordHearing st role (messageEnded s) = { s with
      link := (recordHearing st role (messageEnded s)).link
      feeds := (recordHearing st role (messageEnded s)).feeds
      report := { s.report with keys := (recordHearing st role (messageEnded s)).report.keys } } := by
  have hr := recordHearing_report (s := messageEnded s) st role
  conv_lhs => rw [recordHearing_frame, hr]
  rw [heard_link]
  rfl

/-- Settles O22, by whether the message is the arrival of a desk. -/
theorem presenceIsRecorded : Obligations.PresenceIsRecorded := by
  intro e s hc hne
  refine ⟨heard e s, congrArg Host.Outcome.next (hear_other .desk id hc hne), ?_, fun f since hf ha => ?_,
    fun f hf => ?_, fun hp => ?_⟩
  · rw [← heard_link]
    exact heard_frame e.source .desk
  · exact recordHearing_resumes (s := messageEnded s) ha hf
  · exact recordHearing_feed_stands (s := messageEnded s) hf
  · obtain ⟨r, age, hp⟩ := hp
    have hnot : ¬ Away s e.source := by simp [Away, hp]
    rw [heard, recordHearing_no_arrival (s := messageEnded s) fun h => hnot h.2]
    exact ⟨rfl, rfl⟩

/-! ## Messages heard for presence alone, and invalid messages -/

/-- R12, R13: a report of another box sets its entry and no more. -/
theorem heardOnly_box {st : Station} (hc : s.canHear = true) (hne : st ≠ s.own) :
    heardOnly st .box s
      = { s with link := { s.link with pair := .ended, stations := s.link.stations.set st (.present .box 0) } } := by
  rw [heardOnly, hear_other .box id hc hne, recordHearing_no_arrival (by simp)]
  rfl

/-- R13: the kinds that are not a box's are a desk's. -/
theorem roleOf_eq_desk {kind : Byte} :
    roleOf kind = .desk ↔ ¬ (kind = 32 ∨ kind = 33 ∨ kind = 34 ∨ kind = 35) := by
  unfold roleOf
  split <;> simp_all

/-- Settles O23: the hearing of each message, with the error counted where it is invalid. -/
theorem otherMessagesAreHeard : Obligations.OtherMessagesAreHeard := by
  refine ⟨fun e s hc hne => ?_, fun st kind s hc hne => ?_⟩
  · have h := congrArg (Host.Outcome.next (φ := Fault) (ρ := Refusal)) (heardOnly_box hc hne)
    exact ⟨h, h, h⟩
  · refine ⟨countError (recordHearing st (roleOf kind) (messageEnded s)),
      congrArg Host.Outcome.next (hear_other (roleOf kind) countError hc hne), ?_, ?_, fun f since ha hf => ?_,
      fun f hf => ?_, fun hno => ?_⟩
    · rw [countError, heard_link]
      rfl
    · conv_lhs => rw [heard_frame]
      rfl
    · obtain ⟨hkind, haway⟩ := ha
      rw [roleOf_eq_desk.mpr hkind]
      exact recordHearing_resumes (s := messageEnded s) haway hf
    · exact recordHearing_feed_stands (s := messageEnded s) hf
    · rw [recordHearing_no_arrival (s := messageEnded s) fun h => hno ⟨roleOf_eq_desk.mp h.1, h.2⟩]
      exact ⟨rfl, rfl⟩

/-! ## Discarded receptions and the idle pair -/

/-- R10: a bad check ends the message; a framing fault makes the part wait for idle. -/
theorem discardReception_eq (cause : ReceptionFault) : discardReception cause s = { s with
    link := { s.link with errors := s.link.errors + 1, pair := if cause = .badCheck then .ended else .waiting } } := by
  cases cause <;> rfl

/-- Settles O24, by what the pair is doing. -/
theorem discardedReceptionsAndIdle : Obligations.DiscardedReceptionsAndIdle := by
  refine ⟨fun s => canHear_iff, fun cause s hc => congrArg Host.Outcome.next ?_, fun s hr hp =>
    congrArg Host.Outcome.next ?_, fun s x hp => congrArg Host.Outcome.next ?_, fun s check hr hp =>
    congrArg Host.Outcome.next ?_⟩
  · rw [receptionDiscarded, if_pos hc, discardReception_eq]
  · obtain hp | hp := hp <;> simp [pairIdle, hr, hp]
  · obtain hp | hp := hp <;> simp [pairIdle, hp]
  · simp [pairIdle, hr, hp, discardReception]

end Sys2Proof.Proofs
end

section
/-! Getting onto the pair (R5 to R9, R162, R163): which key an attempt takes, and what becomes of the keys and of what
they report when the attempt is lost, breaks off, or is sent. -/

namespace Sys2Proof.Proofs

open Sys2Proof.Machine Sys2Proof.Laws

variable {s : State}

/-! ## The first key -/

/-- R162: the four searches of the first key go by class. -/
theorem firstKey_eq_by_rank (l : List Key) :
    firstKey l = (l.find? fun k => k.rank == 0).or ((l.find? fun k => k.rank == 1).or
      ((l.find? fun k => k.rank == 2).or (l.find? fun k => k.rank == 3))) := by
  have h0 : Key.isReply = fun k => k.rank == 0 := by funext k; cases k <;> rfl
  have h1 : Key.isLink = fun k => k.rank == 1 := by funext k; cases k <;> rfl
  have h2 : Key.isChannel = fun k => k.rank == 2 := by funext k; cases k <;> rfl
  have h3 : Key.isBox = fun k => k.rank == 3 := by funext k; cases k <;> rfl
  rw [firstKey, h0, h1, h2, h3]

theorem rank_le_three (k : Key) : k.rank ≤ 3 := by cases k <;> simp [Key.rank]

/-- R162: a key with none of its class or an earlier one before it, and none of an earlier class after it, is first. -/
theorem firstKey_of_split {before after : List Key} {k : Key} (hb : ∀ x ∈ before, k.rank < x.rank)
    (ha : ∀ x ∈ after, k.rank ≤ x.rank) : firstKey (before ++ k :: after) = some k := by
  have hfound : (before ++ k :: after).find? (fun x => x.rank == k.rank) = some k := by
    have hnone : before.find? (fun x => x.rank == k.rank) = none :=
      List.find?_eq_none.mpr fun x hx => by simpa using (hb x hx).ne'
    simp [List.find?_append, hnone]
  have hearlier : ∀ n < k.rank, (before ++ k :: after).find? (fun x => x.rank == n) = none := by
    intro n hn
    refine List.find?_eq_none.mpr fun x hx => ?_
    have hle : k.rank ≤ x.rank := by
      obtain hx | hx := List.mem_append.mp hx
      · exact (hb x hx).le
      · obtain rfl | hx := List.mem_cons.mp hx
        · exact le_rfl
        · exact ha x hx
    simpa using (hn.trans_le hle).ne'
  rw [firstKey_eq_by_rank]
  have hk := rank_le_three k
  obtain hr | hr | hr | hr : k.rank = 0 ∨ k.rank = 1 ∨ k.rank = 2 ∨ k.rank = 3 := by omega
  all_goals
    rw [hr] at hfound hearlier
    simp [hfound, hearlier]

/-! ## Attempts -/

/-- R163: an attempt begins with the snapshot of that moment, and nothing set again since. -/
theorem freshAttempt_eq (s : State) (k : Key) : freshAttempt s k = ⟨snapshot s k, 0, 0, false⟩ := by cases k <;> rfl

theorem beginAttempt_of_firstKey {k : Key} (h : firstKey s.report.keys = some k) :
    beginAttempt s = { s with link := { s.link with pair := .sending (freshAttempt s k) } } := by
  rw [beginAttempt, h, freshAttempt_eq]

/-- Settles O25: the guard of an attempt, then the first key. -/
theorem attemptTakesTheFirstKey : Obligations.AttemptTakesTheFirstKey := by
  refine ⟨fun s before after k hr hc hp hk hb ha => congrArg Host.Outcome.next ?_,
    fun s h => congrArg Host.Outcome.next ?_⟩
  · have hfirst : firstKey s.report.keys = some k := hk ▸ firstKey_of_split hb ha
    rw [transmissionAttempt, if_pos (by simp [hr, hc, hp]), beginAttempt_of_firstKey hfirst]
  · unfold transmissionAttempt
    split
    · next hgo =>
      have hkeys : s.report.keys = [] := by
        obtain hc | hp | hk := h
        · simp [hc] at hgo
        · simp [hp] at hgo
        · exact hk
      rw [beginAttempt, hkeys]
      rfl
    · rfl

/-! ## Attempts that end -/

/-- An attempt in progress is what the three ends of an attempt act on. -/
theorem whileSending_of_sending {x : Sending} (f : Sending → State → State) (hr : s.running = true)
    (hp : s.link.pair = .sending x) : whileSending f s = f x s := by
  unfold whileSending whileRunning
  rw [if_pos hr]
  simp only [hp]

/-- Settles O26: both ends of an attempt change pair and error count alone. -/
theorem attemptsThatAreNoSends : Obligations.AttemptsThatAreNoSends := fun _ _ hr hp =>
  ⟨fun _ => congrArg Host.Outcome.next (whileSending_of_sending _ hr hp),
    congrArg Host.Outcome.next (whileSending_of_sending _ hr hp)⟩

/-! ## What a sent message clears -/

/-- R163: a bit stays where it was set, unless it was carried and not set again. -/
theorem clearCarried_getLsbD {n : Nat} (now carried again : BitVec n) (i : Nat) :
    (clearCarried now carried again).getLsbD i = true
      ↔ now.getLsbD i = true ∧ ¬ (carried.getLsbD i = true ∧ again.getLsbD i = false) := by
  unfold clearCarried
  by_cases hi : i < n
  · simp only [BitVec.getLsbD_and, BitVec.getLsbD_not, hi, decide_true, Bool.true_and]
    cases now.getLsbD i <;> cases carried.getLsbD i <;> cases again.getLsbD i <;> decide
  · simp [BitVec.getLsbD_of_ge now i (Nat.le_of_not_lt hi)]

/-- R163: the events of the channel whose key was sent; the others stand. -/
theorem clearSent_event (x : Sending) (s : State) (c : Chan) (i : Nat) :
    ((clearSent x s).report.events.get c).getLsbD i = true ↔ (s.report.events.get c).getLsbD i = true
      ∧ ¬ (x.snap.key = .channel c ∧ x.snap.bits.getLsbD i = true ∧ x.again.getLsbD i = false) := by
  unfold clearSent
  split
  case h_1 d hk =>
    rw [hk, get_modify]
    split
    · next hcd => simp [hcd, clearCarried_getLsbD]
    · next hcd => simp [Ne.symm hcd]
  case h_3 st hk => split <;> simp [hk]
  all_goals simp_all

/-- R163: the batch flags, where BOX was sent. -/
theorem clearSent_flag (x : Sending) (s : State) (i : Nat) :
    (clearSent x s).batch.flags.getLsbD i = true ↔ s.batch.flags.getLsbD i = true
      ∧ ¬ (x.snap.key = .box ∧ x.snap.flags.getLsbD i = true ∧ x.againFlags.getLsbD i = false) := by
  unfold clearSent
  split
  case h_2 hk => simp [hk, clearCarried_getLsbD]
  case h_3 st hk => split <;> simp [hk]
  all_goals simp_all

/-- R163: the slot whose outcome was sent is emptied, unless a newer outcome stands there. -/
theorem clearSent_slot (x : Sending) (s : State) (st : Station) :
    (clearSent x s).report.slots.get st
      = if x.snap.key = .reply st ∧ x.newer = false then none else s.report.slots.get st := by
  unfold clearSent
  split
  case h_3 d hk =>
    split
    · next hnew => simp [hnew]
    · next hnew =>
      rw [hk, get_set]
      by_cases hd : st = d
      · simp [hd, hnew]
      · simp [hd, Ne.symm hd]
  all_goals simp_all

/-- R163: a newer outcome asks for its REPLY again; otherwise the keys stand. -/
theorem clearSent_keys (x : Sending) (s : State) :
    (clearSent x s).report.keys
      = if x.newer = true ∧ x.snap.key.rank = 0 then (ask x.snap.key s).report.keys else s.report.keys := by
  unfold clearSent
  split
  case h_3 st hk => split <;> simp_all [Key.rank]
  all_goals simp_all [Key.rank]

/-- A sent message as it leaves the pair: ended, its key taken from the list (R7, R162). -/
def keyTaken (k : Key) (s : State) : State :=
  { s with link.pair := .ended, report.keys := s.report.keys.filter (fun x => x != k) }

theorem messageSent_eq {x : Sending} (hr : s.running = true) (hp : s.link.pair = .sending x) :
    messageSent s = clearSent x (keyTaken x.snap.key s) :=
  whileSending_of_sending _ hr hp

theorem mem_keyTaken (k k' : Key) : k' ∈ (keyTaken k s).report.keys ↔ k' ∈ s.report.keys ∧ k' ≠ k := by
  simp [keyTaken]

/-- R162: the key sent leaves the list, and stands last in it where a newer outcome asks for it again. -/
theorem clearSent_keyTaken_keys (x : Sending) (s : State) :
    (clearSent x (keyTaken x.snap.key s)).report.keys = s.report.keys.filter (fun k => decide (k ≠ x.snap.key))
      ++ (if x.newer = true ∧ x.snap.key.rank = 0 then [x.snap.key] else []) := by
  have hgone : x.snap.key ∉ (keyTaken x.snap.key s).report.keys := by simp [mem_keyTaken]
  have htaken : (keyTaken x.snap.key s).report.keys = s.report.keys.filter (fun k => decide (k ≠ x.snap.key)) := by
    refine List.filter_congr fun k _ => ?_
    simp [bne, Bool.beq_eq_decide_eq]
  rw [clearSent_keys]
  split
  · rw [ask]
    dsimp only
    rw [if_neg hgone, htaken]
  · rw [htaken, List.append_nil]

theorem rank_eq_zero {k : Key} : k.rank = 0 ↔ ∃ st, k = .reply st := by cases k <;> simp [Key.rank]

/-- Sending changes pair, report and batch, and nothing else. -/
theorem clearSent_keyTaken_frame (x : Sending) (s : State) :
    clearSent x (keyTaken x.snap.key s) = { s with
      link := { s.link with pair := .ended }
      report := (clearSent x (keyTaken x.snap.key s)).report
      batch := (clearSent x (keyTaken x.snap.key s)).batch } := by
  unfold clearSent
  (repeat' split) <;> rfl

/-- Settles O27, field by field of what the sent message clears. -/
theorem sentMessageClearsWhatItCarried : Obligations.SentMessageClearsWhatItCarried := by
  intro s x hr hp
  have hkeys := clearSent_keyTaken_keys x s
  refine ⟨clearSent x (keyTaken x.snap.key s), congrArg Host.Outcome.next (messageSent_eq hr hp),
    clearSent_keyTaken_frame x s, by simp [keyTaken], hkeys, fun k hk => ?_, ?_,
    clearSent_event x (keyTaken x.snap.key s), clearSent_flag x (keyTaken x.snap.key s),
    clearSent_slot x (keyTaken x.snap.key s)⟩
  · rw [hkeys]
    split <;> simp [hk]
  · rw [hkeys, ← rank_eq_zero]
    split
    · next h => simp [h]
    · next h => simpa using h

end Sys2Proof.Proofs
end

section
/-! The bytes that the part sends (R3, R112, R178 to R180): numbers, bodies, headers and rows, each against the manual's
layout. -/

namespace Sys2Proof.Proofs

open Sys2Proof.Machine Sys2Proof.Laws

/-! ## Numbers -/

/-- R178: the byte at a place of a number in a wider word. -/
theorem extract_byte {w : Nat} (x : BitVec w) (k : Nat) :
    x.extractLsb' k 8 = BitVec.ofNat 8 (x.toNat / 2 ^ k) := by
  apply BitVec.eq_of_toNat_eq
  simp [Nat.shiftRight_eq_div_pow]

/-- R178: a 16-bit number, most significant byte first. -/
theorem be16_eq (w : Word16) : be16 w = [BitVec.ofNat 8 (w.toNat / 256), BitVec.ofNat 8 w.toNat] := by
  simp [be16, extract_byte]

/-- The two bytes of a number that is taken modulo 2^16. -/
theorem be16_ofNat (n : Nat) : be16 (BitVec.ofNat 16 n) = [BitVec.ofNat 8 (n / 256), BitVec.ofNat 8 n] := by
  have hhi : n % 65536 / 256 % 256 = n / 256 % 256 := by omega
  rw [be16_eq, BitVec.toNat_ofNat]
  simp only [List.cons.injEq, and_true]
  exact ⟨BitVec.eq_of_toNat_eq (by simp [hhi]), BitVec.eq_of_toNat_eq (by simp)⟩

/-- R178, R180: a word of a row is three bytes. -/
theorem wordBytes_eq (x : Sample) :
    wordBytes x = [BitVec.ofNat 8 (x.toNat / 65536), BitVec.ofNat 8 (x.toNat / 256), BitVec.ofNat 8 x.toNat] := by
  simp [wordBytes, extract_byte]

/-- R179: the outcome codes are the places in their list. -/
theorem outcome_code (o : OutcomeCode) :
    o.code = [OutcomeCode.done, .notHolder, .badRange, .noFeed, .feedTaken, .locked, .fixed, .busy, .notOwner,
      .sequence, .noBatch, .shortBatch, .timedOut].idxOf o := by
  cases o <;> rfl

/-! ## The feed list of CHANNEL STATE -/

/-- The feed list is five bytes for each entry. -/
theorem feedList_length (s : State) (c : Chan) : (feedList s c).length = 5 * entryCount s c := by
  unfold feedList entryCount
  induction allFeeds with
  | nil => rfl
  | cons f l ih =>
    rw [List.flatMap_cons, List.length_append, ih, List.filter_cons]
    cases (s.demand.get c).entries.get f with
    | none => simp
    | some e => simp [entryBytes, be16]; omega

theorem entryCount_le (s : State) (c : Chan) : entryCount s c ≤ 6 :=
  (List.length_filter_le _ allFeeds).trans (by simp [allFeeds])

theorem channelBody_length (s : State) (c : Chan) : (channelBody s c).length = 16 + 5 * entryCount s c := by
  have hlock : (s.gain.recs.get c).lock.bytes.length = 2 := by cases (s.gain.recs.get c).lock <;> rfl
  simp only [channelBody, List.length_append, List.length_cons, List.length_nil, hlock, be16, feedList_length]

/-- The five bytes of an entry in CHANNEL STATE. -/
def entryLayout (f : Feed) (x : Entry) (t : Trim) : List Byte :=
  [byte (f.val + at_ x.mute 3 + at_ x.phantom 4 + at_ x.clamped 5 + at_ t.short 6), gainByte x.gain, gainByte t.count,
    byte (x.last.toNat / 256), byte x.last.toNat]

/-- The entries of a channel in feed order. -/
def feedsLayout (s : State) (c : Chan) : List Byte :=
  (List.finRange 6).flatMap fun f => match s.entry c f with
    | none => []
    | some x => entryLayout f x ((s.gain.recs.get c).trims.get f)

theorem feedList_eq (s : State) (c : Chan) : feedList s c = feedsLayout s c := by
  refine List.flatMap_congr fun f _ => ?_
  rw [State.entry]
  cases (s.demand.get c).entries.get f with
  | none => rfl
  | some x => simp only [entryBytes, be16_eq]; rfl

/-- The lock code of CHANNEL STATE with its bytes 5 and 6. -/
def lockLayout : Lock → Nat × Byte × Byte
  | .opened => (0, 0, 0)
  | .held f n => (1, byte f.val, gainByte n)
  | .fixed f n => (2, byte f.val, gainByte n)

theorem lock_code (l : Lock) : l.code = (lockLayout l).1 := by cases l <;> rfl

theorem lock_bytes (l : Lock) : l.bytes = [(lockLayout l).2.1, (lockLayout l).2.2] := by cases l <;> rfl

/-- The front-end bit of CHANNEL STATE, in its place. -/
def frontLayout : FrontEnd → Nat
  | .good => 0
  | .fault _ => 2

theorem front_bit (f : FrontEnd) : at_ f.isFault 1 = frontLayout f := by cases f <;> rfl

/-- R180: CHANNEL STATE byte for byte. -/
theorem channelBody_eq (s : State) (c : Chan) : channelBody s c =
    [byte (c.val + 1), gainByte (s.steps.get c).applied, gainByte (s.gain.recs.get c).target,
      gainByte (s.gain.recs.get c).beff,
      byte (at_ (s.steps.get c).moving 0 + frontLayout (s.steps.get c).front
        + 4 * (lockLayout (s.gain.recs.get c).lock).1 + 16 * guardCode (s.config.chans.get c).guard),
      (lockLayout (s.gain.recs.get c).lock).2.1, (lockLayout (s.gain.recs.get c).lock).2.2,
      byte ((s.phantom.recs.get c).state.code + 16 * (s.phantom.recs.get c).cause.code),
      byte (s.phantom.recs.get c).current, (s.head.recs.get c).episodes, (s.phantom.recs.get c).shorts,
      (s.phantom.recs.get c).sheds, (s.phantom.recs.get c).denials]
    ++ [byte ((s.report.events.get c).toNat / 256), byte (s.report.events.get c).toNat]
    ++ [byte ((feedsLayout s c).length / 5)] ++ feedsLayout s c := by
  have hcount : entryCount s c = (feedsLayout s c).length / 5 := by rw [← feedList_eq, feedList_length]; omega
  have hevents : ((s.report.events.get c).setWidth 16).toNat = (s.report.events.get c).toNat :=
    BitVec.toNat_setWidth_of_le (by decide)
  rw [channelBody, be16_eq, hevents, hcount, feedList_eq, lock_code, lock_bytes, front_bit]
  rfl

theorem feedBytes_length (r : FeedRec) : (feedBytes r).length = 4 := by
  unfold feedBytes
  split <;> rfl

theorem boxBody_length (s : State) : (boxBody s).length = 35 := by
  have hbatch : (batchBytes s.batch).length = 3 := by
    unfold batchBytes
    split <;> rfl
  simp [boxBody, be16, hbatch, feedBytes_length, allFeeds, List.finRange_succ]

/-- R180: the four bytes of a feed record. -/
def feedLayout (r : FeedRec) : List Byte :=
  match r.binding with
  | .absent => [byte (at_ r.lineUp 2), 0, 0, 0]
  | .free => [byte (1 + at_ r.lineUp 2), 0, 0, 0]
  | .bound h since => [byte (2 + at_ r.lineUp 2), byte h.val, byte (since.toNat / 256), byte since.toNat]
  | .orphaned h since => [byte (3 + at_ r.lineUp 2), byte h.val, byte (since.toNat / 256), byte since.toNat]

theorem feedBytes_eq (r : FeedRec) : feedBytes r = feedLayout r := by
  unfold feedBytes feedLayout
  cases r.binding <;> simp only [be16_eq] <;> rfl

/-- R180: the batch record's three bytes, its code and flags first. -/
def batchLayout (b : Batch) : List Byte :=
  match b.record with
  | .idle => [byte (16 * b.flags.toNat), 0, 0]
  | .loading x _ => [byte (1 + 16 * b.flags.toNat), byte x.owner.val, byte x.feed.val]
  | .committing x => [byte (2 + 16 * b.flags.toNat), byte x.owner.val, byte x.feed.val]

theorem batchBytes_eq (b : Batch) : batchBytes b = batchLayout b := by
  obtain ⟨r, flags⟩ := b
  cases r with
  | idle => simp [batchBytes, batchLayout, BatchRecord.code, BatchRecord.body]
  | loading x age => rfl
  | committing x => rfl

/-- R180: BOX STATE byte for byte. -/
theorem boxBody_eq (s : State) : boxBody s =
    [byte (s.timing.clock.code + 4 * s.phantom.bank.val + at_ (decide (s.config.status = .defaults)) 4
      + at_ s.gain.full 5)]
    ++ [byte (s.budget / 256), byte s.budget] ++ [byte (s.load / 256), byte s.load]
    ++ [byte (s.measuredTotal / 256), byte s.measuredTotal] ++ [s.link.errors]
    ++ (List.finRange 6).flatMap (fun f => feedLayout (s.feeds.get f)) ++ batchLayout s.batch := by
  have hstatus : (s.config.status == .defaults) = decide (s.config.status = .defaults) := Bool.beq_eq_decide_eq ..
  simp only [boxBody, be16_ofNat, feedBytes_eq, batchBytes_eq, hstatus]
  rfl

/-! ## Messages -/

/-- R3, R178: a message whose body is laid out so, with the length that its kind gives it. -/
theorem message_layout {cls : Nat} {source : Station} {kind target tag : Byte} {body spec : List Byte} {n : Nat}
    (h : body = spec) (hl : body.length = n) (hn : n ≤ 46) :
    let m := [BitVec.ofNat 8 (32 * cls + source.val), kind, target, tag, BitVec.ofNat 8 spec.length] ++ spec
    message cls source kind target tag body = m ++ [(crc16 m).extractLsb' 8 8, (crc16 m).extractLsb' 0 8]
      ∧ spec.length = n ∧ spec.length ≤ 46 := by
  subst h
  exact ⟨rfl, hl, hl ▸ hn⟩

/-! ## Feed blocks -/

/-- A table's list is its records in order. -/
theorem list_eq_map_get {α : Type} {n : Nat} (t : Tab α n) : t.list = (List.finRange n).map t.get := by
  apply List.ext_getElem
  · simp [t.len]
  · intro i h1 h2
    simp [get_eq]

/-- R180: the flag byte of two neighbouring channels. -/
theorem flagBytes_getElem {flags : Tab ChanFlags 32} {i : Nat} {c d : Chan} (hc : 2 * i = c.val)
    (hd : 2 * i + 1 = d.val) :
    ((List.finRange 16).map (nibblePair flags))[i]?
      = some (byte (16 * (flags.get c).nibble + (flags.get d).nibble)) := by
  have hi : i < 16 := by omega
  have hc' : c = ⟨2 * i, by omega⟩ := Fin.ext hc.symm
  have hd' : d = ⟨2 * i + 1, by omega⟩ := Fin.ext hd.symm
  simp [nibblePair, hi, hc', hd']

theorem row_wire (r : Tab Sample 32) : r.list.flatMap wordBytes = (List.finRange 32).flatMap fun c =>
    [BitVec.ofNat 8 ((r.get c).toNat / 65536), BitVec.ofNat 8 ((r.get c).toNat / 256), BitVec.ofNat 8 (r.get c).toNat]
    := by
  rw [list_eq_map_get, List.flatMap_map]
  simp only [wordBytes_eq]

/-- Settles O28, kind by kind of message, then header and rows of a feed block. -/
theorem sentMessageLayout : Obligations.SentMessageLayout := by
  unfold Obligations.SentMessageLayout
  intro bit num gain two given clock outcomes replyBytes linkBytes channelBytes feedBytes' batchBytes' boxBytes nibble
  refine ⟨fun s k => ?_, fun h => ⟨(List.finRange 16).map (nibblePair h.flags), ?_, by simp, fun i c d hc hd =>
    flagBytes_getElem hc hd⟩, fun b => ?_⟩
  · cases k with
    | reply st => exact message_layout (n := 4) (by rw [replyBody, outcome_code]; rfl) rfl (by decide)
    | link g => exact message_layout (n := 5) rfl rfl (by decide)
    | channel c =>
      exact message_layout (channelBody_eq s c) (channelBody_length s c)
        (by have := entryCount_le s c; dsimp only; omega)
    | box => exact message_layout (n := 35) (boxBody_eq s) (boxBody_length s) (by decide)
  · rw [headerBytes, be16_eq]
    rfl
  · simp only [FeedBlock.wire, row_wire]
    rfl

end Sys2Proof.Proofs
end

section
/-! Losses, expiries and ageing (R14, R41, R77 to R79, R160): what the removal of link table entries, the discard of a
batch and the orphaning of feeds do, each said once. -/

namespace Sys2Proof.Proofs

open Sys2Proof.Machine Sys2Proof.Laws

variable {s : State}

/-! ## Removing link table entries -/

/-- R76, R78, R79: the entries that meet a condition are gone, their groups' members are dirty, and room is freed. -/
def LinksRemoved (p : LinkEntry → Bool) (s t : State) : Prop :=
  t.gain = { s.gain with
      table := s.gain.table.filter (fun x => !p x)
      full := if s.gain.table.any p then false else s.gain.full }
    ∧ (∀ c, t.demand.get c = { s.demand.get c with
        dirty := (s.demand.get c).dirty || s.gain.table.any (fun x => p x && x.group == s.group c) })
    ∧ (s.gain.table.any p = true → s.gain.full = true → Key.box ∈ t.report.keys)

theorem freeRoom_gain : (freeRoom s).gain = { s.gain with full := false } := by
  unfold freeRoom
  split
  · rfl
  · next h => rw [← Bool.not_eq_true _ |>.mp h]

theorem freeRoom_demand : (freeRoom s).demand = s.demand := by simp

theorem box_mem_freeRoom (h : s.gain.full = true) : Key.box ∈ (freeRoom s).report.keys := by
  rw [freeRoom, if_pos h]
  exact (mem_ask .box .box).mpr (.inr rfl)

/-- Marking groups makes the members of each dirty and leaves the other channels. -/
theorem markGroups_demand (gs : List Group) (c : Chan) : (markGroups gs s).demand.get c
    = { s.demand.get c with dirty := (s.demand.get c).dirty || decide (s.group c ∈ gs) } := by
  rw [markGroups, get_gen]
  split
  · next h => simp [h]
  · next h => simp [h]

/-- With nothing to remove, the table stands. -/
theorem removeLinks_of_none {p : LinkEntry → Bool} (h : s.gain.table.any p = false) : removeLinks p s = s := by
  have hnil : s.gain.table.filter p = [] := by simpa using h
  unfold removeLinks
  rw [hnil]

/-- With something to remove, the entries leave, their groups are marked, and room is freed. -/
theorem removeLinks_of_some {p : LinkEntry → Bool} (h : s.gain.table.any p = true) :
    removeLinks p s = freeRoom (markGroups ((s.gain.table.filter p).map (fun x => x.group))
      { s with gain.table := s.gain.table.filter (fun x => !p x) }) := by
  unfold removeLinks
  split
  · next hnil =>
    rw [List.filter_eq_nil_iff] at hnil
    obtain ⟨x, hx, hp⟩ := List.any_eq_true.mp h
    exact absurd hp (hnil x hx)
  · next e gone hcons => rw [hcons]

/-- A group is one of those removed where an entry of it meets the condition. -/
theorem mem_removed_groups (p : LinkEntry → Bool) (table : List LinkEntry) (g : Group) :
    decide (g ∈ (table.filter p).map (fun x => x.group)) = table.any (fun x => p x && x.group == g) := by
  rw [Bool.eq_iff_iff, decide_eq_true_eq, List.any_eq_true]
  simp only [List.mem_map, List.mem_filter, Bool.and_eq_true, beq_iff_eq, and_assoc]

theorem removeLinks_removes (p : LinkEntry → Bool) (s : State) : LinksRemoved p s (removeLinks p s) := by
  cases h : s.gain.table.any p with
  | false =>
    have hno : ∀ x ∈ s.gain.table, p x = false := by simpa using h
    have hall : s.gain.table.filter (fun x => !p x) = s.gain.table :=
      List.filter_eq_self.mpr fun x hx => by simp [hno x hx]
    have hgroup : ∀ g, s.gain.table.any (fun x => p x && x.group == g) = false := by
      intro g
      simpa using fun x hx hp => absurd hp (by simp [hno x hx])
    rw [removeLinks_of_none h]
    exact ⟨by simp [hall, h], fun c => by simp [hgroup], by simp [h]⟩
  | true =>
    rw [removeLinks_of_some h]
    refine ⟨by rw [freeRoom_gain, h]; rfl, fun c => ?_, fun _ hfull => box_mem_freeRoom hfull⟩
    rw [freeRoom_demand, markGroups_demand]
    exact congrArg (fun b => { s.demand.get c with dirty := (s.demand.get c).dirty || b }) (mem_removed_groups p _ _)

/-- A removal changes only demand, gain and report.keys. -/
theorem removeLinks_frame (p : LinkEntry → Bool) (s : State) : removeLinks p s = { s with
    demand := (removeLinks p s).demand
    gain := (removeLinks p s).gain
    report := { s.report with keys := (removeLinks p s).report.keys } } := by
  unfold removeLinks
  split
  · rfl
  · unfold freeRoom
    split <;> rfl

/-! ## Discarding a batch, orphaning feeds -/

/-- R160: a standing batch that meets the condition is discarded, and BOX says so. -/
theorem discardBatch_discards (p : BatchBody → Bool) (s : State) :
    DiscardedWhere (fun b => p b = true) s (discardBatch p s) := by
  unfold discardBatch
  constructor
  · intro b hb hp
    rw [hb]
    simp only [hp, if_true]
    exact ⟨rfl, (mem_ask .box .box).mpr (.inr rfl)⟩
  · intro hno
    split
    · next b hb => rw [if_neg (hno b hb)]
    · rfl

/-- A discard changes only link.pair, batch and report.keys. -/
theorem discardBatch_frame (p : BatchBody → Bool) (s : State) : discardBatch p s = { s with
    link := { s.link with pair := (discardBatch p s).link.pair }
    batch := (discardBatch p s).batch
    report := { s.report with keys := (discardBatch p s).report.keys } } := by
  unfold discardBatch
  (repeat' split) <;> rfl

theorem keys_subset_discardBatch (p : BatchBody → Bool) : s.report.keys ⊆ (discardBatch p s).report.keys := by
  unfold discardBatch
  (repeat' split)
  · exact List.Subset.trans (keys_subset_ask (s := s) .box) (keys_subset_ask .box)
  all_goals exact List.Subset.refl _

/-- A change of feed records changes only feeds and report.keys. -/
theorem setFeeds_frame (t : Tab FeedRec 6) : setFeeds t s
    = { s with feeds := t, report := { s.report with keys := (setFeeds t s).report.keys } } := by
  unfold setFeeds
  split
  · next h => rw [h]
  · rfl

/-- R41: a feed BOUND to the lost holder is ORPHANED. -/
theorem orphan_of_bound {st : Station} {r : FeedRec} {since : Word16} (h : r.binding = .bound st since) :
    orphan (fun h => h == st) r = { r with binding := .orphaned st since } := by
  simp [orphan, h]

/-- R41: every other feed record stands. -/
theorem orphan_of_not_bound {st : Station} {r : FeedRec} (h : ∀ since, r.binding ≠ .bound st since) :
    orphan (fun h => h == st) r = r := by
  unfold orphan
  split
  · next holder since hb => exact if_neg fun e => h since (by rw [hb, eq_of_beq e])
  · rfl

/-! ## The loss of a station -/

/-- The station's entry is LOST and nothing else has changed. -/
def withLost (st : Station) (role : Role) (s : State) : State :=
  { s with link.stations := s.link.stations.set st (.lost role) }

theorem loseStation_desk (st : Station) (s : State) :
    loseStation st .desk s = discardBatch (fun b => b.owner == st)
      (setFeeds (s.feeds.map (orphan (fun h => h == st))) (withLost st .desk s)) := rfl

theorem loseStation_desk_feeds (st : Station) (s : State) :
    (loseStation st .desk s).feeds = s.feeds.map (orphan (fun h => h == st)) := by
  rw [loseStation_desk]
  simp

/-- The loss of a desk changes only the link controller's entry and attempt, feeds, batch and report.keys. -/
theorem loseStation_desk_frame (st : Station) (s : State) :
    loseStation st .desk s = { s with
      link := { s.link with
        stations := s.link.stations.set st (.lost .desk), pair := (loseStation st .desk s).link.pair }
      feeds := (loseStation st .desk s).feeds
      batch := (loseStation st .desk s).batch
      report := { s.report with keys := (loseStation st .desk s).report.keys } } := by
  rw [loseStation_desk_feeds, loseStation_desk]
  conv_lhs => rw [discardBatch_frame]
  rw [setFeeds_frame]
  rfl

/-- R41: what the loss of a desk makes of a feed BOUND to it; the report says so. -/
theorem loseStation_desk_orphans {st : Station} {f : Feed} {since : Word16}
    (hf : (s.feeds.get f).binding = .bound st since) :
    (loseStation st .desk s).feeds.get f = { s.feeds.get f with binding := .orphaned st since }
      ∧ Key.box ∈ (loseStation st .desk s).report.keys := by
  have hmoves : orphan (fun h => h == st) (s.feeds.get f) ≠ s.feeds.get f := fun e => by
    rw [orphan_of_bound hf] at e
    cases (congrArg FeedRec.binding e).trans hf
  rw [loseStation_desk_feeds, get_map]
  exact ⟨orphan_of_bound hf, keys_subset_discardBatch _ (box_mem_setFeeds (map_ne_of_get hmoves))⟩

/-- R160: the batch of a desk that is lost is discarded. -/
theorem loseStation_desk_discards (st : Station) (s : State) :
    DiscardedWhere (fun b => b.owner = st) s (loseStation st .desk s) := by
  have h := discardBatch_discards (fun b => b.owner == st)
    (setFeeds (s.feeds.map (orphan (fun h => h == st))) (withLost st .desk s))
  simp only [DiscardedWhere, setFeeds_batch, beq_iff_eq] at h
  exact h

/-- STATION_LOSS where the station is due is its loss. -/
theorem stationLoss_due {st : Station} {role : Role} {age : Nat} (hr : s.running = true) (hage : 199 ≤ age)
    (h : s.link.stations.get st = .present role age) : stationLoss st s = loseStation st role s := by
  have hdue : ¬ age + 1 < 200 := by omega
  unfold stationLoss whileRunning
  rw [if_pos hr]
  simp only [h, hdue, if_false]

/-! ## Ageing -/

theorem ageStation_of_present {st : Station} {role : Role} {age : Nat}
    (h : s.link.stations.get st = .present role age) :
    ageStation st s = if age + 1 < 200
      then { s with link := { s.link with stations := s.link.stations.set st (.present role (age + 1)) } }
      else loseStation st role s := by
  simp only [ageStation, h]

theorem ageStation_of_not_present {st : Station} (h : ∀ role age, s.link.stations.get st ≠ .present role age) :
    ageStation st s = s := by
  unfold ageStation
  split
  case h_1 role age hp => exact absurd hp (h role age)
  all_goals rfl

/-- R77: LINK_ENTRY_EXPIRY takes the entries of the pair that the coming block start brings to age 50. -/
theorem linkExpiry_eq {g : Group} {source : Station} (hr : s.running = true) :
    linkExpiry g source s
      = removeLinks (fun x => x.group == g && x.source == source && decide (49 ≤ x.age)) s := by
  have hp : (fun x : LinkEntry => x.group == g && x.source == source && decide (50 ≤ x.age + 1))
      = fun x => x.group == g && x.source == source && decide (49 ≤ x.age) := by
    funext x
    congr 1
    exact decide_eq_decide.mpr (by omega)
  rw [linkExpiry, whileRunning, if_pos hr, hp]

/-- Settles O54, by what removing link table entries, orphaning feeds and discarding the batch each do. -/
theorem lossesAndExpiries : Obligations.LossesAndExpiries := by
  refine ⟨fun st age s hr hage => ⟨fun h => ?_, fun h => ?_⟩, fun g source s hr => ?_, fun s => rfl, fun st s =>
    ⟨ageStation_of_not_present, fun role age h => ⟨fun hage => ?_, fun hage hr => ?_⟩⟩, fun s => ?_⟩
  · refine ⟨loseStation st .desk s, congrArg Host.Outcome.next (stationLoss_due hr hage h),
      loseStation_desk_frame st s, fun f => ⟨fun since hf => loseStation_desk_orphans hf, fun hf => ?_⟩,
      loseStation_desk_discards st s⟩
    rw [loseStation_desk_feeds, get_map, orphan_of_not_bound hf]
  · refine ⟨loseStation st .box s, congrArg Host.Outcome.next (stationLoss_due hr hage h), ?_,
      removeLinks_removes _ (withLost st .box s)⟩
    exact removeLinks_frame _ (withLost st .box s)
  · exact ⟨_, congrArg Host.Outcome.next (linkExpiry_eq hr), removeLinks_frame _ s, removeLinks_removes _ s⟩
  · rw [ageStation_of_present h, if_pos (by omega)]
  · rw [ageStation_of_present h, if_neg (by omega)]
    exact congrArg Host.Outcome.next (stationLoss_due hr hage h)
  · exact ⟨removeLinks_frame _ _, removeLinks_removes _ _⟩

end Sys2Proof.Proofs
end

section
/-! Events that are not due (log entry 2): each event that is commanded by itself has a guard, and where the guard fails
the state stays as it is. -/

namespace Sys2Proof.Proofs

open Sys2Proof.Machine Sys2Proof.Laws

variable {s : State}

theorem whileRunning_of_same {f : State → State} (h : f s = s) : whileRunning f s = s := by
  unfold whileRunning
  split
  · exact h
  · rfl

/-! ## Stations and the batch -/

theorem stationLoss_not_due {st : Station}
    (h : ∀ role age, s.link.stations.get st = .present role age → age < 199) : stationLoss st s = s := by
  refine whileRunning_of_same ?_
  split
  case h_1 role age hp => exact if_pos (by have := h role age hp; omega)
  all_goals rfl

theorem batchWrite_not_due (h : ∀ b, s.batch.record ≠ .committing b) : batchWrite s = s := by
  unfold batchWrite
  split
  · split
    · next b hb => exact absurd hb (h b)
    all_goals rfl
  · rfl

theorem batchTimeout_not_due (h : ∀ b age, s.batch.record = .loading b age → age < 99) : batchTimeout s = s := by
  unfold batchTimeout
  split
  · split
    · next b age hb => exact if_pos (by have := h b age hb; omega)
    all_goals rfl
  · rfl

/-! ## Steps and windows -/

theorem compensation_of_no_pending {c : Chan} (h : (s.steps.get c).pending = none) : compensation c s = s := by
  unfold compensation
  rw [h]
  exact ite_self s

/-- R89: the countdown that the coming sample period finds is 0 only where it is 0 already, or falls to it there. -/
theorem coming_ne_zero {p : PendingStep} (hpos : 0 < p.countdown) (h : p.atIssue = true ∨ 1 < p.countdown) :
    p.coming ≠ 0 := by
  unfold PendingStep.coming
  split
  · omega
  · next hno =>
    have := h.resolve_left hno
    omega

theorem compensation_not_due {c : Chan} {p : PendingStep} (hp : (s.steps.get c).pending = some p)
    (h : p.coming ≠ 0) : compensation c s = s := by
  unfold compensation
  rw [hp]
  simp only [h, if_false, ite_self]

theorem retryWrite_not_due {c : Chan} (code : Byte) (h : ∀ n, (s.steps.get c).front = .fault n → n < 99) :
    retryWrite c code s = s := by
  unfold retryWrite
  split
  · split
    · next n hn => exact if_pos (by have := h n hn; omega)
    · rfl
  · rfl

theorem windowClose_not_due (h : s.head.windowAge < 9) : windowClose s = s := by
  have hage : s.head.windowAge + 1 < 10 := by omega
  simp [windowClose, hage]

/-! ## Phantom events -/

/-- R135: the settle countdown is that of RISING or FALLING. -/
theorem left_eq_some {st : PhantomState} {n : Nat} : st.left = some n ↔ st = .rising n ∨ st = .falling n := by
  cases st <;> simp [PhantomState.left]

theorem settleEnd_not_due {c : Chan}
    (h : ∀ n, (s.phantom.recs.get c).state = .rising n ∨ (s.phantom.recs.get c).state = .falling n → 1 < n) :
    settleEnd c s = s := by
  refine whileRunning_of_same ?_
  split
  · next n hn => exact if_neg fun hle => by have := h n (left_eq_some.mp hn); omega
  · rfl

/-- R146: only a powered channel is watched for shorts. -/
theorem watched_of_not_powered {limit : Nat} {st : PhantomState} (h : st.powered = false) :
    watched limit st = false := by
  cases st <;> simp_all [watched, PhantomState.powered]

theorem shortTrip_not_due {c : Chan}
    (h : (s.phantom.recs.get c).persist < 49 ∨ (s.phantom.recs.get c).state.powered = false) : shortTrip c s = s := by
  refine whileRunning_of_same (if_neg ?_)
  obtain hage | hoff := h
  · have : (s.phantom.recs.get c).persist + 1 < 50 := by omega
    simp [this]
  · simp [watched_of_not_powered hoff]

theorem shedLoad_not_due (h : s.phantom.overload < 19) : shedLoad s = s :=
  whileRunning_of_same (if_pos (by omega))

theorem bankChange_not_due (h : s.phantom.lineQuiet ≠ 19 ∨ s.lineIndex = s.phantom.bank) : bankChange s = s :=
  whileRunning_of_same (if_neg fun hdue => h.elim (fun hn => hn hdue.1) hdue.2)

/-! ## The timing unit -/

theorem expireQuiet_not_due (h : s.timing.quietCount < 999 ∨ s.timing.clock = .free ∨ s.timing.clock = .locked) :
    expireQuiet s = s := by
  refine whileRunning_of_same (if_neg fun ⟨hends, hcount⟩ => ?_)
  obtain hq | hc | hc := h
  · omega
  all_goals simp [quietEnds, hc] at hends

theorem releaseMark_not_due (h : s.timing.driveLeft = none) : releaseMark s = s :=
  whileRunning_of_same (by rw [h])

theorem declareMissing_not_due (h : s.timing.lastOffset = none) : declareMissing s = s :=
  whileRunning_of_same (if_neg (by simp [missInBlock, h]))

theorem enterHoldoverBy_missing_not_due (h : s.timing.lastOffset = none) : enterHoldoverBy .missing s = s := by
  unfold enterHoldoverBy
  dsimp only
  rw [declareMissing_not_due h]
  exact ite_self s

/-- Settles O60, event by event. -/
theorem eventsThatAreNotDueChangeNothing : Obligations.EventsThatAreNotDueChangeNothing := by
  intro s
  have next {u : State} (hu : u = s) : Host.Outcome.next (φ := Fault) (ρ := Refusal) u = .next s :=
    congrArg Host.Outcome.next hu
  exact ⟨fun st h => next (stationLoss_not_due h), fun h => next (batchWrite_not_due h),
    fun h => next (batchTimeout_not_due h), fun c h => next (compensation_of_no_pending h),
    fun c p hp hpos h => next (compensation_not_due hp (coming_ne_zero hpos h)),
    fun c code h => next (retryWrite_not_due code h), fun h => next (windowClose_not_due h),
    fun c h => next (settleEnd_not_due h), fun c h => next (shortTrip_not_due h), fun h => next (shedLoad_not_due h),
    fun h => next (bankChange_not_due h), fun h => next (expireQuiet_not_due h),
    fun h => next (releaseMark_not_due h),
    fun h => ⟨next (declareMissing_not_due h), next (enterHoldoverBy_missing_not_due h)⟩⟩

end Sys2Proof.Proofs
end

section
/-! The timing unit (Chapter 2): every event of it makes of the state what `retime` does, a new timing unit with BOX asked
for where the clock state changes, and the timing unit after each event is said once, case by case. -/

namespace Sys2Proof.Proofs

open Sys2Proof.Machine Sys2Proof.Laws

variable {s : State}

/-! ## A new timing unit -/

/-- The timing unit becomes `w`, and BOX is asked for when that changes the clock state (R165). -/
def retime (w : Timing) (s : State) : State :=
  if w.clock = s.timing.clock then { s with timing := w } else ask .box { s with timing := w }

@[simp] theorem retime_timing (w : Timing) (s : State) : (retime w s).timing = w := by
  unfold retime
  split <;> rfl

theorem retime_same {w : Timing} (h : w.clock = s.timing.clock) : retime w s = { s with timing := w } := if_pos h

/-- Only timing and report.keys change. -/
theorem retime_frame (w : Timing) (s : State) :
    retime w s = { s with timing := w, report := { s.report with keys := (retime w s).report.keys } } := by
  unfold retime
  split <;> rfl

theorem prefix_ask (k : Key) (s : State) : s.report.keys <+: (ask k s).report.keys := by
  unfold ask
  dsimp only
  split
  · exact List.prefix_rfl
  · exact List.prefix_append _ _

theorem retime_keysAsked (w : Timing) (s : State) :
    KeysAsked (fun k => k = .box ∧ w.clock ≠ s.timing.clock) s (retime w s) := by
  unfold retime
  split
  · next h => exact ⟨List.prefix_rfl, fun k => by simp [h]⟩
  · next h => exact ⟨prefix_ask .box _, fun k => by simp [mem_ask, h]⟩

theorem box_mem_retime {w : Timing} (h : w.clock ≠ s.timing.clock) : Key.box ∈ (retime w s).report.keys :=
  ((retime_keysAsked w s).2 .box).mpr (.inr ⟨rfl, h⟩)

/-- A change of the timing unit that leaves the clock state has no part in what follows it. -/
theorem retime_of_timing {w : Timing} (w' : Timing) (h : w.clock = s.timing.clock) :
    retime w' { s with timing := w } = retime w' s := by
  unfold retime
  rw [h]

theorem retime_change {w : Timing} (h : w.clock ≠ s.timing.clock) : retime w s = ask .box { s with timing := w } :=
  if_neg h

/-- Two changes of which one leaves the clock state are one. -/
theorem retime_retime {w w' : Timing} (h : w.clock = s.timing.clock ∨ w'.clock = w.clock) :
    retime w' (retime w s) = retime w' s := by
  by_cases hw : w.clock = s.timing.clock
  · rw [retime_same hw, retime_of_timing w' hw]
  · have hw' := h.resolve_left hw
    rw [retime_same (by rw [retime_timing, hw']), retime_change hw, retime_change (hw' ▸ hw)]
    rfl

theorem setClock_eq (c : ClockState) (s : State) : setClock c s = retime { s.timing with clock := c } s := by
  unfold setClock retime
  split
  · next h => rw [if_pos h.symm, ← h]
  · next h => rw [if_neg (Ne.symm h)]

@[simp] theorem setClock_timing (c : ClockState) (s : State) : (setClock c s).timing = { s.timing with clock := c } := by
  rw [setClock_eq, retime_timing]

@[simp] theorem realign_timing (s : State) :
    (realign s).timing = { s.timing with slip := true, nextLen := 24576 } := rfl

/-! ## Ticks and missing marks -/

/-- The timing unit after `n` missing marks (R22, R23, R26, R27). -/
def missed (n : Nat) (t : Timing) : Timing :=
  { t with
    clock := if t.clock = .locked ∧ 0 < n ∧ 3 ≤ t.badCount + n then .holdover else t.clock
    lockCount := if t.clock = .acquiring ∧ 0 < n then 0 else t.lockCount
    badCount := if t.clock = .locked ∧ 0 < n then min 3 (t.badCount + n) else t.badCount }

theorem missed_zero (t : Timing) : missed 0 t = t := by simp [missed]

theorem missed_idle (n : Nat) {t : Timing} (hl : t.clock ≠ .locked) (ha : t.clock ≠ .acquiring) :
    missed n t = t := by simp [missed, hl, ha]

/-- A bad mark counts in LOCKED as a missing one does (R26). -/
theorem countBad_eq (s : State) : countBad s = retime
    { s.timing with
      clock := if 3 ≤ s.timing.badCount + 1 then .holdover else s.timing.clock
      badCount := min 3 (s.timing.badCount + 1) } s := by
  unfold countBad
  split
  · next h =>
    rw [if_neg (by omega), min_eq_right (by omega)]
    refine (retime_same ?_).symm
    rfl
  · next h =>
    rw [if_pos (by omega), min_eq_left (by omega), setClock_eq]
    exact retime_of_timing (w := { s.timing with badCount := 3 }) _ rfl

theorem missMark_eq (s : State) : missMark s = retime (missed 1 s.timing) s := by
  unfold missMark
  split
  · next h => rw [retime_same (by simp [missed, h])]; simp [missed, h]
  · next h => rw [countBad_eq]; simp [missed, h]
  · next h => rw [missed_idle 1 (by simp [h]) (by simp [h]), retime_same rfl]
  · next h => rw [missed_idle 1 (by simp [h]) (by simp [h]), retime_same rfl]

theorem missed_missed (n : Nat) (t : Timing) : missed 1 (missed n t) = missed (n + 1) t := by
  simp only [missed, Timing.mk.injEq, true_and, and_true]
  grind

theorem missMark_iterate (n : Nat) (s : State) : missMark^[n] s = retime (missed n s.timing) s := by
  induction n with
  | zero => rw [missed_zero, retime_same rfl]; rfl
  | succ n ih =>
    have hclock : (missed n s.timing).clock = s.timing.clock
        ∨ (missed 1 (missed n s.timing)).clock = (missed n s.timing).clock := by
      simp only [missed]; grind
    rw [Function.iterate_succ_apply', ih, missMark_eq, retime_timing, retime_retime hclock, missed_missed]

theorem passTicks_eq (d checked : Nat) (s : State) :
    passTicks d checked s = retime (missed (missesDue checked s.timing) (tickOn d s.timing)) s := by
  unfold passTicks
  rw [missMark_iterate]
  exact retime_of_timing _ rfl

/-- The k-th missing mark has fallen due by tick count `n` (R21). -/
theorem lt_missedBy_iff (k n : Nat) : k < missedBy n ↔ 36864 + 24576 * k ≤ n := by
  unfold missedBy
  split <;> omega

/-- How many numbers below `m` lie from `a` up to `b`. -/
theorem countP_range_between (a b m : Nat) :
    (List.range m).countP (fun k => decide (a ≤ k ∧ k < b)) = min b m - min a m := by
  induction m with
  | zero => simp
  | succ m ih =>
    rw [List.range_succ, List.countP_append, ih, List.countP_singleton]
    simp only [decide_eq_true_eq]
    split <;> omega

/-- The missing marks within `d` ticks, counted one by one and by the difference of two counts (R21). -/
theorem missesDue_eq (d : Nat) (t : Timing) : missesDue d t = missedWithin d t := by
  unfold missesDue missedWithin
  cases ht : t.lastOffset with
  | none => rfl
  | some e =>
    have hdue : ∀ k, (t.tickCount < 36864 + 24576 * k ∧ 36864 + 24576 * k ≤ min (t.tickCount + d) 16777215)
        ↔ (missedBy t.tickCount ≤ k ∧ k < missedBy (min (t.tickCount + d) tickLimit)) := fun k => by
      rw [lt_missedBy_iff, ← not_lt (a := k), lt_missedBy_iff, not_le]
      rfl
    have hlast : missedBy (min (t.tickCount + d) tickLimit) ≤ 682 := by
      by_contra h
      have h682 := (lt_missedBy_iff 682 _).mp (not_le.mp h)
      have := h682.trans (min_le_right _ _)
      simp [tickLimit] at this
    simp only [Option.isSome_some, if_true, reduceCtorEq, if_false, hdue]
    rw [countP_range_between]
    omega

/-- R21: with no missing mark due before the last tick, none is declared before it. -/
theorem missesDue_of_noMissBefore {d : Nat} {t : Timing} (h : NoMissBefore d t) : missesDue (d - 1) t = 0 := by
  unfold missesDue
  split
  · next hsome =>
    have hnone := h.resolve_left (fun e => by simp [e] at hsome)
    by_contra hpos
    have hmore : missedBy t.tickCount < missedBy (min (t.tickCount + (d - 1)) tickLimit) := by omega
    have hafter := mt (lt_missedBy_iff (missedBy t.tickCount) t.tickCount).mpr (lt_irrefl _)
    have := (lt_missedBy_iff _ _).mp hmore
    have := hnone (missedBy t.tickCount)
    omega
  · rfl

theorem missed_tickOn (d : Nat) (t : Timing) : missed (missedWithin d t) (tickOn d t) = ticked d t := rfl

/-- R19 to R22: ticks with every missing mark in them taken. -/
theorem passTicks_all (d : Nat) (s : State) : passTicks d d s = retime (ticked d s.timing) s := by
  rw [passTicks_eq, missesDue_eq, missed_tickOn]

/-- Ticks in which no missing mark falls due. -/
theorem passTicks_of_none {d checked : Nat} (h : missesDue checked s.timing = 0) :
    passTicks d checked s = { s with timing := tickOn d s.timing } := by
  rw [passTicks_eq, h, missed_zero]
  exact retime_same rfl

/-! ## Marks -/

/-- The counts at a mark event with offset `e` (R20). -/
def measured (e : Int) (t : Timing) : Timing := { t with tickCount := 0, quietCount := 0, lastOffset := some e }

/-- ACQUIRING with the lock count at 0, at the nominal rate (R22, R27). -/
def acquiring (t : Timing) : Timing := { t with clock := .acquiring, lockCount := 0, blockLen := 24576, nextLen := 24576 }

/-- A misplaced mark ends the running block (R24). -/
def placedAt (e : Int) (t : Timing) : Timing :=
  if -512 ≤ e ∧ e ≤ 512 then t else { t with slip := true, nextLen := 24576 }

/-- LOCKED at the sixteenth interval in window (R23). -/
def lockedOn (t : Timing) : Timing := { t with clock := .locked, lockCount := 16, badCount := 0 }

/-- The block lengths that follow a mark of interval `n` and offset `e` (R25). -/
def following (n : Nat) (e : Int) (after : Bool) (t : Timing) : Timing :=
  { t with blockLen := if after then setFrom (n + e) else t.blockLen, nextLen := setFrom (n + e) }

/-- A bad mark in LOCKED (R26). -/
def badMarked (t : Timing) : Timing :=
  { t with clock := if 3 ≤ t.badCount + 1 then .holdover else t.clock, badCount := min 3 (t.badCount + 1) }

/-- A mark with interval `m` in ACQUIRING (R23). -/
def acquiringMark (m : Option Nat) (e : Int) (after : Bool) (t : Timing) : Timing :=
  match m with
  | none => placedAt e t
  | some n =>
    if 24551 ≤ n ∧ n ≤ 24601 then
      if t.lockCount + 1 < 16 then placedAt e { t with lockCount := t.lockCount + 1 }
      else if -512 ≤ e ∧ e ≤ 512 then following n e after (lockedOn t)
      else { lockedOn t with slip := true, nextLen := setFrom n }
    else placedAt e { t with lockCount := 0 }

/-- A mark with interval `m` in LOCKED (R25, R26). -/
def lockedMark (m : Option Nat) (e : Int) (after : Bool) (t : Timing) : Timing :=
  match m with
  | none => if -512 ≤ e ∧ e ≤ 512 then t else badMarked t
  | some n =>
    if (24551 ≤ n ∧ n ≤ 24601) ∧ -512 ≤ e ∧ e ≤ 512 then following n e after { t with badCount := 0 }
    else badMarked t

/-- A mark with interval `m` in HOLDOVER (R27). -/
def holdoverMark (m : Option Nat) (e : Int) (t : Timing) : Timing :=
  match m with
  | none => t
  | some n => if 24551 ≤ n ∧ n ≤ 24601 then placedAt e (acquiring t) else t

/-- A mark event, taken under the clock state (R20 to R27). -/
def afterMark (e : Int) (after : Bool) (t : Timing) : Timing :=
  match t.clock with
  | .free => placedAt e (acquiring (measured e t))
  | .acquiring => acquiringMark t.interval e after (measured e t)
  | .locked => lockedMark t.interval e after (measured e t)
  | .holdover => holdoverMark t.interval e (measured e t)

/-- A change of the timing unit after another one, with the clock state left. -/
theorem retime_then {w w' : Timing} (h : w'.clock = w.clock) : { retime w s with timing := w' } = retime w' s := by
  rw [← retime_retime (s := s) (w := w) (.inr h)]
  exact (retime_same (by rw [retime_timing, h])).symm

theorem wellPlaced_iff {e : Int} : wellPlaced e = true ↔ -512 ≤ e ∧ e ≤ 512 := by simp [wellPlaced]

theorem inWindow_iff {n : Nat} : inWindow n = true ↔ 24551 ≤ n ∧ n ≤ 24601 := by simp [inWindow]

theorem realign_retime (w : Timing) (s : State) :
    realign (retime w s) = retime { w with slip := true, nextLen := 24576 } s := by
  refine Eq.trans ?_ (retime_then (w := w) rfl)
  simp [realign, nominal]

theorem setLength_retime (len : Nat) (after : Bool) (w : Timing) (s : State) :
    setLength len after (retime w s)
      = retime { w with blockLen := if after then len else w.blockLen, nextLen := len } s := by
  refine Eq.trans ?_ (retime_then (w := w) rfl)
  cases after <;> simp [setLength]

/-- R24: a misplaced mark realigns. -/
theorem realign_unless_placed (e : Int) (w : Timing) (s : State) :
    (if wellPlaced e then retime w s else realign (retime w s)) = retime (placedAt e w) s := by
  unfold placedAt
  simp only [wellPlaced_iff, realign_retime]
  split <;> rfl

theorem enterAcquiring_eq (e : Int) (s : State) : enterAcquiring e s = retime (placedAt e (acquiring s.timing)) s := by
  have hclock : setClock .acquiring { s with timing.lockCount := 0, timing.blockLen := nominal, timing.nextLen := nominal }
      = retime (acquiring s.timing) s := by
    rw [setClock_eq]
    exact retime_of_timing (w := { s.timing with lockCount := 0, blockLen := nominal, nextLen := nominal }) _ rfl
  unfold enterAcquiring
  rw [hclock]
  exact realign_unless_placed e _ s

/-- R23, R25: the sixteenth interval in window. -/
theorem lockOn_eq (n : Nat) (e : Int) (after : Bool) (s : State) : lockOn n e after s = retime
    (if -512 ≤ e ∧ e ≤ 512 then following n e after (lockedOn s.timing)
      else { lockedOn s.timing with slip := true, nextLen := setFrom n }) s := by
  have hclock : setClock .locked { s with timing.lockCount := 16, timing.badCount := 0 }
      = retime (lockedOn s.timing) s := by
    rw [setClock_eq]
    exact retime_of_timing (w := { s.timing with lockCount := 16, badCount := 0 }) _ rfl
  unfold lockOn
  rw [hclock]
  dsimp only
  simp only [wellPlaced_iff]
  split
  · exact setLength_retime _ _ _ _
  · rw [realign_retime, retime_timing]
    exact retime_then rfl

theorem markAcquiring_eq (m : Option Nat) (e : Int) (after : Bool) (s : State) :
    markAcquiring m e after s = retime (acquiringMark m e after s.timing) s := by
  have place {w : Timing} (h : w.clock = s.timing.clock) :
      (if wellPlaced e then { s with timing := w } else realign { s with timing := w }) = retime (placedAt e w) s := by
    rw [← retime_same h]
    exact realign_unless_placed e w s
  cases m with
  | none => exact place (w := s.timing) rfl
  | some n =>
    unfold markAcquiring acquiringMark
    simp only [inWindow_iff]
    split
    · split
      · exact place rfl
      · exact lockOn_eq n e after s
    · exact place rfl

theorem markLocked_eq (m : Option Nat) (e : Int) (after : Bool) (s : State) :
    markLocked m e after s = retime (lockedMark m e after s.timing) s := by
  cases m with
  | none =>
    unfold markLocked lockedMark
    simp only [wellPlaced_iff]
    split
    · exact (retime_same rfl).symm
    · exact countBad_eq s
  | some n =>
    unfold markLocked lockedMark
    simp only [Bool.and_eq_true, wellPlaced_iff, inWindow_iff]
    split
    · rw [← retime_same (w := { s.timing with badCount := 0 }) rfl]
      exact setLength_retime _ _ _ _
    · exact countBad_eq s

theorem markHoldover_eq (m : Option Nat) (e : Int) (s : State) :
    markHoldover m e s = retime (holdoverMark m e s.timing) s := by
  cases m with
  | none => exact (retime_same rfl).symm
  | some n =>
    unfold markHoldover holdoverMark
    simp only [inWindow_iff]
    split
    · exact enterAcquiring_eq e s
    · exact (retime_same rfl).symm

/-- What a mark event does to the state: it is measured, and taken under the clock state. -/
theorem takeMark_eq (e : Int) (after : Bool) (s : State) :
    takeMark e after s = retime (afterMark e after s.timing) s := by
  have hsame : (measured e s.timing).clock = s.timing.clock := rfl
  unfold takeMark afterMark
  cases s.timing.clock with
  | free => exact (enterAcquiring_eq e _).trans (retime_of_timing _ hsame)
  | acquiring => exact (markAcquiring_eq _ e after _).trans (retime_of_timing _ hsame)
  | locked => exact (markLocked_eq _ e after _).trans (retime_of_timing _ hsame)
  | holdover => exact (markHoldover_eq _ e _).trans (retime_of_timing _ hsame)

end Sys2Proof.Proofs
end

section
/-! The commands of the timing unit (R19 to R27): marks, missing marks, the quiet count and the part's own drive. Each
command is a `retime` of the state, and what the new timing unit is follows case by case. -/

namespace Sys2Proof.Proofs

open Sys2Proof.Machine Sys2Proof.Laws

variable {s : State}

/-! ## The commands of the timing unit -/

/-- The timing unit at the nominal rate in FREE (R23, R27). -/
def freed (t : Timing) : Timing := { t with clock := .free, lockCount := 0, blockLen := 24576, nextLen := 24576 }

theorem toFree_eq (s : State) : toFree s = retime (freed s.timing) s := by
  unfold toFree
  rw [setClock_eq]
  exact retime_of_timing (w := { s.timing with lockCount := 0, blockLen := nominal, nextLen := nominal }) _ rfl

theorem whileRunning_of_running {f : State → State} (h : s.running = true) : whileRunning f s = f s := if_pos h

theorem drivingAfter_iff {d : Nat} {t : Timing} : drivingAfter d t = true ↔ ∃ k, t.driveLeft = some k ∧ d < k := by
  unfold drivingAfter
  split
  · next n h => simp [h]
  · next h => simp [h]

/-- The offset of a mark at a tick of a block (R20; log entry 11). -/
theorem offsetOf_eq (tick len : Nat) : offsetOf tick len
    = max (-12288) (min 12287 (if decide (2 * tick < len) then (tick : Int) else tick - len)) := rfl

/-- A mark while the part drives the line is no activation (R19). -/
theorem markEvent_while_driving {tick k : Nat} (hk : s.timing.driveLeft = some k)
    (hd : tick - s.timing.blockTicks < k) : markEvent tick s = s :=
  whileRunning_of_same (if_pos (drivingAfter_iff.mpr ⟨k, hk, hd⟩))

/-- MARK_EVENT where the line is free and no missing mark falls due before it. -/
theorem markEvent_eq {tick : Nat} (hr : s.running = true)
    (hline : ∀ k, s.timing.driveLeft = some k → k ≤ tick - s.timing.blockTicks)
    (hmiss : NoMissBefore (tick - s.timing.blockTicks) s.timing) :
    markEvent tick s = retime (afterMark (offsetOf tick s.timing.blockLen) (nearStart tick s.timing.blockLen)
      (tickOn (tick - s.timing.blockTicks) s.timing)) s := by
  have hfree : ¬ drivingAfter (tick - s.timing.blockTicks) s.timing = true := fun h => by
    obtain ⟨k, hk, hd⟩ := drivingAfter_iff.mp h
    exact absurd (hline k hk) (by omega)
  unfold markEvent
  rw [whileRunning_of_running hr, markAt, if_neg hfree, passTicks_of_none (missesDue_of_noMissBefore hmiss), takeMark_eq]
  exact retime_of_timing _ rfl

/-- MISSING_MARK where one falls due in the running block. -/
theorem declareMissing_eq (hr : s.running = true) (hm : missInBlock s.timing = true) :
    declareMissing s = retime (ticked (nextMiss s.timing - s.timing.tickCount) s.timing) s := by
  unfold declareMissing
  rw [whileRunning_of_running hr, if_pos hm, passTicks_all]

/-- QUIET_COUNT_EXPIRY where it is due. -/
theorem expireQuiet_eq (hr : s.running = true) (hc : quietEnds s.timing.clock = true) (hq : 999 ≤ s.timing.quietCount) :
    expireQuiet s = retime (freed s.timing) { s with ahead := .quiet s.timing.clock :: s.ahead } := by
  unfold expireQuiet
  rw [whileRunning_of_running hr, if_pos ⟨hc, hq⟩, toFree_eq]

/-- MARK_LINE_RELEASE while the part drives the line. -/
theorem releaseMark_eq {n : Nat} (hr : s.running = true) (hn : s.timing.driveLeft = some n) :
    releaseMark s = retime (ticked n s.timing) s := by
  unfold releaseMark
  rw [whileRunning_of_running hr, hn]
  exact passTicks_all n s

/-- The part's own mark at a block start (R19, R20). -/
theorem driveMark_eq {active : Bool} (hc : s.config.markLead = true) (ha : active = false)
    (hd : s.timing.driveLeft = none) :
    driveMark active s = retime (afterMark 0 true { s.timing with driveLeft := some 2048 }) s := by
  unfold driveMark
  rw [if_pos (by simp [hc, ha, hd]), takeMark_eq]
  exact retime_of_timing _ rfl

theorem driveMark_no_drive {active : Bool}
    (h : s.config.markLead = false ∨ active = true ∨ s.timing.driveLeft ≠ none) : driveMark active s = s := by
  refine if_neg ?_
  obtain h | h | h := h <;> simp [h]

/-- R21: the missing mark that is next, by its number. -/
theorem nextMiss_eq {t : Timing} {k : Nat} (hlt : t.tickCount < 36864 + 24576 * k)
    (hk : k = 0 ∨ 36864 + 24576 * k - 24576 ≤ t.tickCount) : nextMiss t = 36864 + 24576 * k := by
  have h1 := (lt_missedBy_iff k t.tickCount)
  have h2 := (lt_missedBy_iff (k - 1) t.tickCount)
  unfold nextMiss
  omega

/-- Where ticks go on just to the next missing mark, that one falls due in them. -/
theorem missedWithin_next {t : Timing} {k : Nat} (ho : t.lastOffset ≠ none) (hlt : t.tickCount < 36864 + 24576 * k)
    (hk : k = 0 ∨ 36864 + 24576 * k - 24576 ≤ t.tickCount) (hmax : 36864 + 24576 * k ≤ 16777215) :
    missedWithin (36864 + 24576 * k - t.tickCount) t = 1 := by
  have h1 := (lt_missedBy_iff k t.tickCount)
  have h2 := (lt_missedBy_iff (k - 1) t.tickCount)
  have h3 := (lt_missedBy_iff k (36864 + 24576 * k))
  have h4 := (lt_missedBy_iff (k + 1) (36864 + 24576 * k))
  have hmin : min (t.tickCount + (36864 + 24576 * k - t.tickCount)) tickLimit = 36864 + 24576 * k := by
    unfold tickLimit; omega
  rw [← missesDue_eq, missesDue, if_pos (Option.isSome_iff_ne_none.mpr ho), hmin]
  omega

/-! ## A mark event, case by case -/

section
variable {t : Timing} {e : Int} {after : Bool}

theorem interval_first (h : t.lastOffset = none) : t.interval = none := by simp [Timing.interval, h]

theorem interval_later (h : t.lastOffset ≠ none) : t.interval = some t.tickCount :=
  if_pos (Option.isSome_iff_ne_none.mpr h)

theorem placedAt_placed (h : -512 ≤ e ∧ e ≤ 512) (w : Timing) : placedAt e w = w := if_pos h

theorem placedAt_misplaced (h : ¬ (-512 ≤ e ∧ e ≤ 512)) (w : Timing) :
    placedAt e w = { w with slip := true, nextLen := 24576 } := if_neg h

theorem afterMark_free (hc : t.clock = .free) : afterMark e after t = placedAt e (acquiring (measured e t)) := by
  unfold afterMark
  rw [hc]

theorem afterMark_acquiring (hc : t.clock = .acquiring) :
    afterMark e after t = acquiringMark t.interval e after (measured e t) := by
  unfold afterMark
  rw [hc]

theorem afterMark_locked (hc : t.clock = .locked) :
    afterMark e after t = lockedMark t.interval e after (measured e t) := by
  unfold afterMark
  rw [hc]

theorem afterMark_holdover (hc : t.clock = .holdover) :
    afterMark e after t = holdoverMark t.interval e (measured e t) := by
  unfold afterMark
  rw [hc]

/-- R23: the first mark event has no interval to count. -/
theorem acquiring_first (hc : t.clock = .acquiring) (h : t.lastOffset = none) :
    afterMark e after t = placedAt e (measured e t) := by
  rw [afterMark_acquiring hc, interval_first h, acquiringMark]

/-- R23: an interval out of window sets the lock count to 0. -/
theorem acquiring_outside (hc : t.clock = .acquiring)
    (h : t.lastOffset ≠ none ∧ ¬ (24551 ≤ t.tickCount ∧ t.tickCount ≤ 24601)) :
    afterMark e after t = placedAt e { measured e t with lockCount := 0 } := by
  rw [afterMark_acquiring hc, interval_later h.1, acquiringMark, if_neg h.2]

/-- R23: an interval in window counts. -/
theorem acquiring_inside (hc : t.clock = .acquiring)
    (h : t.lastOffset ≠ none ∧ 24551 ≤ t.tickCount ∧ t.tickCount ≤ 24601) (hl : t.lockCount < 15) :
    afterMark e after t = placedAt e { measured e t with lockCount := t.lockCount + 1 } := by
  have hl' : (measured e t).lockCount + 1 < 16 := Nat.add_lt_add_right hl 1
  rw [afterMark_acquiring hc, interval_later h.1, acquiringMark, if_pos h.2, if_pos hl']
  rfl

/-- R23, R25: the sixteenth interval in window locks. -/
theorem acquiring_locks (hc : t.clock = .acquiring)
    (h : t.lastOffset ≠ none ∧ 24551 ≤ t.tickCount ∧ t.tickCount ≤ 24601) (hl : t.lockCount = 15) :
    afterMark e after t = if -512 ≤ e ∧ e ≤ 512 then following t.tickCount e after (lockedOn (measured e t))
      else { lockedOn (measured e t) with slip := true, nextLen := setFrom t.tickCount } := by
  have hl' : ¬ (measured e t).lockCount + 1 < 16 := by simp [measured, hl]
  rw [afterMark_acquiring hc, interval_later h.1, acquiringMark, if_pos h.2, if_neg hl']

/-- R25: a good mark in LOCKED. -/
theorem locked_good (hc : t.clock = .locked)
    (h : t.lastOffset ≠ none ∧ 24551 ≤ t.tickCount ∧ t.tickCount ≤ 24601) (he : -512 ≤ e ∧ e ≤ 512) :
    afterMark e after t = following t.tickCount e after { measured e t with badCount := 0 } := by
  rw [afterMark_locked hc, interval_later h.1, lockedMark, if_pos ⟨h.2, he⟩]

/-- R26: a bad mark in LOCKED. -/
theorem locked_bad (hc : t.clock = .locked)
    (h : (t.lastOffset ≠ none ∧ ¬ (24551 ≤ t.tickCount ∧ t.tickCount ≤ 24601)) ∨ ¬ (-512 ≤ e ∧ e ≤ 512)) :
    afterMark e after t = badMarked (measured e t) := by
  rw [afterMark_locked hc]
  by_cases ho : t.lastOffset = none
  · rw [interval_first ho, lockedMark, if_neg (h.resolve_left fun hout => hout.1 ho)]
  · rw [interval_later ho, lockedMark, if_neg fun hgood => h.elim (fun hout => hout.2 hgood.1) (fun he => he hgood.2)]

theorem badMarked_below (h : t.badCount < 2) : badMarked t = { t with badCount := t.badCount + 1 } := by
  unfold badMarked
  rw [if_neg (by omega), min_eq_right (by omega)]

theorem badMarked_third (h : t.badCount = 2) : badMarked t = { t with clock := .holdover, badCount := 3 } := by
  simp [badMarked, h]

/-- R27: an interval in window in HOLDOVER. -/
theorem holdover_inside (hc : t.clock = .holdover)
    (h : t.lastOffset ≠ none ∧ 24551 ≤ t.tickCount ∧ t.tickCount ≤ 24601) :
    afterMark e after t = placedAt e (acquiring (measured e t)) := by
  rw [afterMark_holdover hc, interval_later h.1, holdoverMark, if_pos h.2]

/-- R27: any other mark in HOLDOVER is measured alone. -/
theorem holdover_outside (hc : t.clock = .holdover)
    (h : ¬ (t.lastOffset ≠ none ∧ 24551 ≤ t.tickCount ∧ t.tickCount ≤ 24601)) :
    afterMark e after t = measured e t := by
  rw [afterMark_holdover hc]
  by_cases ho : t.lastOffset = none
  · rw [interval_first ho, holdoverMark]
  · rw [interval_later ho, holdoverMark, if_neg fun hin => h ⟨ho, hin⟩]

end

/-- Ticks in which the part's own drive of the line has ended (R19). -/
theorem tickOn_released {d : Nat} {t : Timing} (h : ∀ k, t.driveLeft = some k → k ≤ d) :
    tickOn d t = { t with
      tickCount := min (t.tickCount + d) 16777215, blockTicks := t.blockTicks + d, driveLeft := none } := by
  have hleft : (t.driveLeft.bind fun k => if d < k then some (k - d) else none) = none :=
    Option.bind_eq_none_iff.mpr fun k hk => if_neg (Nat.not_lt.mpr (h k hk))
  unfold tickOn
  rw [hleft]
  rfl

/-- Settles O57: the mark is taken on the timing unit as its ticks leave it, case by case. -/
theorem markEventUnderTheClockState : Obligations.MarkEventUnderTheClockState := by
  intro tick s hr u d n after e placed inside outside
  refine ⟨fun ⟨k, hk, hd⟩ => congrArg Host.Outcome.next (markEvent_while_driving hk hd), fun hline hmiss => ?_⟩
  intro v gives acquire realigned long follow
  let w : Timing := { u with tickCount := n, blockTicks := u.blockTicks + d, driveLeft := none }
  have hmark : markEvent tick s = retime (afterMark e after w) s := by
    have hw : tickOn d u = w := tickOn_released hline
    rw [← hw]
    exact markEvent_eq hr hline hmiss
  have gives_of {x : Timing} (hx : afterMark e after w = x) : gives x :=
    ⟨_, congrArg Host.Outcome.next (hx ▸ hmark), retime_frame x s, box_mem_retime⟩
  have gives_placed {x : Timing} (hx : afterMark e after w = placedAt e x) :
      (placed → gives x) ∧ (¬ placed → gives (realigned x)) :=
    ⟨fun hp => gives_of (hx.trans (placedAt_placed hp x)), fun hp => gives_of (hx.trans (placedAt_misplaced hp x))⟩
  refine ⟨fun hc => gives_placed (afterMark_free (t := w) hc), fun hc => ⟨?_, ?_, ?_, ?_⟩, fun hc => ⟨?_, ?_⟩,
    fun hc => ⟨?_, ?_, ?_⟩⟩
  · exact fun hout => gives_placed (acquiring_outside (t := w) hc hout)
  · exact fun ho => gives_placed (acquiring_first (t := w) hc ho)
  · exact fun hin hl => gives_placed (acquiring_inside (t := w) hc hin hl)
  · intro hin hl
    have hlock := acquiring_locks (t := w) (e := e) (after := after) hc hin hl
    exact ⟨fun hp => gives_of (hlock.trans (if_pos hp)), fun hp => gives_of (hlock.trans (if_neg hp))⟩
  · exact fun hin hp => gives_of (locked_good (t := w) hc hin hp)
  · intro hbad
    have hlost := locked_bad (t := w) (e := e) (after := after) hc hbad
    exact ⟨fun hb => gives_of (hlost.trans (badMarked_below hb)), fun hb => gives_of (hlost.trans (badMarked_third hb))⟩
  · exact fun hout => gives_of (holdover_outside (t := w) hc hout)
  · exact fun hin => (gives_placed (holdover_inside (t := w) hc hin)).1
  · exact fun hin => (gives_placed (holdover_inside (t := w) hc hin)).2

/-! ## Entering LOCKED and HOLDOVER -/

theorem retime_running (w : Timing) (s : State) : (retime w s).running = s.running := by
  rw [retime_frame]
  rfl

theorem retime_lockLine (w : Timing) (s : State) : (retime w s).lockLine = (s.running && w.clock == .locked) := by
  rw [State.lockLine, retime_running, retime_timing]

theorem placedAt_clock (e : Int) (w : Timing) : (placedAt e w).clock = w.clock := by
  unfold placedAt
  split <;> rfl

/-- R23: the mark that completes the lock count locks, well placed or not. -/
theorem acquiring_locks_clock {t : Timing} {e : Int} {after : Bool} (hc : t.clock = .acquiring)
    (h : t.lastOffset ≠ none ∧ 24551 ≤ t.tickCount ∧ t.tickCount ≤ 24601) (hl : t.lockCount = 15) :
    (afterMark e after t).clock = .locked := by
  rw [acquiring_locks hc h hl]
  split <;> rfl

theorem enterLockedAt_of_locked {tick : Nat} (hs : s.timing.clock = .acquiring)
    (ht : (markEvent tick s).timing.clock = .locked) : enterLockedAt tick s = markEvent tick s := if_pos ⟨hs, ht⟩

theorem enterHoldoverBy_mark {tick : Nat} (hs : s.timing.clock = .locked)
    (ht : (markEvent tick s).timing.clock = .holdover) : enterHoldoverBy (.mark tick) s = markEvent tick s :=
  if_pos ⟨hs, ht⟩

theorem enterHoldoverBy_missing (hs : s.timing.clock = .locked)
    (ht : (declareMissing s).timing.clock = .holdover) : enterHoldoverBy .missing s = declareMissing s :=
  if_pos ⟨hs, ht⟩

/-- A missing mark that falls due in the running block, by its number (R21). -/
theorem declareMissing_of_due {k : Nat} (hr : s.running = true) (ho : s.timing.lastOffset ≠ none)
    (hlt : s.timing.tickCount < 36864 + 24576 * k)
    (hk : k = 0 ∨ 36864 + 24576 * k - 24576 ≤ s.timing.tickCount) (hmax : 36864 + 24576 * k ≤ 16777215)
    (hblock : 36864 + 24576 * k - s.timing.tickCount ≤ s.timing.blockLen - s.timing.blockTicks) :
    declareMissing s = retime (ticked (36864 + 24576 * k - s.timing.tickCount) s.timing) s := by
  have hnext := nextMiss_eq hlt hk
  rw [declareMissing_eq hr, hnext]
  simp [missInBlock, hnext, tickLimit, Option.isSome_iff_ne_none, ho, hmax, hblock]

theorem ticked_one {d : Nat} {t : Timing} (h : missedWithin d t = 1) : ticked d t = missed 1 (tickOn d t) := by
  rw [← missed_tickOn, h]

/-- Ticks up to a tick count within the limit reach it (R20). -/
theorem ticked_tickCount {due : Nat} {t : Timing} (hle : t.tickCount ≤ due) (hmax : due ≤ 16777215) :
    (ticked (due - t.tickCount) t).tickCount = due := by
  simp only [ticked]
  omega

/-- Settles O58. -/
theorem lockedAndHoldoverAreEntered : Obligations.LockedAndHoldoverAreEntered := by
  refine ⟨fun tick s hr hc hl hline ho hmiss hlo hhi => ?_, fun tick s hr hc hb => ?_,
    fun s k hr hc hb ho => ?_, fun tick s t h => ?_⟩
  · have hclock := acquiring_locks_clock (t := tickOn (tick - s.timing.blockTicks) s.timing)
      (e := offsetOf tick s.timing.blockLen) (after := nearStart tick s.timing.blockLen) hc
      ⟨ho, by simp only [tickOn, tickLimit]; omega⟩ hl
    have hmark := markEvent_eq hr hline hmiss
    refine ⟨markEvent tick s, ?_, rfl, ?_, ?_⟩
    · exact congrArg Host.Outcome.next (enterLockedAt_of_locked hc (by rw [hmark, retime_timing, hclock]))
    · rw [hmark, retime_timing, hclock]
    · rw [hmark, retime_lockLine, hclock, hr]
      rfl
  · intro u d n e hline hmiss hbad
    have he : offsetOf tick u.blockLen = e := by simp only [offsetOf_eq, decide_eq_true_eq, e]
    have hout : (u.lastOffset ≠ none ∧ ¬ (24551 ≤ min n 16777215 ∧ min n 16777215 ≤ 24601))
        ∨ ¬ (-512 ≤ offsetOf tick u.blockLen ∧ offsetOf tick u.blockLen ≤ 512) := by
      rw [he]
      exact hbad.imp_left fun h => ⟨h.1, fun hin => h.2 (by omega)⟩
    have hmark := markEvent_eq hr hline hmiss
    have hclock : (afterMark (offsetOf tick u.blockLen) (nearStart tick u.blockLen) (tickOn d u)).clock = .holdover := by
      rw [locked_bad (t := tickOn d u) hc hout, badMarked_third]
      exact hb
    refine ⟨markEvent tick s, ?_, rfl, ?_, ?_⟩
    · exact congrArg Host.Outcome.next (enterHoldoverBy_mark hc (by rw [hmark, retime_timing, hclock]))
    · rw [hmark, retime_timing, hclock]
    · rw [hmark, retime_lockLine, hclock, hr]
      rfl
  · intro due hlt hk hmax hblock
    have hmiss := declareMissing_of_due hr ho hlt hk hmax hblock
    have hone := missedWithin_next ho hlt hk hmax
    have hclock : (ticked (due - s.timing.tickCount) s.timing).clock = .holdover := by
      rw [ticked_one hone]
      simp [missed, tickOn, hc, hb]
    refine ⟨declareMissing s, ?_, rfl, ?_, ?_, ?_⟩
    · exact congrArg Host.Outcome.next (enterHoldoverBy_missing hc (by rw [hmiss, retime_timing, hclock]))
    · rw [hmiss, retime_timing, hclock]
    · rw [hmiss, retime_timing]
      exact ticked_tickCount hlt.le hmax
    · rw [hmiss, retime_lockLine, hclock, hr]
      rfl
  · have ht : markEvent tick s = t := Host.Outcome.next.inj h
    exact ⟨fun hno => congrArg Host.Outcome.next (if_neg (ht ▸ hno)),
      fun hno => congrArg Host.Outcome.next (if_neg (fun h => hno (ht ▸ h)))⟩

/-! ## Missing marks, the quiet count and the part's own drive -/

theorem retime_frame_timing {t : State} {w : Timing} (h : t = retime w s) :
    t = { s with timing := t.timing, report := { s.report with keys := t.report.keys } } := by
  subst h
  conv_lhs => rw [retime_frame]
  rw [retime_timing]

theorem keysAsked_retime {t : State} {w : Timing} (h : t = retime w s) :
    KeysAsked (fun k => k = .box ∧ t.timing.clock ≠ s.timing.clock) s t := by
  subst h
  rw [retime_timing]
  exact retime_keysAsked w s

/-- The part drives the line till its ticks have passed (R19). -/
theorem ticked_driveLeft {n : Nat} {t : Timing} (h : t.driveLeft = some n) : (ticked n t).driveLeft = none := by
  simp [ticked, h]

/-- A mark on its own boundary is well placed (R19). -/
theorem placedAt_zero (w : Timing) : placedAt 0 w = w := placedAt_placed (by omega) w

theorem following_zero (n : Nat) (w : Timing) :
    following n 0 true w = { w with blockLen := setFrom n, nextLen := setFrom n } := by
  simp [following]

/-- Settles O59. -/
theorem missingMarksQuietAndRelease : Obligations.MissingMarksQuietAndRelease := by
  refine ⟨fun s k hr ho => ?_, fun s hr hc hq => ?_, fun s n hr hn => ?_, fun active s => ?_⟩
  · intro due d hlt hk hmax hblock
    have hmiss : declareMissing s = retime (ticked d s.timing) s := declareMissing_of_due hr ho hlt hk hmax hblock
    have hone : ticked d s.timing = missed 1 (tickOn d s.timing) := ticked_one (missedWithin_next ho hlt hk hmax)
    have htiming : (declareMissing s).timing = ticked d s.timing := by rw [hmiss, retime_timing]
    refine ⟨declareMissing s, rfl, retime_frame_timing hmiss, ?_, ?_, ?_, htiming, keysAsked_retime hmiss, ?_⟩
    · rw [htiming]
      exact ticked_tickCount hlt.le hmax
    · rw [htiming, ticked]
    · rw [htiming, ticked]
    · rw [htiming, hone]
      refine ⟨fun hc => ?_, fun hc => ?_, fun hc hb => ?_, fun hc hb => ?_⟩
      · rw [missed_idle]
        · exact ⟨rfl, rfl, rfl⟩
        all_goals obtain hc | hc := hc <;> simp [tickOn, hc]
      · simp [missed, tickOn, hc]
      · simp only [missed, tickOn, hc]
        refine ⟨if_neg (by omega), ?_⟩
        rw [if_pos ⟨trivial, Nat.one_pos⟩, min_eq_right (by omega)]
      · refine ⟨by simp [missed, tickOn, hc, hb], ?_⟩
        rw [hmiss]
        exact box_mem_retime (by rw [hone]; simp [missed, tickOn, hc, hb])
  · have hends : quietEnds s.timing.clock = true := by obtain hc | hc := hc <;> rw [hc] <;> rfl
    refine ⟨_, congrArg Host.Outcome.next (expireQuiet_eq hr hends hq), retime_frame _ _, box_mem_retime ?_⟩
    obtain hc | hc := hc <;> simp [freed, hc]
  · have hrel := releaseMark_eq hr hn
    have htiming : (releaseMark s).timing = ticked n s.timing := by rw [hrel, retime_timing]
    refine ⟨releaseMark s, rfl, ?_, ?_, htiming, keysAsked_retime hrel, retime_frame_timing hrel⟩
    · rw [htiming, ticked_driveLeft hn]
    · rw [htiming, ticked]
  · intro u t v n inside outside acquire gives
    refine ⟨driveMark_no_drive, fun hlead hline hdrive => ?_⟩
    let w : Timing := { u with driveLeft := some 2048 }
    have gives_of {x : Timing} (hx : afterMark 0 true w = x) : gives x := by
      have ht : t = retime x s := hx ▸ driveMark_eq hlead hline hdrive
      refine ⟨?_, fun hne => ht ▸ box_mem_retime hne⟩
      rw [ht]
      exact retime_frame x s
    have gives_placed {x : Timing} (hx : afterMark 0 true w = placedAt 0 x) : gives x :=
      gives_of (hx.trans (placedAt_zero x))
    have gives_length {x : Timing} (hx : afterMark 0 true w = following n 0 true x) :
        gives { x with blockLen := setFrom n, nextLen := setFrom n } := gives_of (hx.trans (following_zero n x))
    have hplaced : -512 ≤ (0 : Int) ∧ (0 : Int) ≤ 512 := by omega
    refine ⟨fun hc => gives_placed (afterMark_free (t := w) hc), fun hc => ⟨?_, ?_, ?_, ?_⟩, fun hc => ⟨?_, ?_, ?_⟩,
      fun hc => ⟨?_, ?_⟩⟩
    · exact fun ho => gives_placed (acquiring_first (t := w) hc ho)
    · exact fun hout => gives_placed (acquiring_outside (t := w) hc hout)
    · exact fun hin hl => gives_placed (acquiring_inside (t := w) hc hin hl)
    · exact fun hin hl => gives_length ((acquiring_locks (t := w) hc hin hl).trans (if_pos hplaced))
    · exact fun hin => gives_length (locked_good (t := w) hc hin hplaced)
    · exact fun hout hb => gives_of ((locked_bad (t := w) hc (.inl hout)).trans (badMarked_below hb))
    · exact fun hout hb => gives_of ((locked_bad (t := w) hc (.inl hout)).trans (badMarked_third hb))
    · exact fun hin => gives_placed (holdover_inside (t := w) hc hin)
    · exact fun hout => gives_of (holdover_outside (t := w) hc hout)

/-- Settles O1. -/
theorem stepRunsFrontCommand : Obligations.StepRunsFrontCommand :=
  ⟨fun _ _ => rfl, fun s h => by unfold step; rw [h]⟩

end Sys2Proof.Proofs
end

section
/-! The timing law is kept (R17, R20 to R27): it speaks of the timing unit alone, each change of the timing unit keeps its
items in their ranges, and the commands that no time passes in leave the timing unit as it was. -/

namespace Sys2Proof.Proofs

open Sys2Proof.Machine Sys2Proof.Laws

/-! ## The ranges of the timing unit -/

/-- The timing law, as a property of the timing unit. -/
structure InRange (t : Timing) : Prop where
  blockLen : LengthInRange t.blockLen
  nextLen : LengthInRange t.nextLen
  nominal : t.clock = .free ∨ t.clock = .acquiring → t.blockLen = 24576 ∧ t.nextLen = 24576
  ticks : t.tickCount ≤ 16777215
  quiet : t.quietCount ≤ 65535
  begun : t.begun ≤ 48
  lock : t.lockCount ≤ 16
  lockAcquiring : t.clock = .acquiring → t.lockCount < 16
  bad : t.badCount ≤ 3
  badLocked : t.clock = .locked → t.badCount < 3
  offset : ∀ e, t.lastOffset = some e → -12288 ≤ e ∧ e ≤ 12287
  drive : ∀ n, t.driveLeft = some n → n ≤ 2048

theorem timingLaw_iff {s : State} : TimingLaw s ↔ InRange s.timing := by
  constructor
  · rintro ⟨hblock, hnext, hnominal, hticks, hquiet, hbegun, hlock, hlockA, hbad, hbadL, hoffset, hdrive⟩
    exact ⟨hblock, hnext, hnominal, hticks, hquiet, hbegun, hlock, hlockA, hbad, hbadL, hoffset, hdrive⟩
  · rintro ⟨hblock, hnext, hnominal, hticks, hquiet, hbegun, hlock, hlockA, hbad, hbadL, hoffset, hdrive⟩
    exact ⟨hblock, hnext, hnominal, hticks, hquiet, hbegun, hlock, hlockA, hbad, hbadL, hoffset, hdrive⟩

variable {t : Timing}

theorem setFrom_lengthInRange (n : Int) : LengthInRange (setFrom n) := by
  unfold LengthInRange setFrom
  omega

theorem nominal_lengthInRange : LengthInRange 24576 := by simp [LengthInRange]

theorem inRange_start : InRange Timing.start := by
  constructor <;> simp [Timing.start, LengthInRange, nominal]

theorem inRange_measured {e : Int} (h : InRange t) (he : -12288 ≤ e ∧ e ≤ 12287) : InRange (measured e t) :=
  { h with ticks := Nat.zero_le _, quiet := Nat.zero_le _, offset := fun _ hx => Option.some.inj hx ▸ he }

theorem inRange_acquiring (h : InRange t) : InRange (acquiring t) :=
  { h with
    blockLen := nominal_lengthInRange, nextLen := nominal_lengthInRange, nominal := fun _ => ⟨rfl, rfl⟩
    lock := Nat.zero_le _, lockAcquiring := fun _ => by simp [acquiring], badLocked := nofun }

theorem inRange_freed (h : InRange t) : InRange (freed t) :=
  { h with
    blockLen := nominal_lengthInRange, nextLen := nominal_lengthInRange, nominal := fun _ => ⟨rfl, rfl⟩
    lock := Nat.zero_le _, lockAcquiring := nofun, badLocked := nofun }

theorem inRange_realigned (h : InRange t) : InRange { t with slip := true, nextLen := 24576 } :=
  { h with nextLen := nominal_lengthInRange, nominal := fun hc => ⟨(h.nominal hc).1, rfl⟩ }

theorem inRange_placedAt (e : Int) (h : InRange t) : InRange (placedAt e t) := by
  unfold placedAt
  split
  · exact h
  · exact inRange_realigned h

theorem inRange_lockCount {n : Nat} (h : InRange t) (hn : n < 16) : InRange { t with lockCount := n } :=
  { h with lock := hn.le, lockAcquiring := fun _ => hn }

theorem inRange_lockedOn (h : InRange t) : InRange (lockedOn t) :=
  { h with
    nominal := nofun, lock := le_refl 16, lockAcquiring := nofun, bad := Nat.zero_le _
    badLocked := fun _ => Nat.zero_lt_succ 2 }

/-- The block lengths are set from marks in LOCKED alone (R25). -/
theorem inRange_nextLen {n : Int} (h : InRange t) (hc : t.clock = .locked) : InRange { t with nextLen := setFrom n } :=
  { h with nextLen := setFrom_lengthInRange n, nominal := fun hno => by simp [hc] at hno }

theorem inRange_following {n : Nat} {e : Int} {after : Bool} (h : InRange t) (hc : t.clock = .locked) :
    InRange (following n e after t) :=
  { h with
    blockLen := by
      unfold following
      split
      exacts [setFrom_lengthInRange _, h.blockLen]
    nextLen := setFrom_lengthInRange _
    nominal := fun hno => by simp [following, hc] at hno }

theorem inRange_badCount (h : InRange t) : InRange { t with badCount := 0 } :=
  { h with bad := Nat.zero_le _, badLocked := fun _ => Nat.zero_lt_succ 2 }

theorem inRange_missed (n : Nat) (h : InRange t) : InRange (missed n t) := by
  obtain ⟨hblock, hnext, hnominal, hticks, hquiet, hbegun, hlock, hlockA, hbad, hbadL, hoffset, hdrive⟩ := h
  refine ⟨hblock, hnext, fun hc => ?_, hticks, hquiet, hbegun, ?_, fun hc => ?_, ?_, fun hc => ?_, hoffset, hdrive⟩
  all_goals
    simp only [missed] at *
    grind

theorem inRange_badMarked (h : InRange t) (hc : t.clock = .locked) : InRange (badMarked t) := by
  have hmissed : badMarked t = missed 1 t := by simp [badMarked, missed, hc]
  exact hmissed ▸ inRange_missed 1 h

theorem inRange_acquiringMark (m : Option Nat) (e : Int) (after : Bool) (h : InRange t) :
    InRange (acquiringMark m e after t) := by
  cases m with
  | none => exact inRange_placedAt e h
  | some n =>
    unfold acquiringMark
    dsimp only
    split
    · split
      · next hl => exact inRange_placedAt e (inRange_lockCount h hl)
      · split
        · exact inRange_following (inRange_lockedOn h) rfl
        · exact inRange_nextLen (t := { lockedOn t with slip := true }) { inRange_lockedOn h with } rfl
    · exact inRange_placedAt e (inRange_lockCount h (Nat.zero_lt_succ 15))

theorem inRange_lockedMark (m : Option Nat) (e : Int) (after : Bool) (h : InRange t) (hc : t.clock = .locked) :
    InRange (lockedMark m e after t) := by
  cases m with
  | none =>
    unfold lockedMark
    dsimp only
    split
    exacts [h, inRange_badMarked h hc]
  | some n =>
    unfold lockedMark
    dsimp only
    split
    exacts [inRange_following (inRange_badCount h) hc, inRange_badMarked h hc]

theorem inRange_holdoverMark (m : Option Nat) (e : Int) (h : InRange t) : InRange (holdoverMark m e t) := by
  cases m with
  | none => exact h
  | some n =>
    unfold holdoverMark
    dsimp only
    split
    exacts [inRange_placedAt e (inRange_acquiring h), h]

/-- A mark event whose offset is in its range keeps the items in theirs. -/
theorem inRange_afterMark {e : Int} (after : Bool) (h : InRange t) (he : -12288 ≤ e ∧ e ≤ 12287) :
    InRange (afterMark e after t) := by
  have hm : InRange (measured e t) := inRange_measured h he
  cases hc : t.clock with
  | free => rw [afterMark_free hc]; exact inRange_placedAt e (inRange_acquiring hm)
  | acquiring => rw [afterMark_acquiring hc]; exact inRange_acquiringMark _ e after hm
  | locked => rw [afterMark_locked hc]; exact inRange_lockedMark _ e after hm hc
  | holdover => rw [afterMark_holdover hc]; exact inRange_holdoverMark _ e hm

theorem inRange_tickOn (d : Nat) (h : InRange t) : InRange (tickOn d t) :=
  { h with
    ticks := min_le_right _ _
    drive := fun n hn => by
      obtain ⟨k, hk, hleft⟩ := Option.bind_eq_some_iff.mp hn
      have := h.drive k hk
      split at hleft
      · have := Option.some.inj hleft
        omega
      · exact absurd hleft nofun }

theorem inRange_nextBlock (h : InRange t) : InRange (nextBlock t) :=
  { h with
    blockLen := h.nextLen, nominal := fun hc => ⟨(h.nominal hc).2, (h.nominal hc).2⟩, quiet := min_le_left _ _
    begun := Nat.zero_le _ }

theorem offsetOf_inRange (tick len : Nat) : -12288 ≤ offsetOf tick len ∧ offsetOf tick len ≤ 12287 := by
  unfold offsetOf
  omega

/-! ## What passes time -/

variable {s : State}

theorem inRange_passTicks (d checked : Nat) (h : InRange s.timing) : InRange (passTicks d checked s).timing := by
  rw [passTicks_eq, retime_timing]
  exact inRange_missed _ (inRange_tickOn d h)

theorem inRange_whileRunning {f : State → State} (hf : InRange s.timing → InRange (f s).timing)
    (h : InRange s.timing) : InRange (whileRunning f s).timing := by
  unfold whileRunning
  split
  exacts [hf h, h]

theorem inRange_markEvent (tick : Nat) (h : InRange s.timing) : InRange (markEvent tick s).timing := by
  refine inRange_whileRunning (fun h => ?_) h
  unfold markAt
  dsimp only
  split
  · exact h
  · rw [takeMark_eq, retime_timing]
    exact inRange_afterMark _ (inRange_passTicks _ _ h) (offsetOf_inRange _ _)

theorem inRange_declareMissing (h : InRange s.timing) : InRange (declareMissing s).timing := by
  refine inRange_whileRunning (fun h => ?_) h
  split
  exacts [inRange_passTicks _ _ h, h]

/-- Of two states that keep the ranges, either does. -/
theorem inRange_ite {p : Prop} [Decidable p] {u v : State} (hu : InRange u.timing) (hv : InRange v.timing) :
    InRange (if p then u else v).timing := by
  split
  exacts [hu, hv]

theorem inRange_enterLockedAt (tick : Nat) (h : InRange s.timing) : InRange (enterLockedAt tick s).timing :=
  inRange_ite (inRange_markEvent tick h) h

theorem inRange_enterHoldoverBy (cause : BadMark) (h : InRange s.timing) :
    InRange (enterHoldoverBy cause s).timing := by
  cases cause with
  | mark tick => exact inRange_ite (inRange_markEvent tick h) h
  | missing => exact inRange_ite (inRange_declareMissing h) h

theorem inRange_expireQuiet (h : InRange s.timing) : InRange (expireQuiet s).timing := by
  refine inRange_whileRunning (fun h => ?_) h
  split
  · rw [toFree_eq, retime_timing]
    exact inRange_freed h
  · exact h

theorem inRange_releaseMark (h : InRange s.timing) : InRange (releaseMark s).timing := by
  refine inRange_whileRunning (fun h => ?_) h
  split
  exacts [inRange_passTicks _ _ h, h]

theorem inRange_driveMark (active : Bool) (h : InRange s.timing) : InRange (driveMark active s).timing := by
  unfold driveMark
  split
  · rw [takeMark_eq, retime_timing]
    exact inRange_afterMark true { h with drive := fun n hn => (Option.some.inj hn).symm.le } (by omega)
  · exact h

theorem inRange_beginBlock (h : InRange s.timing) : InRange (beginBlock s).timing := by
  unfold beginBlock
  dsimp only
  split
  · rw [toFree_eq, retime_timing]
    exact inRange_freed (inRange_nextBlock h)
  · exact inRange_nextBlock h

theorem endBlock_timing (s : State) :
    (endBlock s).timing = (passTicks (ticksLeft s.timing) (ticksLeft s.timing) s).timing := by
  unfold endBlock
  simp

theorem toSample_begun (s : State) : (toSample s).timing.begun = s.timing.begun := by
  unfold toSample
  rw [passTicks_all, retime_timing]
  rfl

theorem sampleWork_timing (frame : Tab Sample 32) (s : State) :
    (sampleWork frame s).timing = { (toSample s).timing with begun := (toSample s).timing.begun + 1 } := by
  unfold sampleWork
  simp

/-- The only task of a block start that moves the timing unit is the part's own mark. -/
theorem blockTasks_timing (i : BlockInputs) (s : State) :
    (blockTasks i s).timing = (driveMark i.markLine s).timing := by
  unfold blockTasks
  simp

theorem inRange_blockStart (i : BlockInputs) (h : InRange s.timing) : InRange (blockStart i s).timing := by
  refine inRange_whileRunning (fun h => ?_) h
  have hended : InRange (endBlock s).timing := endBlock_timing s ▸ inRange_passTicks _ _ h
  simp only [blockWork, clearAhead_timing, periodic_keeps, blockTasks_timing]
  exact inRange_driveMark _ (inRange_beginBlock hended)

theorem inRange_startUpEnd (mainGood auxGood : Bool) (lines : Tab Bool 6) (i : BlockInputs) (h : InRange s.timing) :
    InRange (startUpEnd mainGood auxGood lines i s).timing := by
  unfold startUpEnd
  split
  · rw [clearAhead_timing, blockTasks_timing]
    exact inRange_driveMark _ h
  · exact h

theorem inRange_samplePeriod (frame : Tab Sample 32) (h : InRange s.timing) :
    InRange (samplePeriod frame s).timing := by
  unfold samplePeriod
  split
  · next hgo =>
    obtain ⟨-, -, hbegun⟩ : s.running = true ∧ s.timing.slip = false ∧ s.timing.begun < 48 := by
      simpa [Timing.blockOver] using hgo
    have hrow : InRange (toSample s).timing := inRange_passTicks _ _ h
    rw [sampleWork_timing]
    exact { hrow with begun := by rw [toSample_begun]; exact hbegun }
  · exact h

/-! ## What passes no time -/

/-- The commands that pass ticks, take marks or begin a block or a start. -/
def passesTime : Instr → Bool
  | .powerOn _ | .resetLine _ | .resetLineHeld | .startUpEnd _ _ _ _ | .blockStart _ | .samplePeriod _ | .markEvent _
  | .enterLocked _ | .enterHoldover _ | .missingMark | .quietCountExpiry | .markLineRelease => true
  | _ => false

theorem hear_timing {st : Station} {role : Role} {k : State → State} (hk : ∀ u, (k u).timing = u.timing) (s : State) :
    (hear st role k s).timing = s.timing := by
  unfold hear
  (repeat' split) <;> simp [hk]

theorem request_timing {e : Envelope} {k : State → State} (hk : ∀ u, (k u).timing = u.timing) (s : State) :
    (request e k s).timing = s.timing :=
  hear_timing (fun u => by split; exacts [hk u, rfl]) s

theorem withHolder_timing {e : Envelope} {kind feed : Byte} {k : Feed → State → State} {s : State}
    (hk : ∀ f, (k f s).timing = s.timing) : (withHolder e kind feed k s).timing = s.timing := by
  unfold withHolder
  split
  · split
    exacts [hk _, rfl]
  · rfl

theorem whileRunning_timing {f : State → State} (hf : ∀ u, (f u).timing = u.timing) (s : State) :
    (whileRunning f s).timing = s.timing := by
  unfold whileRunning
  split
  exacts [hf s, rfl]

theorem lockPass_timing (e : Envelope) (kind : Byte) (f : Feed) (unlocking : Bool) (cs : List Chan)
    {k : Chan → State → State} (hk : ∀ c u, (k c u).timing = u.timing) (s : State) :
    (lockPass e kind f unlocking cs k s).timing = s.timing := by
  unfold lockPass
  split
  · rfl
  · exact forEach_keeps State.timing hk s

theorem takeClaim_timing (e : Envelope) (feed : Byte) (before : Tab FeedRec 6) (s : State) :
    (takeClaim e feed before s).timing = s.timing := by
  unfold takeClaim
  (repeat' split) <;> simp

theorem takeLink_timing (source : Station) (group flags candidate locked backoff : Byte) (s : State) :
    (takeLink source group flags candidate locked backoff s).timing = s.timing := by
  unfold takeLink
  (repeat' split) <;> simp

theorem takeOpen_timing (e : Envelope) (feed count : Byte) (s : State) :
    (takeOpen e feed count s).timing = s.timing :=
  withHolder_timing fun f => by
    unfold decideOpen
    (repeat' split) <;> simp

theorem takeEntry_timing (e : Envelope) (feed chan flags gain : Byte) (s : State) :
    (takeEntry e feed chan flags gain s).timing = s.timing := by
  unfold takeEntry botchEntry
  (repeat' split) <;> simp

theorem takeCommit_timing (e : Envelope) (s : State) : (takeCommit e s).timing = s.timing := by
  unfold takeCommit
  (repeat' split) <;> simp

theorem takeCancel_timing (e : Envelope) (s : State) : (takeCancel e s).timing = s.timing := by
  unfold takeCancel
  (repeat' split) <;> simp

theorem takeBoxReset_timing (e : Envelope) (rb : Readback) (s : State) :
    (takeBoxReset e rb s).timing = s.timing := by
  unfold takeBoxReset
  split <;> simp

theorem takeSetDemand_timing (e : Envelope) (feed first last flags gain : Byte) (s : State) :
    (takeSetDemand e feed first last flags gain s).timing = s.timing :=
  withHolder_timing fun f => by (repeat' split) <;> simp [setDemandDone]

theorem takeClearDemand_timing (e : Envelope) (feed first last : Byte) (s : State) :
    (takeClearDemand e feed first last s).timing = s.timing :=
  withHolder_timing fun f => by split <;> simp

theorem takeLock_timing (e : Envelope) (feed first last mode : Byte) (s : State) :
    (takeLock e feed first last mode s).timing = s.timing := by
  refine withHolder_timing fun f => ?_
  (repeat' split)
  · exact lockPass_timing _ _ _ _ _ (fun c u => by simp) s
  all_goals rfl

theorem takeUnlock_timing (e : Envelope) (feed first last : Byte) (s : State) :
    (takeUnlock e feed first last s).timing = s.timing := by
  refine withHolder_timing fun f => ?_
  split
  · exact lockPass_timing _ _ _ _ _ (fun c u => by simp) s
  · rfl

theorem takeHeadroomReset_timing (e : Envelope) (feed first last : Byte) (s : State) :
    (takeHeadroomReset e feed first last s).timing = s.timing :=
  withHolder_timing fun f => by split <;> simp

theorem takeTone_timing (e : Envelope) (feed first last state : Byte) (s : State) :
    (takeTone e feed first last state s).timing = s.timing :=
  withHolder_timing fun f => by (repeat' split) <;> simp

theorem phantomCommand_timing (s : State) : (∀ c, (settleEnd c s).timing = s.timing)
    ∧ (∀ c, (shortTrip c s).timing = s.timing) ∧ (shedLoad s).timing = s.timing ∧ (bankChange s).timing = s.timing := by
  refine ⟨fun c => whileRunning_timing (fun u => ?_) s, fun c => whileRunning_timing (fun u => ?_) s,
    whileRunning_timing (fun u => ?_) s, whileRunning_timing (fun u => ?_) s⟩
  · (repeat' split) <;> simp
  · dsimp only
    split <;> simp [settlesAhead]
  · split <;> simp [settlesAhead]
  · split <;> simp [settlesAhead]

theorem lineChange_timing (f : Feed) (up : Bool) (s : State) : (lineChange f up s).timing = s.timing := by
  unfold lineChange
  dsimp only
  (repeat' split) <;> simp

/-- No time passes in any other command. -/
theorem exec_timing {c : Instr} {s t : State} (hc : passesTime c = false) (h : exec c s = .next t) :
    t.timing = s.timing := by
  have next {u : State} (h : Host.Outcome.next (φ := Fault) (ρ := Refusal) u = .next t) (hu : u.timing = s.timing) :
      t.timing = s.timing := Host.Outcome.next.inj h ▸ hu
  obtain ⟨hsettle, htrip, hshed, hbank⟩ := phantomCommand_timing s
  cases c with
  | presence e => exact next h (hear_timing (fun _ => rfl) s)
  | reply e => exact next h (hear_timing (fun _ => rfl) s)
  | channelState e => exact next h (hear_timing (fun _ => rfl) s)
  | boxState e => exact next h (hear_timing (fun _ => rfl) s)
  | invalidMessage st kind => exact next h (hear_timing (fun u => by rfl) s)
  | linkCandidate e g fl ca lo ba => exact next h (hear_timing (takeLink_timing e.source g fl ca lo ba) s)
  | claim e f => exact next h (request_timing (takeClaim_timing e f s.feeds) s)
  | release e f => exact next h (request_timing (fun u => withHolder_timing fun f => by simp) s)
  | setDemand e f a b fl g => exact next h (request_timing (takeSetDemand_timing e f a b fl g) s)
  | clearDemand e f a b => exact next h (request_timing (takeClearDemand_timing e f a b) s)
  | lock e f a b m => exact next h (request_timing (takeLock_timing e f a b m) s)
  | unlock e f a b => exact next h (request_timing (takeUnlock_timing e f a b) s)
  | headroomReset e f a b => exact next h (request_timing (takeHeadroomReset_timing e f a b) s)
  | tone e f a b st => exact next h (request_timing (takeTone_timing e f a b st) s)
  | batchOpen e f n => exact next h (request_timing (takeOpen_timing e f n) s)
  | batchEntry e f c fl g => exact next h (request_timing (takeEntry_timing e f c fl g) s)
  | batchCommit e => exact next h (request_timing (takeCommit_timing e) s)
  | batchCancel e => exact next h (request_timing (takeCancel_timing e) s)
  | boxReset e rb => exact next h (request_timing (takeBoxReset_timing e rb) s)
  | receptionDiscarded cause => exact next h (by unfold receptionDiscarded; split <;> rfl)
  | transmissionAttempt =>
    exact next h (by unfold transmissionAttempt beginAttempt; (repeat' split) <;> rfl)
  | lostAttempt bytes => exact next h (whileRunning_timing (fun u => by split <;> rfl) s)
  | transmissionFault => exact next h (whileRunning_timing (fun u => by split <;> rfl) s)
  | messageSent => exact next h (whileRunning_timing (fun u => by split <;> simp) s)
  | pairIdle => exact next h (by unfold pairIdle; (repeat' split) <;> rfl)
  | batchWrite => exact next h (by unfold batchWrite; (repeat' split) <;> simp)
  | batchTimeout => exact next h (by unfold batchTimeout; (repeat' split) <;> rfl)
  | compensation c => exact next h (by unfold compensation; (repeat' split) <;> simp)
  | retryWrite c code => exact next h (by unfold retryWrite; (repeat' split) <;> simp)
  | windowClose => exact next h (by unfold windowClose; split <;> simp)
  | stationLoss st =>
    exact next h (whileRunning_timing (fun u => by (repeat' split) <;> simp) s)
  | linkEntryExpiry g source => exact next h (whileRunning_timing (fun u => by simp) s)
  | settleEnd c => exact next h (hsettle c)
  | shortTrip c => exact next h (htrip c)
  | shedLoad => exact next h hshed
  | bankChange => exact next h hbank
  | powerGoodChange mg ag => exact next h (by unfold powerGoodChange; split <;> rfl)
  | portLineChange f up => exact next h (whileRunning_timing (lineChange_timing f up) s)
  | feedBlockSent f => exact next h (whileRunning_timing (fun u => by rfl) s)
  | powerOn | resetLine | resetLineHeld | startUpEnd | blockStart | samplePeriod | markEvent | enterLocked
  | enterHoldover | missingMark | quietCountExpiry | markLineRelease => exact absurd hc nofun

/-! ## Every command -/

theorem exec_timingLaw (c : Instr) {s t : State} (hs : TimingLaw s) (h : exec c s = .next t) : TimingLaw t := by
  rw [timingLaw_iff] at hs ⊢
  have next {u : State} (h : Host.Outcome.next (φ := Fault) (ρ := Refusal) u = .next t) (hu : InRange u.timing) :
      InRange t.timing := Host.Outcome.next.inj h ▸ hu
  cases hc : passesTime c with
  | false => exact exec_timing hc h ▸ hs
  | true =>
    cases c with
    | powerOn i => exact next h inRange_start
    | resetLine i => exact next h inRange_start
    | resetLineHeld => exact next h inRange_start
    | startUpEnd mg ag lines i => exact next h (inRange_startUpEnd mg ag lines i hs)
    | blockStart i => exact next h (inRange_blockStart i hs)
    | samplePeriod frame => exact next h (inRange_samplePeriod frame hs)
    | markEvent tick => exact next h (inRange_markEvent tick hs)
    | enterLocked tick => exact next h (inRange_enterLockedAt tick hs)
    | enterHoldover cause => exact next h (inRange_enterHoldoverBy cause hs)
    | missingMark => exact next h (inRange_declareMissing hs)
    | quietCountExpiry => exact next h (inRange_expireQuiet hs)
    | markLineRelease => exact next h (inRange_releaseMark hs)
    | _ => exact absurd hc nofun

/-- Settles O10: a step on an empty queue idles, and any other runs one command. -/
theorem stepKeepsTimingLaw : Obligations.StepKeepsTimingLaw := by
  intro s t hs h
  unfold step at h
  split at h
  · exact Host.Outcome.next.inj h ▸ hs
  · next c rest _ => exact exec_timingLaw c (s := { s with pending := rest }) hs h

end Sys2Proof.Proofs
end

section
/-! The sample period (R89, R90, R101 to R108, R126): the ticks up to it, the countdowns and compensations, channel by
channel, the rows, and the clip counts. -/

namespace Sys2Proof.Proofs

open Sys2Proof.Machine Sys2Proof.Laws

variable {s : State}

/-! ## States, keys and rounds -/

theorem state_ext {s t : State} (hphase : s.phase = t.phase) (hown : s.own = t.own) (hconfig : s.config = t.config)
    (hlink : s.link = t.link) (htiming : s.timing = t.timing) (hfeeds : s.feeds = t.feeds)
    (hdemand : s.demand = t.demand) (hgain : s.gain = t.gain) (hsteps : s.steps = t.steps)
    (hpaths : s.paths = t.paths) (hhead : s.head = t.head) (hphantom : s.phantom = t.phantom)
    (hbatch : s.batch = t.batch) (hreport : s.report = t.report) (hahead : s.ahead = t.ahead)
    (hseed : s.seed = t.seed) (hpending : s.pending = t.pending) : s = t := by
  cases s
  cases t
  simp_all

theorem gain_ext {a b : GainResolver} (hrecs : a.recs = b.recs) (htable : a.table = b.table) (hfull : a.full = b.full)
    (hannounce : a.announce = b.announce) : a = b := by
  cases a
  cases b
  simp_all

theorem report_ext {a b : Report} (hkeys : a.keys = b.keys) (hslots : a.slots = b.slots)
    (hevents : a.events = b.events) : a = b := by
  cases a
  cases b
  simp_all

theorem keysAsked_refl (s : State) : KeysAsked (fun _ => False) s s := ⟨List.prefix_rfl, fun _ => by simp⟩

theorem keysAsked_trans {s t u : State} {p q r : Key → Prop} (h₁ : KeysAsked p s t) (h₂ : KeysAsked q t u)
    (hr : ∀ k, r k ↔ p k ∨ q k) : KeysAsked r s u :=
  ⟨h₁.1.trans h₂.1, fun k => by rw [h₂.2, h₁.2, hr, or_assoc]⟩

theorem keysAsked_ask (k : Key) (s : State) : KeysAsked (· = k) s (ask k s) :=
  ⟨prefix_ask k s, fun _ => mem_ask k _⟩

theorem keysAsked_congr {s t : State} {p q : Key → Prop} (h : KeysAsked p s t) (hpq : ∀ k, q k ↔ p k) :
    KeysAsked q s t := ⟨h.1, fun k => by rw [h.2, hpq]⟩

/-- Where only the round of `a` changes what `p` reads, the rounds together change it as that round does. -/
theorem forEach_at {α β : Type} (p : State → β) {f : α → State → State} {a : α} {l : List α} (hl : l.Nodup)
    (ha : a ∈ l) (hother : ∀ b t, b ≠ a → p (f b t) = p t) (s : State) :
    ∃ u, p u = p s ∧ p (forEach l f s) = p (f a u) := by
  induction l generalizing s with
  | nil => exact absurd ha List.not_mem_nil
  | cons b l ih =>
    obtain ⟨hb, hnd⟩ := List.nodup_cons.mp hl
    rw [forEach_cons]
    by_cases hab : b = a
    · subst hab
      refine ⟨s, rfl, ?_⟩
      exact forEach_induct (P := fun t => p t = p (f b s))
        (fun c hc t ht => (hother c t (fun e => hb (e ▸ hc))).trans ht) rfl
    · obtain ⟨u, hu, hend⟩ := ih hnd ((List.mem_cons.mp ha).resolve_left (Ne.symm hab)) (f b s)
      exact ⟨u, hu.trans (hother b s hab), hend⟩

/-- Where each round asks for its own key just where its condition holds, and the rounds leave each other's conditions,
the rounds together ask for the keys of those whose condition holds at the start. -/
theorem forEach_keysAsked {α : Type} {f : α → State → State} {key : α → Key} {due : α → State → Prop} {l : List α}
    (hl : l.Nodup) (hround : ∀ a t, KeysAsked (fun k => due a t ∧ k = key a) t (f a t))
    (hstable : ∀ a b t, a ≠ b → (due a (f b t) ↔ due a t)) (s : State) :
    KeysAsked (fun k => ∃ a ∈ l, due a s ∧ k = key a) s (forEach l f s) := by
  induction l generalizing s with
  | nil => exact keysAsked_congr (keysAsked_refl s) (by simp)
  | cons b l ih =>
    obtain ⟨hb, hnd⟩ := List.nodup_cons.mp hl
    refine keysAsked_trans (hround b s) (ih hnd (f b s)) fun k => ?_
    have hsame : (∃ a ∈ l, due a (f b s) ∧ k = key a) ↔ ∃ a ∈ l, due a s ∧ k = key a :=
      exists_congr fun a => and_congr_right fun ha => and_congr_left fun _ =>
        hstable a b s (fun e => hb (e ▸ ha))
    rw [hsame]
    simp

theorem channels_nodup : channels.Nodup := List.nodup_finRange 32

theorem mem_channels (c : Chan) : c ∈ channels := List.mem_finRange c

/-! ## Countdowns and compensations -/

/-- The step of a channel is compensated at the coming sample period (R89, R90). -/
def StepDue (c : Chan) (s : State) : Prop := ∃ p, (s.steps.get c).pending = some p ∧ p.coming = 0

/-- Compensation by what it changes (R90). -/
theorem compensate_eq {c : Chan} {p : PendingStep} (hp : (s.steps.get c).pending = some p) :
    compensate c s = ask (.channel c) { s with
      steps := s.steps.set c { s.steps.get c with applied := p.value, pending := none }
      gain.recs := s.gain.recs.modify c fun r =>
        { r with trims := trimsOf (s.gain.recs.get c).beff p.value (s.demand.get c).view } } := by
  unfold compensate
  dsimp only
  rw [hp]
  dsimp only
  rw [putStep_eq]
  rfl

theorem countDown_idle {c : Chan} (hp : (s.steps.get c).pending = none) : countDown c s = s := by
  unfold countDown
  dsimp only
  rw [hp]

theorem countDown_waits {c : Chan} {p : PendingStep} (hp : (s.steps.get c).pending = some p) (h : p.coming ≠ 0) :
    countDown c s = { s with
      steps := s.steps.set c
        { s.steps.get c with pending := some { p with countdown := p.coming, atIssue := false } } } := by
  unfold countDown
  dsimp only
  rw [hp]
  dsimp only
  rw [if_neg h, putStep_eq]

theorem countDown_due {c : Chan} {p : PendingStep} (hp : (s.steps.get c).pending = some p) (h : p.coming = 0) :
    countDown c s = compensate c s := by
  unfold countDown
  dsimp only
  rw [hp]
  exact if_pos h

/-- The records of a channel, and the demand table, that its countdown reads. -/
def stepView (c : Chan) (s : State) : StepRec × ResRec × Tab DemandRec 32 :=
  (s.steps.get c, s.gain.recs.get c, s.demand)

theorem countDown_other {b c : Chan} (hne : b ≠ c) (s : State) : stepView c (countDown b s) = stepView c s := by
  cases hp : (s.steps.get b).pending with
  | none => rw [countDown_idle hp]
  | some p =>
    by_cases h : p.coming = 0
    · rw [countDown_due hp h, compensate_eq hp]
      simp [stepView, get_set_of_ne _ _ hne.symm, get_modify, hne.symm]
    · rw [countDown_waits hp h]
      simp [stepView, get_set_of_ne _ _ hne.symm]

theorem countDown_keysAsked (c : Chan) (s : State) :
    KeysAsked (fun k => StepDue c s ∧ k = .channel c) s (countDown c s) := by
  cases hp : (s.steps.get c).pending with
  | none =>
    rw [countDown_idle hp]
    exact keysAsked_congr (keysAsked_refl s) (by simp [StepDue, hp])
  | some p =>
    by_cases h : p.coming = 0
    · rw [countDown_due hp h, compensate_eq hp]
      exact keysAsked_congr (keysAsked_ask (.channel c) _) (by simp [StepDue, hp, h])
    · rw [countDown_waits hp h]
      exact keysAsked_congr (keysAsked_refl s) (by simp [StepDue, hp, h])

/-- The countdowns of a sample period, one for each channel. -/
theorem countDowns_at (c : Chan) (s : State) : ∃ u, stepView c u = stepView c s
    ∧ stepView c (forEach channels countDown s) = stepView c (countDown c u) :=
  forEach_at (stepView c) channels_nodup (mem_channels c) (fun _ t hb => countDown_other hb t) s

theorem stepDue_iff_of_view {c : Chan} {s t : State} (h : stepView c s = stepView c t) : StepDue c s ↔ StepDue c t := by
  have hsteps : s.steps.get c = t.steps.get c := congrArg Prod.fst h
  unfold StepDue
  rw [hsteps]

theorem countDowns_keysAsked (s : State) :
    KeysAsked (fun k => ∃ c, StepDue c s ∧ k = .channel c) s (forEach channels countDown s) :=
  keysAsked_congr (forEach_keysAsked channels_nodup countDown_keysAsked
    (fun _ _ t hne => stepDue_iff_of_view (countDown_other hne.symm t)) s) (by simp [mem_channels])

/-- A channel with no pending step keeps its records. -/
theorem countDowns_idle {c : Chan} (hp : (s.steps.get c).pending = none) :
    stepView c (forEach channels countDown s) = stepView c s := by
  obtain ⟨u, hu, hend⟩ := countDowns_at c s
  have hsteps : u.steps.get c = s.steps.get c := congrArg Prod.fst hu
  rw [hend, countDown_idle (by rw [hsteps, hp]), hu]

/-- A channel whose countdown does not come to 0 keeps its other items. -/
theorem countDowns_waits {c : Chan} {p : PendingStep} (hp : (s.steps.get c).pending = some p) (h : p.coming ≠ 0) :
    stepView c (forEach channels countDown s)
      = ({ s.steps.get c with pending := some { p with countdown := p.coming, atIssue := false } },
        s.gain.recs.get c, s.demand) := by
  obtain ⟨u, hu, hend⟩ := countDowns_at c s
  obtain ⟨hsteps, hrecs, hdemand⟩ : u.steps.get c = s.steps.get c ∧ u.gain.recs.get c = s.gain.recs.get c
    ∧ u.demand = s.demand := by simpa [stepView] using hu
  rw [hend, countDown_waits (by rw [hsteps, hp]) h]
  simp [stepView, hsteps, hrecs, hdemand]

/-- A channel whose countdown comes to 0 is compensated. -/
theorem countDowns_due {c : Chan} {p : PendingStep} (hp : (s.steps.get c).pending = some p) (h : p.coming = 0) :
    stepView c (forEach channels countDown s) = ({ s.steps.get c with applied := p.value, pending := none },
      { s.gain.recs.get c with trims := trimsOf (s.gain.recs.get c).beff p.value (s.demand.get c).view },
      s.demand) := by
  obtain ⟨u, hu, hend⟩ := countDowns_at c s
  obtain ⟨hsteps, hrecs, hdemand⟩ : u.steps.get c = s.steps.get c ∧ u.gain.recs.get c = s.gain.recs.get c
    ∧ u.demand = s.demand := by simpa [stepView] using hu
  have hpu : (u.steps.get c).pending = some p := by rw [hsteps, hp]
  rw [hend, countDown_due hpu h, compensate_eq hpu]
  simp [stepView, get_modify, hsteps, hrecs, hdemand]

/-- A step is compensated at the coming sample period just where it is pending before and not after. -/
theorem stepDue_iff (c : Chan) (s : State) : StepDue c s
    ↔ (s.steps.get c).pending.isSome = true ∧ ((forEach channels countDown s).steps.get c).pending = none := by
  cases hp : (s.steps.get c).pending with
  | none => simp [StepDue, hp]
  | some p =>
    by_cases h : p.coming = 0
    · have hend := congrArg Prod.fst (countDowns_due hp h)
      simp only [stepView] at hend
      simp [StepDue, hp, h, hend]
    · have hend := congrArg Prod.fst (countDowns_waits hp h)
      simp only [stepView] at hend
      simp [StepDue, hp, h, hend]

/-! ## Rows and clip counts -/

theorem trimOf_some (beff a : Int) (x : Entry) : trimOf beff a (some x)
    = ⟨max (-48) (min 48 (x.gain - beff - a)), decide (x.gain - beff - a < -48 ∨ 48 < x.gain - beff - a)⟩ := by
  simp [trimOf, limitTrim, Bool.decide_or]

theorem viewMuted_iff {f : Feed} {c : Chan} :
    viewMuted s f c = true ↔ ∃ y, (s.demand.get c).view.get f = some y ∧ y.mute = true := by
  simp [viewMuted, Option.any_eq_true]

theorem buildRow_absent {f : Feed} (frame : Tab Sample 32) (h : (s.feeds.get f).binding.installed = false) :
    buildRow s frame f = s.paths.get f := by
  simp [buildRow, h]

theorem buildRow_installed {f : Feed} (frame : Tab Sample 32) (h : (s.feeds.get f).binding.installed = true) :
    buildRow s frame f = { s.paths.get f with
      rows := (s.paths.get f).rows ++ [Tab.gen (wordOf s f frame)]
      flags := Tab.gen (fun c => flagsAfter s f c ((s.paths.get f).flags.get c)) } := by
  simp [buildRow, h]

/-- R102: the first of the four conditions that holds decides the word and its flags. -/
theorem word_toned {f : Feed} {c : Chan} (frame : Tab Sample 32) (x : ChanFlags)
    (h : (s.paths.get f).tone.get c = true) :
    wordOf s f frame c = toneSample s.timing.begun ∧ flagsAfter s f c x = { x with tone := true } := by
  simp [wordOf, flagsAfter, deciderOf, h]

theorem word_settling {f : Feed} {c : Chan} (frame : Tab Sample 32) (x : ChanFlags)
    (htone : (s.paths.get f).tone.get c = false) (h : (s.phantom.recs.get c).state.settling = true) :
    wordOf s f frame c = 0 ∧ flagsAfter s f c x = { x with settle := true } := by
  simp [wordOf, flagsAfter, deciderOf, htone, h]

theorem word_muted {f : Feed} {c : Chan} (frame : Tab Sample 32) (x : ChanFlags)
    (htone : (s.paths.get f).tone.get c = false) (hsettle : (s.phantom.recs.get c).state.settling = false)
    (h : viewMuted s f c = true) :
    wordOf s f frame c = 0 ∧ flagsAfter s f c x = { x with muted := true } := by
  simp [wordOf, flagsAfter, deciderOf, htone, hsettle, h]

theorem word_trimmed {f : Feed} {c : Chan} (frame : Tab Sample 32) (x : ChanFlags)
    (htone : (s.paths.get f).tone.get c = false) (hsettle : (s.phantom.recs.get c).state.settling = false)
    (h : viewMuted s f c = false) :
    wordOf s f frame c = trimmed (frame.get c) (trimInForce s f c).count
      ∧ flagsAfter s f c x = { x with short := x.short || (trimInForce s f c).short } := by
  simp [wordOf, flagsAfter, deciderOf, htone, hsettle, h]

theorem countClips_at (frame : Tab Sample 32) (c : Chan) : (countClips frame s).head.recs.get c
    = { s.head.recs.get c with window := (s.head.recs.get c).window
        + (if (s.config.chans.get c).guard ≠ .off ∧ clipThreshold s.config ≤ (frame.get c).toInt.natAbs
          then 1 else 0) } := by
  have hclips : clips s.config c (frame.get c) = true
      ↔ (s.config.chans.get c).guard ≠ .off ∧ clipThreshold s.config ≤ (frame.get c).toInt.natAbs := by
    rw [clips, Bool.and_eq_true, bne_iff_ne, decide_eq_true_eq, magnitude]
  rw [countClips, get_gen]
  simp only [hclips]
  split <;> simp

/-! ## The sample period -/

/-- The ticks of the block up to the coming sample (R17). -/
def ticksToSample (t : Timing) : Nat := t.begun * t.blockLen / 48 - t.blockTicks

theorem toSample_eq (s : State) : toSample s = retime (ticked (ticksToSample s.timing) s.timing) s :=
  passTicks_all _ s

/-- The state after the ticks and the countdowns of a sample period. -/
def stepsCounted (s : State) : State := forEach channels countDown (toSample s)

/-- A state with the rows and the clip counts of one sample period added (R101, R126). -/
def withRows (frame : Tab Sample 32) (w : State) : State := { w with
  timing := { w.timing with begun := w.timing.begun + 1 }
  paths := Tab.gen (buildRow w frame)
  head := { w.head with recs := (countClips frame w).head.recs } }

theorem sampleWork_eq (frame : Tab Sample 32) (s : State) : sampleWork frame s = withRows frame (stepsCounted s) := by
  unfold sampleWork stepsCounted
  generalize forEach channels countDown (toSample s) = w
  rfl

theorem stepsCounted_timing (s : State) : (stepsCounted s).timing = ticked (ticksToSample s.timing) s.timing := by
  simp [stepsCounted, toSample_eq]

theorem stepsCounted_frame (s : State) : stepsCounted s = { s with
    timing := (stepsCounted s).timing, steps := (stepsCounted s).steps
    gain := { s.gain with recs := (stepsCounted s).gain.recs }
    report := { s.report with keys := (stepsCounted s).report.keys } } := by
  have hkeeps := forEach_countDown channels (toSample s)
  simp only [toSample_keeps] at hkeeps
  unfold stepsCounted
  generalize forEach channels countDown (toSample s) = w at hkeeps ⊢
  apply state_ext
  case hgain => apply gain_ext <;> simp [hkeeps]
  case hreport => apply report_ext <;> simp [hkeeps]
  all_goals simp [hkeeps]

theorem samplePeriod_over (frame : Tab Sample 32) (h : s.timing.slip = true ∨ 48 ≤ s.timing.begun) :
    samplePeriod frame s = s := by
  refine if_neg ?_
  obtain h | h := h <;> simp [Timing.blockOver, h]

theorem samplePeriod_runs (frame : Tab Sample 32) (hr : s.running = true) (hslip : s.timing.slip = false)
    (hbegun : s.timing.begun < 48) : samplePeriod frame s = sampleWork frame s := by
  refine if_pos ?_
  simp [Timing.blockOver, hr, hslip, hbegun]

theorem stepView_toSample (c : Chan) (s : State) : stepView c (toSample s) = stepView c s := by simp [stepView]

/-- The keys asked for by the ticks and the countdowns of a sample period. -/
theorem stepsCounted_keysAsked (s : State) : KeysAsked (fun k => (k = .box ∧ (stepsCounted s).timing.clock ≠ s.timing.clock)
    ∨ ∃ c, k = .channel c ∧ (s.steps.get c).pending.isSome = true ∧ ((stepsCounted s).steps.get c).pending = none)
    s (stepsCounted s) := by
  have hticks := keysAsked_retime (toSample_eq s)
  have hclock : (forEach channels countDown (toSample s)).timing = (toSample s).timing := by simp
  rw [stepsCounted, hclock]
  refine keysAsked_trans hticks (countDowns_keysAsked (toSample s)) fun k => ?_
  simp only [stepDue_iff, toSample_keeps]
  exact or_congr_right (exists_congr fun c => and_comm)

theorem stepsCounted_idle {c : Chan} (hp : (s.steps.get c).pending = none) :
    (stepsCounted s).steps.get c = s.steps.get c ∧ (stepsCounted s).gain.recs.get c = s.gain.recs.get c := by
  have h := (countDowns_idle (s := toSample s) (c := c) (by simp [hp])).trans (stepView_toSample c s)
  simpa [stepView, stepsCounted] using h

theorem stepsCounted_waits {c : Chan} {p : PendingStep} (hp : (s.steps.get c).pending = some p) (h : p.coming ≠ 0) :
    (stepsCounted s).gain.recs.get c = s.gain.recs.get c ∧ (stepsCounted s).steps.get c
      = { s.steps.get c with pending := some { p with countdown := p.coming, atIssue := false } } := by
  have h := countDowns_waits (s := toSample s) (c := c) (by simpa using hp) h
  simp only [stepView, toSample_keeps, Prod.mk.injEq] at h
  rw [stepsCounted]
  exact ⟨h.2.1, h.1⟩

theorem stepsCounted_due {c : Chan} {p : PendingStep} (hp : (s.steps.get c).pending = some p) (h : p.coming = 0) :
    (stepsCounted s).steps.get c = { s.steps.get c with applied := p.value, pending := none }
    ∧ (stepsCounted s).gain.recs.get c = { s.gain.recs.get c with
        trims := trimsOf (s.gain.recs.get c).beff p.value (s.demand.get c).view } := by
  have h := countDowns_due (s := toSample s) (c := c) (by simpa using hp) h
  simp only [stepView, toSample_keeps, Prod.mk.injEq] at h
  rw [stepsCounted]
  exact ⟨h.1, h.2.1⟩

/-- The row of an installed feed, word by word (R102, R104, R107, R113). -/
theorem withRows_row {f : Feed} (frame : Tab Sample 32) (h : (s.feeds.get f).binding.installed = true) :
    let p := s.paths.get f
    ∃ row flags, (withRows frame s).paths.get f = { p with rows := p.rows ++ [row], flags := flags } ∧ ∀ c,
      let trim := (s.gain.recs.get c).trims.get f
      let x := p.flags.get c
      (p.tone.get c = true → row.get c = toneSample s.timing.begun ∧ flags.get c = { x with tone := true })
      ∧ (p.tone.get c = false → (s.phantom.recs.get c).state.settling = true →
        row.get c = 0 ∧ flags.get c = { x with settle := true })
      ∧ (p.tone.get c = false → (s.phantom.recs.get c).state.settling = false →
        ((∃ y, (s.demand.get c).view.get f = some y ∧ y.mute = true) →
          row.get c = 0 ∧ flags.get c = { x with muted := true })
        ∧ ((∀ y, (s.demand.get c).view.get f = some y → y.mute = false) →
          row.get c = trimmed (frame.get c) trim.count
          ∧ flags.get c = { x with short := x.short || trim.short })) := by
  refine ⟨Tab.gen (wordOf s f frame), Tab.gen (fun c => flagsAfter s f c ((s.paths.get f).flags.get c)), ?_, fun c => ?_⟩
  · rw [withRows, get_gen, buildRow_installed frame h]
  · simp only [get_gen]
    refine ⟨word_toned frame _, word_settling frame _, fun htone hsettle => ⟨fun hm => ?_, fun hm => ?_⟩⟩
    · exact word_muted frame _ htone hsettle (viewMuted_iff.mpr hm)
    · refine word_trimmed frame _ htone hsettle (Bool.not_eq_true _ ▸ fun hmuted => ?_)
      obtain ⟨y, hy, hmute⟩ := viewMuted_iff.mp hmuted
      exact absurd hmute (by simp [hm y hy])

/-- Settles O48. -/
theorem samplePeriodBuildsRows : Obligations.SamplePeriodBuildsRows := by
  refine ⟨fun frame s h => congrArg Host.Outcome.next (samplePeriod_over frame h), fun frame s hr hslip hbegun => ?_⟩
  have hrun : exec (.samplePeriod frame) s = .next (withRows frame (stepsCounted s)) :=
    congrArg Host.Outcome.next ((samplePeriod_runs frame hr hslip hbegun).trans (sampleWork_eq frame s))
  have hframe := stepsCounted_frame s
  have htiming := stepsCounted_timing s
  have hkeys := stepsCounted_keysAsked s
  have hidle := fun c hp => stepsCounted_idle (s := s) (c := c) hp
  have hwaits := fun c p hp => stepsCounted_waits (s := s) (c := c) (p := p) hp
  have hdue := fun c p hp => stepsCounted_due (s := s) (c := c) (p := p) hp
  generalize stepsCounted s = w at *
  have hbegin : w.timing.begun = s.timing.begun := by rw [htiming]; rfl
  obtain ⟨hpaths, hfeeds, hdemand, hphantom, hhead, hconfig⟩ : w.paths = s.paths ∧ w.feeds = s.feeds
      ∧ w.demand = s.demand ∧ w.phantom = s.phantom ∧ w.head = s.head ∧ w.config = s.config := by
    rw [hframe]
    exact ⟨rfl, rfl, rfl, rfl, rfl, rfl⟩
  refine ⟨withRows frame w, hrun, congrArg (· + 1) hbegin, ?_, ?_, ?_, hkeys, hidle, ?_, ?_, ?_, ?_⟩
  · rw [hframe]
    rfl
  · simp only [withRows, htiming, ticked, ticksToSample]
    omega
  · simp only [withRows, htiming]
    rfl
  · intro c p hp
    refine ⟨hwaits c p hp, fun h => ?_⟩
    obtain ⟨hsteps, hrecs⟩ := hdue c p hp h
    have hpending : (w.steps.get c).pending = none := by rw [hsteps]
    refine ⟨hsteps, ?_, (hkeys.2 _).mpr (.inr (.inr ⟨c, rfl, by rw [hp]; rfl, hpending⟩)), fun f => ?_⟩
    · simp only [withRows, hrecs]
    · simp only [withRows, hrecs, trimsOf, get_map]
      cases (s.demand.get c).view.get f with
      | none => rfl
      | some x => exact trimOf_some _ _ x
  · intro f hf
    rw [withRows, get_gen, buildRow_absent frame (by rw [hfeeds, hf]), hpaths]
  · intro f hf
    have hrow := withRows_row (s := w) (f := f) frame (by rw [hfeeds, hf])
    simp only [hpaths, hdemand, hphantom, hbegin] at hrow
    exact hrow
  · intro c
    have hclips := countClips_at (s := w) frame c
    simp only [hhead, hconfig] at hclips
    exact hclips

end Sys2Proof.Proofs
end

section
/-! The work of a block start, piece by piece (R14, R18, R29, R50, R73, R81, R112, R127, R140, R165): what each piece
leaves of the records that the statement speaks of. -/

namespace Sys2Proof.Proofs

open Sys2Proof.Machine Sys2Proof.Laws

variable {s : State}

theorem link_ext {a b : LinkController} (hpair : a.pair = b.pair) (hstations : a.stations = b.stations)
    (hclash : a.clash = b.clash) (herrors : a.errors = b.errors) : a = b := by
  cases a
  cases b
  simp_all

/-! ## The schedule -/

theorem mem_forEach_ask {α : Type} (key : α → Key) (l : List α) (s : State) (k : Key) :
    k ∈ (forEach l (fun a => ask (key a)) s).report.keys ↔ k ∈ s.report.keys ∨ ∃ a ∈ l, k = key a := by
  induction l generalizing s with
  | nil => simp
  | cons a l ih => rw [forEach_cons, ih, mem_ask, or_assoc]; simp

theorem mem_linkSlots {n : Nat} {g : Group} : g ∈ linkSlots s n ↔ s.used g = true ∧ g.val % 10 = n % 10 := by
  have hne : s.used g = true → g ≠ 0 := fun h => by
    simp only [State.used, Bool.and_eq_true, bne_iff_ne] at h
    exact h.1
  simp only [linkSlots, linkGroups, List.mem_filter, List.mem_finRange, Bool.and_eq_true, decide_eq_true_eq,
    bne_iff_ne, true_and]
  exact ⟨fun h => h.2, fun h => ⟨hne h.1, h⟩⟩

theorem mem_refreshSlots {n : Nat} {c : Chan} :
    c ∈ channels.filter (fun c => decide (refreshSlot c = n % 100)) ↔ 3 * c.val = n % 100 := by
  rw [List.mem_filter, decide_eq_true_eq, refreshSlot]
  exact and_iff_right (mem_channels c)

/-- R81, R165: the keys of the schedule. -/
theorem mem_periodic (k : Key) : k ∈ (periodic s).report.keys ↔ k ∈ s.report.keys
    ∨ (k = .box ∧ s.timing.counter.toNat % 50 = 0)
    ∨ (∃ c : Chan, k = .channel c ∧ 3 * c.val = s.timing.counter.toNat % 100)
    ∨ ∃ g, k = .link g ∧ s.used g = true ∧ g.val % 10 = s.timing.counter.toNat % 10 := by
  have hslots (k : Key) : k ∈ (forEach (channels.filter (fun c => decide (refreshSlot c = s.timing.counter.toNat % 100)))
      (fun c => ask (.channel c)) (forEach (linkSlots s s.timing.counter.toNat) (fun g => ask (.link g)) s)).report.keys
      ↔ k ∈ s.report.keys ∨ (∃ c : Chan, k = .channel c ∧ 3 * c.val = s.timing.counter.toNat % 100)
        ∨ ∃ g, k = .link g ∧ s.used g = true ∧ g.val % 10 = s.timing.counter.toNat % 10 := by
    simp only [mem_forEach_ask, mem_refreshSlots, mem_linkSlots, and_comm (b := k = _)]
    rw [or_assoc, or_comm (b := ∃ c : Chan, _)]
  unfold periodic
  dsimp only
  split
  · next h =>
    simp only [mem_ask, hslots, h, and_true, or_comm, or_left_comm]
  · next h =>
    simp only [hslots, h, and_false, false_or]

theorem periodic_frame (s : State) :
    periodic s = { s with report := { s.report with keys := (periodic s).report.keys } } := by
  have hkeeps := periodic_keeps s
  generalize periodic s = t at hkeeps ⊢
  apply state_ext
  case hreport => apply report_ext <;> simp [hkeeps]
  all_goals simp [hkeeps]

/-! ## The end of the block before -/

/-- A round of the headroom monitor asks for keys and marks channels dirty, and leaves the entries (R127, R128). -/
def Judged (s t : State) : Prop :=
  s.report.keys ⊆ t.report.keys ∧ ∀ c, (t.demand.get c).entries = (s.demand.get c).entries

theorem judged_refl (s : State) : Judged s s := ⟨List.Subset.refl _, fun _ => rfl⟩

theorem judged_trans {s t u : State} (h₁ : Judged s t) (h₂ : Judged t u) : Judged s u :=
  ⟨List.Subset.trans h₁.1 h₂.1, fun c => (h₂.2 c).trans (h₁.2 c)⟩

theorem judged_setEvent (c : Chan) (e : Event) (s : State) : Judged s (setEvent c e s) :=
  ⟨keys_subset_ask (s := s) (.channel c), fun _ => rfl⟩

theorem markDirty_entries (c d : Chan) (s : State) :
    ((markDirty c s).demand.get d).entries = (s.demand.get d).entries := by
  simp only [markDirty, get_modify]
  split <;> rfl

theorem judged_markDirty (c : Chan) (s : State) : Judged s (markDirty c s) :=
  ⟨List.Subset.refl _, fun d => markDirty_entries c d s⟩

theorem judged_raiseBackoff (c : Chan) (s : State) : Judged s (raiseBackoff c s) := by
  unfold raiseBackoff
  dsimp only
  split
  · exact judged_trans (judged_setEvent c .backoff (putHead c _ s)) (judged_markDirty c _)
  · exact judged_setEvent c .guardLimit s

theorem judged_judgeWindow (c : Chan) (s : State) : Judged s (judgeWindow c s) := by
  unfold judgeWindow episode
  split
  · have hclip : Judged s (setEvent c .clip
        (putHead c { s.head.recs.get c with episodes := (s.head.recs.get c).episodes + 1 } s)) :=
      judged_setEvent c .clip (putHead c _ s)
    dsimp only
    split
    · exact judged_trans hclip (judged_raiseBackoff c _)
    · exact hclip
  · exact judged_refl s

theorem judged_windowAtBlock (s : State) : Judged s (windowAtBlock s) := by
  unfold windowAtBlock
  split
  · exact judged_refl s
  · split
    · exact judged_refl s
    · have hrounds : Judged s (forEach channels judgeWindow s) :=
        forEach_induct (fun c _ t h => judged_trans h (judged_judgeWindow c t)) (judged_refl s)
      unfold closeWindow
      generalize forEach channels judgeWindow s = t at hrounds ⊢
      exact hrounds

/-- What the end of a block leaves: the ticks to its end have passed. -/
theorem endBlock_ticked (s : State) : (endBlock s).timing = ticked (ticksLeft s.timing) s.timing := by
  rw [endBlock_timing, passTicks_all, retime_timing]

theorem judged_passTicks (d : Nat) (s : State) : Judged s (passTicks d d s) := by
  rw [passTicks_all]
  refine ⟨(retime_keysAsked _ s).1.subset, fun c => ?_⟩
  rw [retime_frame]

theorem judged_endBlock (s : State) : Judged s (endBlock s) :=
  judged_trans (judged_passTicks _ s) (judged_windowAtBlock _)

theorem endBlock_box (h : (endBlock s).timing.clock ≠ s.timing.clock) : Key.box ∈ (endBlock s).report.keys := by
  refine (judged_windowAtBlock (passTicks (ticksLeft s.timing) (ticksLeft s.timing) s)).1 ?_
  rw [endBlock_ticked] at h
  rw [passTicks_all]
  exact box_mem_retime h

theorem endBlock_frame (s : State) : endBlock s = { s with
    timing := (endBlock s).timing, head := (endBlock s).head, demand := (endBlock s).demand
    paths := (endBlock s).paths, link := { s.link with pair := (endBlock s).link.pair }
    report := { s.report with keys := (endBlock s).report.keys, events := (endBlock s).report.events } } := by
  have hkeeps := endBlock_keeps s
  generalize endBlock s = t at hkeeps ⊢
  apply state_ext
  case hreport => apply report_ext <;> simp [hkeeps]
  case hlink => apply link_ext <;> simp [hkeeps]
  all_goals simp [hkeeps]

theorem offerBlock_absent {f : Feed} (h : (s.feeds.get f).binding.installed = false) :
    offerBlock s f = s.paths.get f := by
  simp [offerBlock, h]

theorem offerBlock_installed {f : Feed} (h : (s.feeds.get f).binding.installed = true) : offerBlock s f
    = { tone := (s.paths.get f).tone, rows := [], flags := noFlags
        port := if (s.feeds.get f).lineUp then (s.paths.get f).port ++ [feedBlock s (s.paths.get f)]
          else (s.paths.get f).port } := by
  simp [offerBlock, h]

/-- The feed blocks of the block that ends are those of the state at its last tick (R29, R112, R114). -/
theorem endBlock_path (f : Feed) (s : State) : (endBlock s).paths.get f
    = offerBlock (retime (ticked (ticksLeft s.timing) s.timing) s) f := by
  have hkeeps := windowAtBlock_keeps (passTicks (ticksLeft s.timing) (ticksLeft s.timing) s)
  unfold endBlock offerBlocks
  rw [get_gen]
  generalize windowAtBlock (passTicks (ticksLeft s.timing) (ticksLeft s.timing) s) = w at hkeeps ⊢
  rw [passTicks_all] at hkeeps
  simp only [offerBlock, feedBlock, State.clockAtEnd, hkeeps]

/-! ## The counts -/

/-- The counts of the block that begins, with the return to FREE where the quiet count reaches 1,000 (R18, R23, R27). -/
def begun (t : Timing) : Timing :=
  if (t.clock = .acquiring ∨ t.clock = .holdover) ∧ 999 ≤ t.quietCount then freed (nextBlock t) else nextBlock t

theorem quietEnds_iff {c : ClockState} : quietEnds c = true ↔ c = .acquiring ∨ c = .holdover := by
  cases c <;> simp [quietEnds]

theorem beginBlock_eq (s : State) : beginBlock s = retime (begun s.timing) s := by
  have hdue : (quietEnds (nextBlock s.timing).clock ∧ 1000 ≤ (nextBlock s.timing).quietCount)
      ↔ (s.timing.clock = .acquiring ∨ s.timing.clock = .holdover) ∧ 999 ≤ s.timing.quietCount := by
    rw [quietEnds_iff]
    simp only [nextBlock]
    exact and_congr_right fun _ => by omega
  unfold beginBlock begun
  simp only [hdue]
  split
  · rw [toFree_eq]
    exact retime_of_timing _ rfl
  · refine (retime_same ?_).symm
    rfl

/-! ## The station table -/

theorem ageStation_other {a b : Station} (h : b ≠ a) (s : State) :
    (ageStation b s).link.stations.get a = s.link.stations.get a := by
  unfold ageStation
  split
  case h_1 role age hp =>
    split
    · exact get_set_of_ne _ _ h.symm
    · rw [loseStation_stations, get_set_of_ne _ _ h.symm]
  all_goals rfl

theorem allStations_nodup : allStations.Nodup := List.nodup_finRange 32

theorem mem_allStations (st : Station) : st ∈ allStations := List.mem_finRange st

/-- R14: each PRESENT entry ages, and is LOST where its age reaches 200. -/
theorem ageStations_at {st : Station} {role : Role} {age : Nat} (h : s.link.stations.get st = .present role age) :
    (ageStations s).link.stations.get st
      = if age + 1 < 200 then .present role (age + 1) else .lost role := by
  obtain ⟨u, hu, hend⟩ := forEach_at (fun t : State => t.link.stations.get st) (f := ageStation)
    allStations_nodup (mem_allStations st) (fun b t hb => ageStation_other hb t) s
  rw [ageStations, hend, ageStation_of_present (hu.trans h)]
  split
  · exact get_set_self _ _ _
  · rw [loseStation_stations, get_set_self]

theorem stationsAndBatch_at {st : Station} {role : Role} {age : Nat}
    (h : s.link.stations.get st = .present role age) : (stationsAndBatch s).link.stations.get st
      = if age + 1 < 200 then .present role (age + 1) else .lost role := by
  unfold stationsAndBatch
  dsimp only
  split
  · rw [show ∀ t, (batchAtBlock t).link.stations = t.link.stations from fun t => by simp]
    exact ageStations_at h
  · exact ageStations_at (by simpa using h)

/-! ## Entries, views, dirty marks and locks -/

/-- The entries of every channel stand, and a batch that is not committing does not begin to (R14, R157, R159). -/
def EntriesStand (s t : State) : Prop :=
  (∀ c, (t.demand.get c).entries = (s.demand.get c).entries)
    ∧ ((∀ b, s.batch.record ≠ .committing b) → ∀ b, t.batch.record ≠ .committing b)

theorem removeLinks_entries (p : LinkEntry → Bool) (s : State) (c : Chan) :
    ((removeLinks p s).demand.get c).entries = (s.demand.get c).entries := by
  rw [(removeLinks_removes p s).2.1 c]

theorem discardBatch_not_committing {p : BatchBody → Bool} (h : ∀ b, s.batch.record ≠ .committing b) :
    ∀ b, (discardBatch p s).batch.record ≠ .committing b := by
  unfold discardBatch
  (repeat' split)
  · exact fun _ => by simp
  all_goals exact h

theorem loseStation_entriesStand (st : Station) (role : Role) (s : State) : EntriesStand s (loseStation st role s) := by
  cases role with
  | desk =>
    refine ⟨fun c => by rw [loseStation_desk_frame], fun h => ?_⟩
    rw [loseStation_desk]
    exact discardBatch_not_committing (by rw [setFeeds_frame]; exact h)
  | box =>
    refine ⟨fun c => removeLinks_entries _ (withLost st .box s) c, fun h => ?_⟩
    have hbatch : (loseStation st .box s).batch = s.batch := by simp [loseStation]
    rw [hbatch]
    exact h

theorem ageStation_entriesStand (st : Station) (s : State) : EntriesStand s (ageStation st s) := by
  unfold ageStation
  split
  · split
    · exact ⟨fun _ => rfl, fun h => h⟩
    · exact loseStation_entriesStand st _ s
  all_goals exact ⟨fun _ => rfl, fun h => h⟩

theorem ageStations_entriesStand (s : State) : EntriesStand s (ageStations s) :=
  forEach_induct (P := EntriesStand s)
    (fun st _ t ht => ⟨fun c => ((ageStation_entriesStand st t).1 c).trans (ht.1 c),
      fun h => (ageStation_entriesStand st t).2 (ht.2 h)⟩) ⟨fun _ => rfl, fun h => h⟩

theorem batchAtBlock_demand (h : ∀ b, s.batch.record ≠ .committing b) : (batchAtBlock s).demand = s.demand := by
  unfold batchAtBlock
  split
  · rfl
  · split <;> simp
  · next b hb => exact absurd hb (h b)

theorem stationsAndBatch_entries (h : ∀ b, s.batch.record ≠ .committing b) (c : Chan) :
    ((stationsAndBatch s).demand.get c).entries = (s.demand.get c).entries := by
  have hseed : ∀ b, ({ s with seed := s.seed + 1 } : State).batch.record ≠ .committing b := h
  unfold stationsAndBatch
  dsimp only
  split
  · rw [batchAtBlock_demand ((ageStations_entriesStand _).2 hseed)]
    exact (ageStations_entriesStand _).1 c
  · rw [(ageStations_entriesStand _).1 c, batchAtBlock_demand hseed]

theorem ageLinks_entries (s : State) (c : Chan) : ((ageLinks s).demand.get c).entries = (s.demand.get c).entries :=
  removeLinks_entries _ _ c

/-- A dirty channel is among those resolved (R73). -/
theorem toResolve_of_dirty {c : Chan} (h : (s.demand.get c).dirty = true) : toResolve s c = true := by
  unfold toResolve
  split
  · exact h
  · refine List.any_eq_true.mpr ⟨c, ?_, h⟩
    simp [State.members, mem_channels]

/-- R73: a resolution leaves no channel dirty, and of the demand table nothing else changes. -/
theorem resolveAll_demand (s : State) (c : Chan) :
    (resolveAll s).demand.get c = { s.demand.get c with dirty := false } := by
  have hkeep : (resolveAll s).demand = (writeResolved s).demand := by simp [resolveAll]
  rw [hkeep, writeResolved, get_gen]
  split
  · rfl
  · next h =>
    have hclean : (s.demand.get c).dirty = false := Bool.eq_false_iff.mpr fun hd => h (toResolve_of_dirty hd)
    rw [← hclean]

theorem resolveAll_recs (s : State) (c : Chan) :
    (resolveAll s).gain.recs.get c = if toResolve s c then resolved s c else s.gain.recs.get c := by
  have hkeep : (resolveAll s).gain.recs = (writeResolved s).gain.recs := by simp [resolveAll]
  rw [hkeep, writeResolved, get_gen]

theorem resolveAll_lock (s : State) (c : Chan) :
    ((resolveAll s).gain.recs.get c).lock = (s.gain.recs.get c).lock := by
  rw [resolveAll_recs]
  split <;> rfl

/-! ## A at a block start -/

/-- A of every channel. -/
def appliedGains (s : State) : Tab Int 32 := s.steps.map (fun r => r.applied)

theorem map_set_of_same {α β : Type} {n : Nat} (t : Tab α n) (i : Fin n) (a : α) (g : α → β) (h : g a = g (t.get i)) :
    (t.set i a).map g = t.map g := by
  ext j
  rw [get_map, get_map, get_set]
  split
  · next hj => rw [h, hj]
  · rfl

theorem changeStep_steps (c : Chan) (r : StepRec) (s : State) : (changeStep c r s).steps = s.steps.set c r := by
  unfold changeStep
  dsimp only
  split <;> simp

theorem changeStep_applied {c : Chan} {r : StepRec} (h : r.applied = (s.steps.get c).applied) :
    appliedGains (changeStep c r s) = appliedGains s := by
  unfold appliedGains
  rw [changeStep_steps]
  exact map_set_of_same _ _ _ _ h

theorem putStep_applied {c : Chan} {r : StepRec} (h : r.applied = (s.steps.get c).applied) :
    appliedGains (putStep c r s) = appliedGains s := by
  unfold appliedGains
  rw [putStep_steps]
  exact map_set_of_same _ _ _ _ h

theorem mismatched_applied {c : Chan} {r : StepRec} (h : r.applied = (s.steps.get c).applied) :
    appliedGains (mismatched c r s) = appliedGains s := by
  unfold mismatched
  split
  · exact changeStep_applied h
  · exact changeStep_applied (r := { r with moving := false, mismatch := 0, front := .fault 0 }) h

theorem decideStep_applied (rb : Readback) {c : Chan} (target : Int) {r : StepRec}
    (h : r.applied = (s.steps.get c).applied) : appliedGains (decideStep rb c target r s) = appliedGains s := by
  have hexchange : appliedGains (stepExchange rb c target r s) = appliedGains s := by
    unfold stepExchange
    dsimp only
    split
    exacts [changeStep_applied h, mismatched_applied h]
  have hrestore : appliedGains (restoreWrite rb c r s) = appliedGains s := by
    unfold restoreWrite
    dsimp only
    split
    exacts [changeStep_applied h, mismatched_applied h]
  unfold decideStep
  (repeat' split)
  exacts [changeStep_applied h, changeStep_applied h, hexchange, hrestore, hexchange]

/-- No decision of the step controller moves A (R85 to R88, R94 to R97). -/
theorem stepAtBlock_applied (rb : Readback) (c : Chan) (s : State) :
    appliedGains (stepAtBlock rb c s) = appliedGains s := by
  unfold stepAtBlock
  dsimp only
  (repeat' split)
  · exact putStep_applied rfl
  · exact decideStep_applied rb _ rfl
  · exact putStep_applied rfl
  · unfold retryExchange
    dsimp only
    split <;> exact changeStep_applied rfl

theorem stepAll_applied (rb : Readback) (s : State) (c : Chan) :
    ((stepAll rb s).steps.get c).applied = (s.steps.get c).applied := by
  have h := congrArg (fun t : Tab Int 32 => t.get c)
    (forEach_keeps appliedGains (l := channels) (stepAtBlock_applied rb) s)
  simp only [appliedGains, get_map] at h
  exact h

/-! ## The currents read at a block start -/

/-- The monitor reading of every channel. -/
def currents (s : State) : Tab Nat 32 := s.phantom.recs.map (fun r => r.current)

theorem putPhantom_currents {c : Chan} {r : PhantomRec} (h : r.current = (s.phantom.recs.get c).current) :
    currents (putPhantom c r s) = currents s := by
  unfold currents
  rw [putPhantom_recs]
  exact map_set_of_same _ _ _ _ h

theorem movePhantom_currents (c : Chan) (st : PhantomState) (k : OffCause) (s : State) :
    currents (movePhantom c st k s) = currents s := by
  unfold currents
  rw [movePhantom_recs]
  exact map_set_of_same _ _ _ _ rfl

theorem countPhantom_currents {c : Chan} {e : Event} {g : PhantomRec → PhantomRec}
    (h : ∀ r, (g r).current = r.current) (s : State) : currents (countPhantom c e g s) = currents s :=
  putPhantom_currents (h _)

theorem endSettle_currents (c : Chan) (s : State) : currents (endSettle c s) = currents s := by
  unfold endSettle
  dsimp only
  split
  case h_1 => exact movePhantom_currents _ _ _ _
  case h_2 => exact movePhantom_currents _ _ _ _
  all_goals rfl

theorem advanceSettle_currents (c : Chan) (s : State) : currents (advanceSettle c s) = currents s := by
  unfold advanceSettle
  dsimp only
  (repeat' split)
  · rfl
  · exact endSettle_currents c s
  · exact putPhantom_currents rfl
  · rfl

theorem judgeShort_currents (c : Chan) (s : State) : currents (judgeShort c s) = currents s := by
  unfold judgeShort trip
  dsimp only
  (repeat' split)
  · exact putPhantom_currents rfl
  · exact (countPhantom_currents (fun _ => by rfl) _).trans (movePhantom_currents _ _ _ _)
  · exact putPhantom_currents rfl

theorem shed_currents (cause : OffCause) (c : Chan) (s : State) : currents (shed cause c s) = currents s :=
  (countPhantom_currents (fun _ => by rfl) _).trans (movePhantom_currents _ _ _ _)

theorem shedToFit_currents (n : Nat) (s : State) : currents (shedToFit n s) = currents s := by
  induction n generalizing s with
  | zero => rfl
  | succ n ih =>
    unfold shedToFit
    split
    · rfl
    · split
      · rw [ih, shed_currents]
      · rfl

theorem advanceLines_currents (s : State) : currents (advanceLines s) = currents s := by
  unfold advanceLines changeBank
  dsimp only
  split
  · exact shedToFit_currents _ _
  · rfl

theorem judgeOverload_currents (s : State) : currents (judgeOverload s) = currents s := by
  unfold judgeOverload shedForLoad
  dsimp only
  (repeat' split)
  · rfl
  · rfl
  · exact shed_currents _ _ _
  · rfl
  · rfl

theorem considerChannel_currents (c : Chan) (s : State) : currents (considerChannel c s) = currents s := by
  unfold considerChannel powerUp passOver
  dsimp only
  (repeat' split)
  · exact (putPhantom_currents (by rfl)).trans (movePhantom_currents _ _ _ _)
  · exact countPhantom_currents (fun _ => by rfl) s
  · rfl

theorem readMonitors_current (m : Tab Nat 32) (s : State) (c : Chan) :
    (currents (readMonitors m s)).get c = min 255 (m.get c) := by
  simp [currents, readMonitors]

/-- R140: the work of the phantom controller leaves the currents as its monitors read them. -/
theorem phantomAtBlock_current (m : Tab Nat 32) (s : State) (c : Chan) :
    ((phantomAtBlock m s).phantom.recs.get c).current = min 255 (m.get c) := by
  have hread : currents (phantomAtBlock m s) = currents (readMonitors m s) := by
    unfold phantomAtBlock admissionPass
    rw [forEach_keeps currents considerChannel_currents, judgeOverload_currents, advanceLines_currents,
      forEach_keeps currents judgeShort_currents, forEach_keeps currents advanceSettle_currents]
  rw [← readMonitors_current m s c, ← hread, currents, get_map]

end Sys2Proof.Proofs
end

section
/-! The block start as a whole (R18): the work of its blocks put together, the counts before it, and the frame. -/

namespace Sys2Proof.Proofs

open Sys2Proof.Machine Sys2Proof.Laws

variable {s : State}

/-! ## The work of a block -/

theorem blockWork_timing (i : BlockInputs) (s : State) : (blockWork i s).timing = (driveMark i.markLine s).timing := by
  rw [blockWork, clearAhead_timing, ← blockTasks_timing i s]
  simp

/-- R50, R73: after the work of a block no channel is dirty, and the view shows the entries. -/
theorem blockWork_demand (i : BlockInputs) (s : State) (c : Chan) :
    ∃ es, (blockWork i s).demand.get c = ⟨es, es, false⟩
      ∧ es = ((stationsAndBatch (driveMark i.markLine s)).demand.get c).entries := by
  have hdemand : (blockWork i s).demand
      = (resolveAll (presentView (ageLinks (stationsAndBatch (driveMark i.markLine s))))).demand := by
    simp [blockWork, blockTasks]
  refine ⟨_, ?_, rfl⟩
  rw [hdemand, resolveAll_demand, presentView, get_map, ageLinks_entries]

theorem blockWork_entries (i : BlockInputs) (h : ∀ b, s.batch.record ≠ .committing b) (c : Chan) :
    ((blockWork i s).demand.get c).entries = (s.demand.get c).entries := by
  obtain ⟨es, hes, heq⟩ := blockWork_demand i s c
  rw [hes, heq, stationsAndBatch_entries (by simpa using h)]
  simp

theorem blockWork_lock (i : BlockInputs) (s : State) (c : Chan) :
    ((blockWork i s).gain.recs.get c).lock = (s.gain.recs.get c).lock := by
  have hgain : (blockWork i s).gain
      = (resolveAll (presentView (ageLinks (stationsAndBatch (driveMark i.markLine s))))).gain := by
    simp [blockWork, blockTasks]
  rw [hgain, resolveAll_lock]
  simp

theorem blockWork_applied (i : BlockInputs) (s : State) (c : Chan) :
    ((blockWork i s).steps.get c).applied = (s.steps.get c).applied := by
  have hsteps : (blockWork i s).steps = (stepAll i.readback
      (resolveAll (presentView (ageLinks (stationsAndBatch (driveMark i.markLine s)))))).steps := by
    simp [blockWork, blockTasks]
  rw [hsteps, stepAll_applied]
  simp

theorem blockWork_current (i : BlockInputs) (s : State) (c : Chan) :
    ((blockWork i s).phantom.recs.get c).current = min 255 (i.monitors.get c) := by
  have hphantom : (blockWork i s).phantom = (blockTasks i s).phantom := by simp [blockWork]
  rw [hphantom, blockTasks, phantomAtBlock_current]

theorem blockWork_station (i : BlockInputs) {st : Station} {role : Role} {age : Nat}
    (h : s.link.stations.get st = .present role age) : (blockWork i s).link.stations.get st
      = if age + 1 < 200 then .present role (age + 1) else .lost role := by
  have hlink : (blockWork i s).link.stations = (stationsAndBatch (driveMark i.markLine s)).link.stations := by
    simp [blockWork, blockTasks]
  rw [hlink]
  exact stationsAndBatch_at (by simpa using h)

theorem used_congr {t : State} (h : t.config = s.config) (g : Group) : t.used g = s.used g := by
  unfold State.used State.group
  rw [h]

/-- R81, R165: the keys of the schedule are among those asked for at a block start. -/
theorem blockWork_schedule (i : BlockInputs) (s : State) :
    let n := (blockWork i s).timing.counter.toNat
    (n % 50 = 0 → Key.box ∈ (blockWork i s).report.keys)
      ∧ (∀ c : Chan, 3 * c.val = n % 100 → Key.channel c ∈ (blockWork i s).report.keys)
      ∧ ∀ g, s.used g = true → g.val % 10 = n % 10 → Key.link g ∈ (blockWork i s).report.keys := by
  have htiming : (blockWork i s).timing = (blockTasks i s).timing := by simp [blockWork]
  have hused := used_congr (s := s) (t := blockTasks i s) (by simp)
  have hkeys : (blockWork i s).report.keys = (periodic (blockTasks i s)).report.keys := by simp [blockWork]
  intro n
  have hn : n = (blockTasks i s).timing.counter.toNat := congrArg (fun w : Timing => w.counter.toNat) htiming
  rw [hkeys]
  refine ⟨fun h => (mem_periodic _).mpr (.inr (.inl ⟨rfl, hn ▸ h⟩)),
    fun c h => (mem_periodic _).mpr (.inr (.inr (.inl ⟨c, rfl, hn ▸ h⟩))),
    fun g hg h => (mem_periodic _).mpr (.inr (.inr (.inr ⟨g, rfl, ?_, hn ▸ h⟩)))⟩
  rw [hused, hg]

theorem phantom_ext {a b : Phantom} (hrecs : a.recs = b.recs) (hbank : a.bank = b.bank)
    (hquiet : a.lineQuiet = b.lineQuiet) (hoverload : a.overload = b.overload) (hmain : a.mainGood = b.mainGood)
    (haux : a.auxGood = b.auxGood) : a = b := by
  cases a
  cases b
  simp_all

/-! ## Block starts -/

/-- The part's own mark of a block start moves neither the counter nor the samples begun, and realigns nothing. -/
theorem afterMark_zero_counts (after : Bool) (t : Timing) :
    let w := afterMark 0 after t
    w.counter = t.counter ∧ w.begun = t.begun ∧ w.slip = t.slip := by
  have hplaced : -512 ≤ (0 : Int) ∧ (0 : Int) ≤ 512 := by omega
  unfold afterMark acquiringMark lockedMark holdoverMark
  simp only [placedAt_zero, hplaced, and_self, if_true, and_true]
  (repeat' split) <;> exact ⟨rfl, rfl, rfl⟩

theorem driveMark_counts (active : Bool) (s : State) :
    let w := (driveMark active s).timing
    w.counter = s.timing.counter ∧ w.begun = s.timing.begun ∧ w.slip = s.timing.slip := by
  unfold driveMark
  split
  · rw [takeMark_eq, retime_timing]
    exact afterMark_zero_counts true _
  · exact ⟨rfl, rfl, rfl⟩

theorem begun_counts (t : Timing) : (begun t).counter = t.counter + 1 ∧ (begun t).begun = 0 ∧ (begun t).slip = false := by
  unfold begun
  split <;> exact ⟨rfl, rfl, rfl⟩

theorem beginBlock_frame (s : State) : beginBlock s
    = { s with timing := begun s.timing, report := { s.report with keys := (beginBlock s).report.keys } } := by
  rw [beginBlock_eq]
  exact retime_frame _ s

/-- R165: a clock state that the block start has changed is asked to be reported. -/
theorem beginBlock_box (h : (beginBlock (endBlock s)).timing.clock ≠ s.timing.clock) :
    Key.box ∈ (beginBlock (endBlock s)).report.keys := by
  rw [beginBlock_eq, retime_timing] at h
  rw [beginBlock_eq]
  by_cases hend : (endBlock s).timing.clock = s.timing.clock
  · exact box_mem_retime (hend ▸ h)
  · exact (retime_keysAsked _ _).1.subset (endBlock_box hend)

/-- Of the parts that take part in no block start, and of the power-good pins, a block start changes none. -/
theorem blockWork_begun_frame (i : BlockInputs) {b s : State} (hb : b = beginBlock (endBlock s)) :
    let t := blockWork i b
    t = { s with
      link := { s.link with pair := t.link.pair, stations := t.link.stations }
      timing := t.timing, feeds := t.feeds, demand := t.demand, gain := t.gain, steps := t.steps, paths := t.paths
      head := t.head, batch := t.batch, report := t.report, ahead := [], seed := t.seed
      phantom := { t.phantom with mainGood := s.phantom.mainGood, auxGood := s.phantom.auxGood } } := by
  subst hb
  intro t
  apply state_ext
  case hlink => apply link_ext <;> simp [t]
  case hphantom => apply phantom_ext <;> simp [t]
  case hahead => rfl
  all_goals simp [t]

/-- The feed blocks, and the headroom monitor, are those of the block that ended. -/
theorem blockWork_begun_keeps (i : BlockInputs) (s : State) :
    (blockWork i (beginBlock (endBlock s))).paths = (endBlock s).paths
      ∧ (blockWork i (beginBlock (endBlock s))).head = (endBlock s).head := by
  simp

theorem retime_keeps (w : Timing) (s : State) : (retime w s).own = s.own ∧ (retime w s).feeds = s.feeds
    ∧ (retime w s).paths = s.paths ∧ (retime w s).ahead = s.ahead := by
  rw [retime_frame]
  exact ⟨rfl, rfl, rfl, rfl⟩

theorem endBlock_path_absent {f : Feed} (h : (s.feeds.get f).binding.installed = false) :
    (endBlock s).paths.get f = s.paths.get f := by
  obtain ⟨-, hfeeds, hpaths, -⟩ := retime_keeps (ticked (ticksLeft s.timing) s.timing) s
  rw [endBlock_path, offerBlock_absent (by rw [hfeeds, h]), hpaths]

/-- R29, R112, R114: the feed block of the block that ends is offered whole to the port of an installed feed. -/
theorem endBlock_path_installed {f : Feed} (h : (s.feeds.get f).binding.installed = true) :
    (endBlock s).paths.get f =
      { tone := (s.paths.get f).tone, rows := [], flags := noFlags
        port := if (s.feeds.get f).lineUp then (s.paths.get f).port ++ [{
            header :=
              { source := s.own, counter := s.timing.counter
                clock := (s.ahead.findSome? Ahead.endedClock).getD (ticked (ticksLeft s.timing) s.timing).clock
                slip := s.timing.slip, count := s.timing.begun, flags := (s.paths.get f).flags }
            rows := (s.paths.get f).rows }] else (s.paths.get f).port } := by
  obtain ⟨hown, hfeeds, hpaths, hahead⟩ := retime_keeps (ticked (ticksLeft s.timing) s.timing) s
  rw [endBlock_path, offerBlock_installed (by rw [hfeeds, h])]
  simp only [feedBlock, State.clockAtEnd, retime_timing, hown, hfeeds, hpaths, hahead]
  rfl

/-- Settles O49. -/
theorem blockStartWork : Obligations.BlockStartWork := by
  refine ⟨fun s => ⟨rfl, rfl, periodic_frame s, fun k => mem_periodic k⟩, fun i s hr => ?_⟩
  intro u n missed lapsed clock counted ended begun
  have hrun : exec (.blockStart i) s = .next (blockWork (inputsAt i s.timing) begun) :=
    congrArg Host.Outcome.next (whileRunning_of_running hr)
  have hended : ended.timing = ticked n u := endBlock_ticked s
  have hbegun : begun.timing = Sys2Proof.Proofs.begun (ticked n u) := by
    rw [← hended, ← retime_timing (Sys2Proof.Proofs.begun ended.timing) ended, ← beginBlock_eq]
  have hdrive := driveMark_counts (i.markLine || u.slip) begun
  have hcounts := begun_counts (ticked n u)
  have hwork := blockWork_timing (inputsAt i s.timing) begun
  have hframe := beginBlock_frame ended
  obtain ⟨hpaths, hhead⟩ := blockWork_begun_keeps (inputsAt i s.timing) s
  refine ⟨hrun, rfl, rfl, endBlock_frame s, ?_, hbegun, beginBlock_box, _, hrun,
    blockWork_begun_frame (inputsAt i s.timing) rfl, ?_, ?_, ?_, hwork, hhead, ?_, ?_, ?_, ?_, ?_⟩
  · rw [hbegun, ← hended]
    exact hframe
  · rw [hwork]
    exact hdrive.1.trans (hbegun ▸ hcounts.1)
  · rw [hwork]
    exact hdrive.2.1.trans (hbegun ▸ hcounts.2.1)
  · rw [hwork]
    exact hdrive.2.2.trans (hbegun ▸ hcounts.2.2)
  · intro c
    obtain ⟨es, hes, -⟩ := blockWork_demand (inputsAt i s.timing) begun c
    refine ⟨by rw [hes], by rw [hes], fun hno => ?_, ?_, ?_, blockWork_current _ _ c⟩
    · have hdemand : begun.demand = ended.demand := by simp [begun]
      rw [blockWork_entries _ (by simpa [begun, ended] using hno), hdemand]
      exact (judged_endBlock s).2 c
    · rw [blockWork_lock]
      simp [begun, ended]
    · rw [blockWork_applied]
      simp [begun, ended]
  · intro st role age hp
    exact blockWork_station _ (by simpa [begun, ended] using hp)
  · intro f hf
    rw [hpaths]
    exact endBlock_path_absent hf
  · intro f hf
    rw [hpaths]
    exact endBlock_path_installed hf
  · have hsched := blockWork_schedule (inputsAt i s.timing) begun
    refine ⟨hsched.1, hsched.2.1, fun g hg => hsched.2.2 g ?_⟩
    rw [used_congr (s := s) (by simp [begun, ended]), hg]

end Sys2Proof.Proofs
end

section
/-! Starts and the end of start-up (R30, R33, R98, R149, R170, R172): a start sets every record as power-on does, and in
such a state the work of block 0 comes to the monitors read, the restore writes and the part's own mark. -/

namespace Sys2Proof.Proofs

open Sys2Proof.Machine Sys2Proof.Laws

variable {s : State}

/-! ## Starts -/

/-- A start leaves the part in start-up, with every record as power-on sets it (R172). -/
theorem beginStart_asAtPowerOn (i : StartInputs) (s : State) :
    (beginStart i s).phase = .startUp ∧ AsAtPowerOn (beginStart i s) := by
  have hstep (c : Chan) :
      startWrite i.readback c = { StepRec.start with mismatch := (startWrite i.readback c).mismatch } := by
    unfold startWrite
    split <;> rfl
  refine ⟨rfl, ⟨rfl, rfl, rfl, fun st => get_gen _ st⟩,
    ⟨rfl, rfl, rfl, rfl, rfl, rfl, rfl, rfl, rfl, rfl, rfl, rfl, rfl⟩,
    fun f => ?_, fun c => ?_, fun c => ?_, ⟨rfl, rfl, fun g => get_const _ g⟩, fun c => ?_, fun f => ?_,
    ⟨rfl, fun c => get_const _ c⟩, fun c => get_const _ c, rfl,
    ⟨rfl, fun st => get_const _ st, fun c => get_const _ c⟩, rfl, rfl, rfl, rfl⟩
  · exact congrArg FeedRec.binding (get_map _ _ f)
  · simp [beginStart, State.start, DemandRec.start, noEntries]
  · simp [beginStart, State.start, GainResolver.start, ResRec.start]
  · simp only [beginStart, get_gen]
    rw [hstep]
    exact ⟨rfl, rfl, rfl, rfl, rfl, rfl⟩
  · simp [beginStart, State.start, FeedPath.start, noFlags]

/-! ## Rounds that do nothing -/

theorem forEach_id {α : Type} {l : List α} {f : α → State → State} (h : ∀ a ∈ l, f a s = s) : forEach l f s = s :=
  forEach_induct (P := fun t => t = s) (fun a ha t ht => by rw [ht, h a ha]) rfl

/-- With no channel dirty there is nothing to resolve (R73). -/
theorem resolveAll_of_clean (h : ∀ c, (s.demand.get c).dirty = false) : resolveAll s = s := by
  have hnone : ∀ c, toResolve s c = false := fun c => by
    unfold toResolve
    split
    · exact h c
    · simp [h]
  have hwrite : writeResolved s = s := by
    apply state_ext
    case hgain => exact gain_ext (tab_ext fun c => by simp [writeResolved, hnone]) rfl rfl rfl
    case hdemand => exact tab_ext fun c => by simp [writeResolved, hnone]
    all_goals rfl
  have hchanged : channels.filter (changedBy s s) = [] := List.filter_eq_nil_iff.mpr fun c _ => by simp [changedBy]
  have hgroups : linkGroups.filter (groupResolved s) = [] :=
    List.filter_eq_nil_iff.mpr fun g _ => by simp [groupResolved, hnone]
  unfold resolveAll
  rw [hwrite]
  dsimp only
  rw [hchanged, hgroups]
  rfl

/-- With an empty link table there is nothing to age (R77). -/
theorem ageLinks_of_empty (h : s.gain.table = []) : ageLinks s = s := by
  have hsame : ({ s with gain.table := s.gain.table.map (fun e => { e with age := e.age + 1 }) } : State) = s := by
    apply state_ext
    case hgain => exact gain_ext rfl (by simp [h]) rfl rfl
    all_goals rfl
  unfold ageLinks
  rw [hsame]
  exact removeLinks_of_none (by simp [h])

/-- Where the view shows the entries already, presenting it changes nothing (R50). -/
theorem presentView_of_shown (h : ∀ c, (s.demand.get c).view = (s.demand.get c).entries) : presentView s = s := by
  have hshown : ∀ r : DemandRec, r.view = r.entries → { r with view := r.entries } = r := fun r hr => by
    cases r
    simp_all
  apply state_ext
  case hdemand => exact tab_ext fun c => (get_map _ _ c).trans (hshown _ (h c))
  all_goals rfl

/-- With no batch and no other station, the station table and the batch buffer have no work. -/
theorem stationsAndBatch_idle (hbatch : s.batch.record = .idle)
    (hst : ∀ st role age, s.link.stations.get st ≠ .present role age) :
    stationsAndBatch s = { s with seed := s.seed + 1 } := by
  have hmeets : lossMeetsBatch s = false := by simp [lossMeetsBatch, hbatch]
  unfold stationsAndBatch
  rw [hmeets]
  have hidle : batchAtBlock { s with seed := s.seed + 1 } = { s with seed := s.seed + 1 } := by
    simp [batchAtBlock, hbatch]
  rw [if_neg (by simp), hidle]
  exact forEach_id fun st _ => ageStation_of_not_present (hst st)

/-! ## The phantom controller with every channel OFF -/

theorem passOrder_of_off (h : ∀ c, (s.phantom.recs.get c).state = .off) : passOrder s = [] := by
  have hpass : ∀ p, passOf s p = [] := fun p => by simp [passOf, h, queuesAs]
  simp [passOrder, hpass]

theorem admissionPass_of_off (h : ∀ c, (s.phantom.recs.get c).state = .off) : admissionPass s = s := by
  unfold admissionPass
  rw [passOrder_of_off h]
  rfl

/-- With every channel OFF a block start reads the monitors and judges the overload (R140, R145). -/
theorem phantomAtBlock_off {m : Tab Nat 32} (hoff : ∀ c, (s.phantom.recs.get c).state = .off)
    (hpersist : ∀ c, (s.phantom.recs.get c).persist = 0) (hquiet : s.phantom.lineQuiet = 20)
    (hover : s.phantom.overload = 0) (hahead : s.ahead = []) :
    phantomAtBlock m s = { readMonitors m s with phantom := { (readMonitors m s).phantom with
      overload := if 8 * s.budget < (readMonitors m s).measuredTotal then 1 else 0 } } := by
  have hstate : ∀ c, ((readMonitors m s).phantom.recs.get c).state = .off := fun c => by simp [readMonitors, hoff]
  have hrec : ∀ c, ((readMonitors m s).phantom.recs.get c).persist = 0 := fun c => by simp [readMonitors, hpersist]
  have hq : (readMonitors m s).phantom.lineQuiet = 20 := hquiet
  have ho : (readMonitors m s).phantom.overload = 0 := hover
  have ha : (readMonitors m s).ahead = [] := hahead
  have hb : (readMonitors m s).budget = s.budget := rfl
  unfold phantomAtBlock
  rw [← hb]
  generalize readMonitors m s = u at *
  have hsettles : forEach channels advanceSettle u = u := forEach_id fun c _ => by
    simp [advanceSettle, hstate, PhantomState.left]
  have hshorts : forEach channels judgeShort u = u := forEach_id fun c _ => by
    have hzero : ∀ r : PhantomRec, r.persist = 0 → { r with persist := 0 } = r := fun r hr => by
      cases r
      simp_all
    unfold judgeShort
    dsimp only
    rw [hzero _ (hrec c), if_neg (by simp [hstate, watched])]
    exact if_pos rfl
  have hlines : advanceLines u = u := by
    have hfull : ({ u.phantom with lineQuiet := min 20 (u.phantom.lineQuiet + 1) } : Phantom) = u.phantom :=
      phantom_ext rfl rfl (by simp [hq]) rfl rfl rfl
    unfold advanceLines
    rw [hfull]
    exact if_neg fun h => by simp [hq] at h
  have hjudge : judgeOverload u = { u with phantom := { u.phantom with
      overload := if 8 * u.budget < u.measuredTotal then 1 else 0 } } := by
    unfold judgeOverload
    simp only [ha, List.not_mem_nil, if_false, ho]
    split <;> rfl
  rw [hsettles, hshorts, hlines, hjudge]
  exact admissionPass_of_off hstate

/-! ## The restore writes of block 0 -/

/-- A step record that stands as a start sets it, the mismatch count apart (R98). -/
structure AtRest (r : StepRec) : Prop where
  applied : r.applied = 0
  moving : r.moving = false
  pending : r.pending = none
  age : r.age = 8
  front : r.front = .good

/-- The start write mismatched, and the restore write mismatches again (R95, R98). -/
abbrev FailsRestore (rb : Readback) (c : Chan) (r : StepRec) : Prop := r.mismatch ≠ 0 ∧ readsBack rb c 0 ≠ 0

/-- A record at rest after the step controller's round. -/
def restored (rb : Readback) (c : Chan) (r : StepRec) : StepRec :=
  { r with
    mismatch := 0
    code := if r.mismatch = 0 then r.code else 0
    front := if FailsRestore rb c r then .fault 0 else .good }

theorem putStep_eq (c : Chan) (r : StepRec) (s : State) : putStep c r s = { s with steps := s.steps.set c r } := by
  apply state_ext
  case hsteps => exact putStep_steps c r
  all_goals simp

/-- Writing the record of a channel that stays IDLE and GOOD asks for no key (R85, R100). -/
theorem changeStep_quiet {c : Chan} {r : StepRec} (ha : r.applied = (s.steps.get c).applied)
    (hm : r.moving = (s.steps.get c).moving) (hf : r.front.isFault = (s.steps.get c).front.isFault) :
    changeStep c r s = { s with steps := s.steps.set c r } := by
  unfold changeStep
  rw [if_pos ⟨ha.symm, hm.symm, hf.symm⟩]
  exact putStep_eq c r s

theorem setEvent_ask (c : Chan) (e : Event) (s : State) : setEvent c e (ask (.channel c) s) = setEvent c e s := by
  have hkeys : (setEvent c e (ask (.channel c) s)).report.keys = (setEvent c e s).report.keys := by
    rw [setEvent_keys, setEvent_keys, ask_of_mem ((mem_ask _ _).mpr (.inr rfl))]
  apply state_ext
  case hreport => exact report_ext hkeys rfl rfl
  all_goals rfl

/-- The event bit asks for the channel's key itself: a record written just before it adds no other key. -/
theorem setEvent_changeStep (c : Chan) (e : Event) (r : StepRec) (s : State) :
    setEvent c e (changeStep c r s) = setEvent c e { s with steps := s.steps.set c r } := by
  unfold changeStep
  rw [putStep_eq]
  dsimp only
  split
  · rfl
  · exact setEvent_ask c e _

/-- The round of a channel at rest, its target 0: where the start write mismatched, the restore write is made (R94, R95,
R98). -/
theorem stepAtBlock_atRest (rb : Readback) {c : Chan} (h : AtRest (s.steps.get c))
    (htarget : (s.gain.recs.get c).target = 0) (hahead : s.ahead = []) :
    stepAtBlock rb c s =
      if FailsRestore rb c (s.steps.get c) then
        setEvent c .frontEndFault { s with steps := s.steps.set c (restored rb c (s.steps.get c)) }
      else { s with steps := s.steps.set c (restored rb c (s.steps.get c)) } := by
  have hround : stepAtBlock rb c s = decideStep rb c 0 (s.steps.get c) s := by
    unfold stepAtBlock
    rw [htarget, if_neg (by simp [hahead]), h.front]
    obtain ⟨ha, hm, hp, hage, hf⟩ := h
    generalize s.steps.get c = r at *
    cases r
    simp_all
  have hcode : codeOf (s.steps.get c).applied = 0 := by rw [h.applied]; rfl
  have hmatch : readMatches rb c (s.steps.get c).applied = (readsBack rb c 0 == 0) := by rw [h.applied]; rfl
  rw [hround]
  unfold decideStep
  rw [if_neg (by simp [h.pending])]
  by_cases hm : (s.steps.get c).mismatch = 0
  · have hsame : restored rb c (s.steps.get c) = s.steps.get c := by
      have hf := h.front
      unfold restored
      generalize s.steps.get c = r at *
      cases r
      simp_all
    rw [if_pos hm, if_pos (.inl h.applied), hsame, if_neg (fun hfail => hfail.1 hm)]
    exact changeStep_quiet rfl rfl rfl
  · rw [if_neg hm, if_pos h.applied]
    unfold restoreWrite
    dsimp only
    rw [hcode, hmatch]
    by_cases hread : readsBack rb c 0 = 0
    · have hmade : restored rb c (s.steps.get c) = { s.steps.get c with code := 0, mismatch := 0 } := by
        simp [restored, hm, hread, h.front]
      rw [if_pos (beq_iff_eq.mpr hread), if_neg (fun hfail => hfail.2 hread), hmade]
      exact changeStep_quiet rfl rfl rfl
    · have hmade : restored rb c (s.steps.get c)
          = { s.steps.get c with code := 0, moving := false, mismatch := 0, front := .fault 0 } := by
        simp [restored, hm, hread, h.moving]
      rw [if_neg (hread <| beq_iff_eq.mp ·), if_pos ⟨hm, hread⟩, hmade]
      unfold mismatched
      rw [if_neg hm]
      exact setEvent_changeStep _ _ _ _

/-- What the rounds of the channels of `l` make of `s`, all of them at rest. -/
structure RestoresMade (rb : Readback) (l : List Chan) (s t : State) : Prop where
  steps : ∀ c, t.steps.get c = if c ∈ l then restored rb c (s.steps.get c) else s.steps.get c
  events : ∀ c, t.report.events.get c = if c ∈ l ∧ FailsRestore rb c (s.steps.get c)
    then s.report.events.get c ||| Event.frontEndFault.mask else s.report.events.get c
  keys : ∀ k, k ∈ t.report.keys ↔ k ∈ s.report.keys ∨ ∃ c ∈ l, k = .channel c ∧ FailsRestore rb c (s.steps.get c)
  frame : t = { s with steps := t.steps, report := { s.report with keys := t.report.keys, events := t.report.events } }

theorem restoresMade_round (rb : Readback) {c : Chan} (h : AtRest (s.steps.get c))
    (htarget : (s.gain.recs.get c).target = 0) (hahead : s.ahead = []) (hpair : s.link.pair = .waiting) :
    RestoresMade rb [c] s (stepAtBlock rb c s) := by
  have hsteps (d : Chan) : (s.steps.set c (restored rb c (s.steps.get c))).get d
      = if d ∈ [c] then restored rb d (s.steps.get d) else s.steps.get d := by
    rw [get_set]
    by_cases hd : d = c
    · simp [hd]
    · simp [hd]
  rw [stepAtBlock_atRest rb h htarget hahead]
  split
  · next hfail =>
    refine ⟨hsteps, fun d => ?_, fun k => ?_, ?_⟩
    · rw [setEvent_events]
      by_cases hd : d = c
      · subst hd
        rw [if_pos rfl, if_pos ⟨List.mem_singleton.mpr rfl, hfail⟩]
      · simp [hd]
    · rw [setEvent_keys, mem_ask]
      exact or_congr_right ⟨fun hk => ⟨c, List.mem_singleton.mpr rfl, hk, hfail⟩,
        fun ⟨d, hd, hk, _⟩ => List.mem_singleton.mp hd ▸ hk⟩
    · apply state_ext
      case hlink => exact link_ext (by simp [setEvent, noteAgain, hpair]) rfl rfl rfl
      all_goals rfl
  · next hok =>
    refine ⟨hsteps, fun d => ?_, fun k => ?_, rfl⟩
    · refine (if_neg ?_).symm
      rintro ⟨hd, hfail⟩
      exact hok (List.mem_singleton.mp hd ▸ hfail)
    · simp [hok]

theorem restoresMade_trans {rb : Readback} {c : Chan} {l : List Chan} {t u : State} (hc : c ∉ l)
    (h₁ : RestoresMade rb [c] s t) (h₂ : RestoresMade rb l t u) : RestoresMade rb (c :: l) s u := by
  have hsame {d : Chan} (hd : d ∈ l) : t.steps.get d = s.steps.get d :=
    (h₁.steps d).trans (if_neg (ne_of_mem_of_not_mem hd hc <| List.mem_singleton.mp ·))
  refine ⟨fun d => ?_, fun d => ?_, fun k => ?_, ?_⟩
  · rw [h₂.steps]
    by_cases hd : d ∈ l
    · rw [if_pos hd, if_pos (List.mem_cons_of_mem _ hd), hsame hd]
    · rw [if_neg hd, h₁.steps]
      simp [hd]
  · rw [h₂.events]
    by_cases hd : d ∈ l
    · have hdc : d ≠ c := fun e => hc (e ▸ hd)
      rw [hsame hd, h₁.events]
      simp [hd, hdc]
    · rw [if_neg (hd ·.1), h₁.events]
      simp [hd]
  · rw [h₂.keys, h₁.keys, or_assoc]
    have hlater : (∃ d ∈ l, k = .channel d ∧ FailsRestore rb d (t.steps.get d))
        ↔ ∃ d ∈ l, k = .channel d ∧ FailsRestore rb d (s.steps.get d) :=
      exists_congr fun d => and_congr_right fun hd => by rw [hsame hd]
    rw [hlater]
    simp
  · rw [h₂.frame, h₁.frame]

theorem stepRounds_atRest (rb : Readback) {l : List Chan} (hl : l.Nodup) (h : ∀ c ∈ l, AtRest (s.steps.get c))
    (htarget : ∀ c, (s.gain.recs.get c).target = 0) (hahead : s.ahead = []) (hpair : s.link.pair = .waiting) :
    RestoresMade rb l s (forEach l (stepAtBlock rb) s) := by
  induction l generalizing s with
  | nil => exact ⟨fun _ => by simp, fun _ => by simp, fun _ => by simp, rfl⟩
  | cons c l ih =>
    obtain ⟨hc, hnd⟩ := List.nodup_cons.mp hl
    rw [forEach_cons]
    have hround := restoresMade_round rb (h c List.mem_cons_self) (htarget c) hahead hpair
    refine restoresMade_trans hc hround (ih hnd (fun d hd => ?_) ?_ ?_ ?_)
    · rw [hround.steps, if_neg (ne_of_mem_of_not_mem hd hc <| List.mem_singleton.mp ·)]
      exact h d (List.mem_cons_of_mem c hd)
    · rw [hround.frame]
      exact htarget
    · rw [hround.frame]
      exact hahead
    · rw [hround.frame]
      exact hpair

/-! ## The part's own mark of block 0 -/

/-- The timing after block 0's mark drive, from the timing that power-on sets (R19, R22). -/
def drivenAtStart (lead active : Bool) (t : Timing) : Timing :=
  if lead = true ∧ active = false then
    { t with clock := .acquiring, lastOffset := some 0, driveLeft := some 2048 } else t

/-- What power-on sets of the timing record, as far as the mark drive reads or writes it. -/
structure TimingAtStart (t : Timing) : Prop where
  clock : t.clock = .free
  blockLen : t.blockLen = 24576
  nextLen : t.nextLen = 24576
  tickCount : t.tickCount = 0
  quietCount : t.quietCount = 0
  lockCount : t.lockCount = 0
  driveLeft : t.driveLeft = none

theorem afterMark_start {t : Timing} (h : TimingAtStart t) :
    afterMark 0 true { t with driveLeft := some 2048 }
      = { t with clock := .acquiring, lastOffset := some 0, driveLeft := some 2048 } := by
  obtain ⟨hclock, hlen, hnext, htick, hquiet, hlock, hdrive⟩ := h
  rw [afterMark_free (t := { t with driveLeft := some 2048 }) hclock, placedAt_zero]
  cases t
  simp_all [acquiring, measured]

/-- BOX is in the list already: the clock state's change asks for no other key. -/
theorem retime_of_box {w : Timing} (h : Key.box ∈ s.report.keys) : retime w s = { s with timing := w } := by
  by_cases hc : w.clock = s.timing.clock
  · exact retime_same hc
  · rw [retime_change hc]
    exact ask_of_mem h

theorem driveMark_start (active : Bool) (h : TimingAtStart s.timing) (hbox : Key.box ∈ s.report.keys) :
    driveMark active s = { s with timing := drivenAtStart s.config.markLead active s.timing } := by
  unfold drivenAtStart
  split
  · next hlead => rw [driveMark_eq hlead.1 hlead.2 h.driveLeft, afterMark_start h, retime_of_box hbox]
  · next hlead =>
    refine driveMark_no_drive ?_
    cases hl : s.config.markLead
    · exact .inl rfl
    · exact .inr (.inl (by simpa [hl] using hlead))

/-! ## The tasks of block 0 -/

/-- What the tasks of block 0 read of a part that has just left start-up: no station, no batch, no entry, no link and no
powered channel; the step controllers at rest; BOX in the list. -/
structure JustStarted (s : State) : Prop where
  pair : s.link.pair = .waiting
  stations : ∀ st role age, s.link.stations.get st ≠ .present role age
  timing : TimingAtStart s.timing
  clean : ∀ c, (s.demand.get c).dirty = false
  shown : ∀ c, (s.demand.get c).view = (s.demand.get c).entries
  target : ∀ c, (s.gain.recs.get c).target = 0
  links : s.gain.table = []
  steps : ∀ c, AtRest (s.steps.get c)
  off : ∀ c, (s.phantom.recs.get c).state = .off
  persist : ∀ c, (s.phantom.recs.get c).persist = 0
  lineQuiet : s.phantom.lineQuiet = 20
  overload : s.phantom.overload = 0
  batch : s.batch.record = .idle
  keys : s.report.keys = [.box]
  ahead : s.ahead = []

/-- The work of block 0 before the step controller's: the mark drive, and a new seed. -/
def beforeSteps (active : Bool) (s : State) : State :=
  { s with timing := drivenAtStart s.config.markLead active s.timing, seed := s.seed + 1 }

/-- The overload judgement of a block start that finds none in force (R145). -/
def overloadJudged (s : State) : State :=
  { s with phantom := { s.phantom with overload := if 8 * s.budget < s.measuredTotal then 1 else 0 } }

theorem overloadJudged_overload (s : State) : (overloadJudged s).phantom.overload
    = if 8 * (overloadJudged s).budget < (overloadJudged s).measuredTotal then 1 else 0 := by
  have hbudget : (overloadJudged s).budget = s.budget := by simp only [State.budget, overloadJudged]
  have hrecs : (overloadJudged s).phantom.recs = s.phantom.recs := by simp only [overloadJudged]
  have htotal : (overloadJudged s).measuredTotal = s.measuredTotal := by simp only [State.measuredTotal, hrecs]
  rw [hbudget, htotal]
  simp only [overloadJudged]

theorem viewAndLinks_justStarted (active : Bool) (h : JustStarted s) :
    resolveAll (presentView (ageLinks (stationsAndBatch (driveMark active s)))) = beforeSteps active s := by
  have hseed : stationsAndBatch (driveMark active s) = beforeSteps active s := by
    rw [driveMark_start active h.timing (by simp [h.keys])]
    exact stationsAndBatch_idle h.batch h.stations
  rw [hseed, ageLinks_of_empty (s := beforeSteps active s) h.links,
    presentView_of_shown (s := beforeSteps active s) h.shown, resolveAll_of_clean (s := beforeSteps active s) h.clean]

/-- Block 0 comes to the mark drive, the restore writes, the monitors and the overload judgement. -/
theorem blockTasks_justStarted (i : BlockInputs) (h : JustStarted s) : ∃ t,
    RestoresMade i.readback channels (beforeSteps i.markLine s) t
      ∧ blockTasks i s = overloadJudged (readMonitors i.monitors t) := by
  have hmade : RestoresMade i.readback channels (beforeSteps i.markLine s)
      (stepAll i.readback (beforeSteps i.markLine s)) :=
    stepRounds_atRest i.readback channels_nodup (fun c _ => h.steps c) h.target h.ahead h.pair
  refine ⟨_, hmade, ?_⟩
  have hphantom : (stepAll i.readback (beforeSteps i.markLine s)).phantom = s.phantom := by
    rw [hmade.frame]
    rfl
  have hahead : (stepAll i.readback (beforeSteps i.markLine s)).ahead = [] := by
    rw [hmade.frame]
    exact h.ahead
  unfold blockTasks
  rw [viewAndLinks_justStarted _ h]
  generalize stepAll i.readback (beforeSteps i.markLine s) = t at *
  exact phantomAtBlock_off (fun c => by rw [hphantom]; exact h.off c) (fun c => by rw [hphantom]; exact h.persist c)
    (by rw [hphantom]; exact h.lineQuiet) (by rw [hphantom]; exact h.overload) hahead

/-! ## The end of start-up -/

theorem startRunning_eq (mainGood auxGood : Bool) (lines : Tab Bool 6) (hkeys : s.report.keys = []) :
    startRunning mainGood auxGood lines s = { s with
      phase := .running
      feeds := readLines lines s.feeds
      phantom := { s.phantom with
        mainGood := mainGood
        auxGood := auxGood
        lineQuiet := 20
        overload := 0
        bank := (startRunning mainGood auxGood lines s).phantom.bank }
      report := { s.report with keys := [.box] } } := by
  apply state_ext
  case hreport => exact report_ext (by simp [startRunning, ask, hkeys]) rfl rfl
  all_goals rfl

theorem justStarted_startRunning (mainGood auxGood : Bool) (lines : Tab Bool 6) (h : AsAtPowerOn s) :
    JustStarted (startRunning mainGood auxGood lines s) := by
  obtain ⟨⟨hpair, hclash, herrors, hstations⟩,
    ⟨hclock, hcounter, hlen, hnext, htick, hquiet, hoffset, hlock, hbad, hbegun, hticks, hslip, hdrive⟩,
    hbinding, hdemand, hgain, ⟨htable, hfull, hannounce⟩, hsteps, hpaths, hhead, hphantom, hbatch,
    ⟨hkeys, hslots, hevents⟩, hlockLine, halertLine, hactiveLine, hahead⟩ := h
  rw [startRunning_eq mainGood auxGood lines hkeys]
  exact
    { pair := hpair
      stations := fun st role age => by
        rw [hstations]
        split <;> simp
      timing := ⟨hclock, hlen, hnext, htick, hquiet, hlock, hdrive⟩
      clean := fun c => (hdemand c).1
      shown := fun c => tab_ext fun f => ((hdemand c).2 f).2.trans ((hdemand c).2 f).1.symm
      target := fun c => (hgain c).1
      links := htable
      steps := fun c => by
        obtain ⟨ha, hm, hp, hage, hf, hcode⟩ := hsteps c
        exact ⟨ha, hm, hp, hage, hf⟩
      off := fun c => by rw [hphantom]
      persist := fun c => by rw [hphantom]
      lineQuiet := rfl
      overload := rfl
      batch := by rw [hbatch]
      keys := rfl
      ahead := hahead }

theorem startRunning_bank (mainGood auxGood : Bool) (lines : Tab Bool 6) (s : State) :
    (startRunning mainGood auxGood lines s).phantom.bank.val
      = (if mainGood then 2 else 0) + (if auxGood then 1 else 0) := by
  cases mainGood <;> cases auxGood <;> rfl

/-- The feeds are bound to no one when start-up ends: their port lines are read where they are installed (R33). -/
theorem readLines_start (lines : Tab Bool 6)
    (h : ∀ f, (s.feeds.get f).binding = if s.config.installed.get f then .free else .absent) (f : Feed) :
    (readLines lines s.feeds).get f
      = { s.feeds.get f with lineUp := s.config.installed.get f && lines.get f } := by
  have hinstalled : (s.feeds.get f).binding.installed = s.config.installed.get f := by
    rw [h]
    cases s.config.installed.get f <;> rfl
  unfold readLines
  rw [get_gen]
  dsimp only
  rw [hinstalled]

/-- What START_UP_END makes of a part that stands as power-on sets it: the rounds of the step controller are made on the
part as it leaves start-up. -/
theorem startUpEnd_atPowerOn (mainGood auxGood : Bool) (lines : Tab Bool 6) (i : BlockInputs)
    (hphase : s.phase = .startUp) (h : AsAtPowerOn s) : ∃ u,
      RestoresMade i.readback channels (beforeSteps i.markLine (startRunning mainGood auxGood lines s)) u
        ∧ startUpEnd mainGood auxGood lines i s = overloadJudged (readMonitors i.monitors u) := by
  have hstarted := justStarted_startRunning mainGood auxGood lines h
  obtain ⟨u, hmade, hend⟩ := blockTasks_justStarted i hstarted
  have hahead : u.ahead = [] := by
    rw [hmade.frame]
    exact hstarted.ahead
  refine ⟨u, hmade, ?_⟩
  unfold startUpEnd
  rw [if_pos hphase, hend]
  apply state_ext
  case hahead => exact hahead.symm
  all_goals rfl

theorem restored_front (rb : Readback) (c : Chan) (r : StepRec) :
    ((restored rb c r).front = .fault 0 ↔ FailsRestore rb c r)
      ∧ ((restored rb c r).front = .good ↔ ¬ FailsRestore rb c r) := by
  by_cases hfail : FailsRestore rb c r
  · have hfront : (restored rb c r).front = .fault 0 := if_pos hfail
    rw [hfront]
    exact ⟨⟨fun _ => hfail, fun _ => rfl⟩, ⟨nofun, (absurd hfail ·)⟩⟩
  · have hfront : (restored rb c r).front = .good := if_neg hfail
    rw [hfront]
    exact ⟨⟨nofun, (absurd · hfail)⟩, ⟨fun _ => hfail, fun _ => rfl⟩⟩

/-- The rounds of all channels of a part that has no event bit set. -/
theorem restoresMade_channels {rb : Readback} {t : State} (h : RestoresMade rb channels s t)
    (hevents : ∀ c, s.report.events.get c = 0) :
    (∀ c, t.steps.get c = restored rb c (s.steps.get c))
      ∧ (∀ c, (t.report.events.get c).getLsbD 8 = true ↔ FailsRestore rb c (s.steps.get c))
      ∧ ∀ k, k ∈ t.report.keys ↔ k ∈ s.report.keys ∨ ∃ c, k = .channel c ∧ FailsRestore rb c (s.steps.get c) := by
  refine ⟨fun c => (h.steps c).trans (if_pos (mem_channels c)), fun c => ?_, fun k => (h.keys k).trans ?_⟩
  · rw [h.events, hevents]
    by_cases hfail : FailsRestore rb c (s.steps.get c)
    · rw [if_pos ⟨mem_channels c, hfail⟩]
      exact ⟨fun _ => hfail, fun _ => rfl⟩
    · rw [if_neg (hfail ·.2)]
      exact ⟨nofun, (absurd · hfail)⟩
  · exact or_congr_right (exists_congr fun c => and_iff_right (mem_channels c))

/-- Settles O19: a start sets every record as power-on does, and from there block 0 comes to the port lines, the bank, the
part's own mark, the restore writes, the monitors and the overload judgement. -/
theorem startUpEndBeginsBlockZero : Obligations.StartUpEndBeginsBlockZero := by
  unfold Obligations.StartUpEndBeginsBlockZero
  refine ⟨fun i s₀ s h => ?_, fun s mainGood auxGood lines b hphase h => ?_⟩
  · have hs : beginStart i s₀ = s := h.elim Host.Outcome.next.inj Host.Outcome.next.inj
    exact hs ▸ beginStart_asAtPowerOn i s₀
  obtain ⟨u, hmade, hend⟩ := startUpEnd_atPowerOn mainGood auxGood lines b hphase h
  have hbank := startRunning_bank mainGood auxGood lines s
  obtain ⟨_, _, hbinding, _, _, _, _, _, _, _, _, ⟨hkeys, _, hevents⟩, _⟩ := h
  rw [startRunning_eq mainGood auxGood lines hkeys] at hmade
  have hexec : exec (.startUpEnd mainGood auxGood lines b) s = .next (overloadJudged (readMonitors b.monitors u)) :=
    congrArg Host.Outcome.next hend
  generalize (startRunning mainGood auxGood lines s).phantom.bank = bank at hbank hmade
  obtain ⟨hsteps, hbits, hasked⟩ := restoresMade_channels hmade hevents
  have hframe := hmade.frame
  clear hmade hend
  intro w faulty
  refine ⟨overloadJudged (readMonitors b.monitors u), hexec, ?_, ?_, ?_, ?_, ?_, ?_, ?_, ?_,
    overloadJudged_overload _, ?_, ?_⟩
  · rw [hframe]
    rfl
  · rw [hframe]
    rfl
  · intro f
    rw [hframe]
    exact readLines_start lines hbinding f
  · intro c
    have hrec : (overloadJudged (readMonitors b.monitors u)).steps.get c = restored b.readback c (s.steps.get c) :=
      hsteps c
    rw [hrec]
    exact ⟨rfl, (restored_front _ _ _).1, (restored_front _ _ _).2, hbits c⟩
  · rw [hframe]
    exact hbank
  · rw [hframe]
    rfl
  · rw [hframe]
    rfl
  · rw [hframe]
    rfl
  · intro c
    have hphantom : u.phantom.recs = s.phantom.recs := by rw [hframe]; rfl
    have hread : (overloadJudged (readMonitors b.monitors u)).phantom.recs.get c
        = { u.phantom.recs.get c with current := min 255 (b.monitors.get c) } := get_gen _ c
    rw [hread, hphantom]
  · intro k
    have hkey : k ∈ (overloadJudged (readMonitors b.monitors u)).report.keys ↔ _ := hasked k
    exact hkey.trans (or_congr_left List.mem_singleton)

end Sys2Proof.Proofs
end

section
/-! Desk requests that are checked (R12, R34, R38, R53, R164): a request is decided in the state that its own hearing
left, where nothing is being sent, so that an outcome placed there changes a slot and the key list alone. -/

namespace Sys2Proof.Proofs

open Sys2Proof.Machine Sys2Proof.Laws

variable {s : State}

/-! ## Deciding a request -/

/-- No attempt is in progress, so that nothing notes what is set again or placed anew (R163). -/
def NotSending (s : State) : Prop := ∀ x, s.link.pair ≠ .sending x

/-- The request itself has ended on the pair. -/
theorem heard_notSending (e : Envelope) (s : State) : NotSending (heard e s) := by
  have hpair : (heard e s).link.pair = .ended := congrArg LinkController.pair (heard_link e.source .desk)
  intro x
  rw [hpair]
  exact nofun

theorem heard_timing (e : Envelope) (s : State) : (heard e s).timing = s.timing := by
  rw [heard, recordHearing_frame]
  rfl

/-- R164: where nothing is being sent, placing an outcome does no more than the statements' `answered`. -/
theorem place_eq_answered (h : NotSending s) (st : Station) (a : Answer) : place st a s = answered st a s :=
  place_eq st a h

theorem answer_heard (e : Envelope) (kind : Byte) (code : OutcomeCode) (s : State) :
    answer e kind code (heard e s) = answered e.source (plain kind code e.tag) (heard e s) :=
  place_eq_answered (heard_notSending e s) _ _

theorem request_of_takes {e : Envelope} (k : State → State) (h : Takes e s) : request e k s = k (heard e s) := by
  obtain ⟨hcan, hother, hus⟩ := h
  exact request_taken k hcan hother hus

/-- R38: a request of the holder, past the check. -/
theorem request_of_holder {e : Envelope} {kind feed : Byte} {f : Feed} (k : Feed → State → State) (h : Takes e s)
    (hheld : HeldBy e feed f (heard e s)) : request e (withHolder e kind feed k) s = k f (heard e s) := by
  obtain ⟨hfeed, hholds⟩ := hheld
  rw [request_of_takes _ h, withHolder_held k hfeed hholds]

/-! ## Requests that fail a check -/

theorem rangeOk_iff {first last : Byte} : rangeOk first last = true ↔ RangeOk first last := by
  simp [rangeOk, and_assoc]

/-- Every request with a holder check does its work behind that check (R38). -/
theorem exec_eq_withHolder {m : Instr} {e : Envelope} {kind feed : Byte} (h : m.holderCheck = some (e, kind, feed))
    (s : State) : ∃ k, exec m s = .next (request e (withHolder e kind feed k) s) := by
  cases m <;> simp only [Instr.holderCheck, Option.some.injEq, Prod.mk.injEq, reduceCtorEq] at h <;>
    obtain ⟨rfl, rfl, rfl⟩ := h <;> exact ⟨_, rfl⟩

/-- Every request with a range does its work behind the holder check and then the range check (R53, R110, R117). -/
theorem exec_eq_withRange {m : Instr} {e : Envelope} {kind feed first last : Byte}
    (h : m.rangeCheck = some (e, kind, feed, first, last)) (s : State) : ∃ k : Feed → State → State,
      exec m s = .next (request e (withHolder e kind feed fun f t =>
        if rangeOk first last then k f t else answer e kind .badRange t) s) := by
  cases m <;> simp only [Instr.rangeCheck, Option.some.injEq, Prod.mk.injEq, reduceCtorEq] at h <;>
    obtain ⟨rfl, rfl, rfl, rfl, rfl⟩ := h <;> exact ⟨_, rfl⟩

/-- R179: 3 is no permitted mute or phantom code. -/
theorem settingOf_three : settingOf 3 = none := by decide

/-- R53: a SET DEMAND with a code that is not permitted. -/
theorem takeSetDemand_bad_field {e : Envelope} {feed first last x gain : Byte} {f : Feed} (hheld : HeldBy e feed f s)
    (hrange : RangeOk first last) (hx : x.extractLsb' 2 2 = 3 ∨ x.extractLsb' 0 2 = 3) :
    takeSetDemand e feed first last x gain s = answer e 4 .badRange s := by
  obtain ⟨hfeed, hholds⟩ := hheld
  rw [takeSetDemand, withHolder_held _ hfeed hholds, if_pos (rangeOk_iff.mpr hrange)]
  obtain hmute | hphantom := hx
  · rw [muteOf, hmute, settingOf_three]
  · rw [phantomOf, hphantom, settingOf_three]
    cases muteOf x <;> rfl

/-- R117: a LOCK with a mode other than HOLD and FIX. -/
theorem takeLock_bad_mode {e : Envelope} {feed first last mode : Byte} {f : Feed} (hheld : HeldBy e feed f s)
    (hrange : RangeOk first last) (hhold : mode ≠ 0) (hfix : mode ≠ 1) :
    takeLock e feed first last mode s = answer e 6 .badRange s := by
  obtain ⟨hfeed, hholds⟩ := hheld
  rw [takeLock, withHolder_held _ hfeed hholds, if_pos (rangeOk_iff.mpr hrange), fixOf, if_neg hhold, if_neg hfix]

/-- R110: a TONE with a state other than OFF and ON. -/
theorem takeTone_bad_state {e : Envelope} {feed first last state : Byte} {f : Feed} (hheld : HeldBy e feed f s)
    (hrange : RangeOk first last) (hoff : state ≠ 0) (hon : state ≠ 1) :
    takeTone e feed first last state s = answer e 9 .badRange s := by
  obtain ⟨hfeed, hholds⟩ := hheld
  rw [takeTone, withHolder_held _ hfeed hholds, if_pos (rangeOk_iff.mpr hrange), toneOf, if_neg hoff, if_neg hon]

/-- R153: a BATCH OPEN with a count outside 1 to 64. -/
theorem takeOpen_bad_count {e : Envelope} {feed count : Byte} {f : Feed} (hheld : HeldBy e feed f s)
    (hcount : count = 0 ∨ 64 < count.toNat) : takeOpen e feed count s = answer e 10 .badRange s := by
  obtain ⟨hfeed, hholds⟩ := hheld
  have hbad : ¬ (1 ≤ count.toNat ∧ count.toNat ≤ 64) := by
    obtain rfl | hbig := hcount
    · decide
    · omega
  rw [takeOpen, withHolder_held _ hfeed hholds, if_neg hbad]

/-- Settles O30: the holder check, the range check and the field checks, in their order. -/
theorem requestsThatFailACheck : Obligations.RequestsThatFailACheck := by
  refine ⟨fun m e kind feed s hm ht hnot => ?_, fun m e kind feed first last f s hm ht hheld hbad => ?_,
    fun e feed first last x gain f s ht hheld => ⟨fun hrange hx => congrArg Host.Outcome.next ?_,
      fun hrange h0 h1 => ⟨congrArg Host.Outcome.next ?_, congrArg Host.Outcome.next ?_⟩,
      fun hx => congrArg Host.Outcome.next ?_⟩⟩
  · obtain ⟨k, hk⟩ := exec_eq_withHolder hm s
    rw [hk, request_of_takes _ ht, withHolder_refused k hnot, answer_heard]
  · obtain ⟨k, hk⟩ := exec_eq_withRange hm s
    rw [hk, request_of_holder _ ht hheld, if_neg (mt rangeOk_iff.mp hbad), answer_heard]
  · rw [request_of_takes _ ht, takeSetDemand_bad_field hheld hrange hx, answer_heard]
  · rw [request_of_takes _ ht, takeLock_bad_mode hheld hrange h0 h1, answer_heard]
  · rw [request_of_takes _ ht, takeTone_bad_state hheld hrange h0 h1, answer_heard]
  · rw [request_of_takes _ ht, takeOpen_bad_count hheld hx, answer_heard]

/-! ## CLAIM -/

/-- A binding that changes makes another feed table. -/
theorem modify_binding_ne {t : Tab FeedRec 6} {f : Feed} {b : Binding} (hb : (t.get f).binding ≠ b) :
    t.modify f (fun r => { r with binding := b }) ≠ t := fun e => hb (by
  have hget := congrArg (fun u => (u.get f).binding) e
  simpa [get_modify] using hget.symm)

/-- R31, R34: a feed that is bound anew, with the outcome placed. -/
theorem boundWith_bindFeed {f : Feed} {b : Binding} (hs : NotSending s) (hb : (s.feeds.get f).binding ≠ b)
    (st : Station) (a : Answer) : BoundWith f b st a s (place st a (bindFeed f b s)) := by
  have hquiet : NotSending (bindFeed f b s) := by simpa [NotSending] using hs
  refine ⟨?_, ?_, ?_⟩
  · rw [place_eq_answered hquiet]
    conv_lhs => rw [bindFeed, setFeeds_frame]
    rfl
  · exact (mem_ask _ _).mpr (.inr rfl)
  · exact keys_subset_ask _ (box_mem_setFeeds (modify_binding_ne hb))

/-- R36: whether a CLAIM is answered RESUMED on a feed that its own hearing resumed. -/
theorem orphanedBy_iff {feeds : Tab FeedRec 6} {f : Feed} {st : Station} :
    orphanedBy feeds f st = true ↔ ∃ n, (feeds.get f).binding = .orphaned st n := by
  unfold orphanedBy
  split
  · next holder since hb => simp [hb]
  · next hnot => exact ⟨nofun, fun ⟨n, hn⟩ => absurd hn (hnot st n)⟩

section Claim

variable {e : Envelope} {b : Byte} {before : Tab FeedRec 6} {f : Feed}

theorem takeClaim_noFeed (h : ∀ f, feedOf b = some f → (s.feeds.get f).binding = .absent) :
    takeClaim e b before s = answer e 2 .noFeed s := by
  unfold takeClaim
  cases hf : feedOf b with
  | none => rfl
  | some f => simp only [h f hf]

theorem takeClaim_free (hf : feedOf b = some f) (h : (s.feeds.get f).binding = .free) :
    takeClaim e b before s = answer e 2 .done (bindFeed f (.bound e.source s.timing.counter) s) := by
  simp only [takeClaim, hf, h]

theorem takeClaim_own {since : Word16} (hf : feedOf b = some f) (h : (s.feeds.get f).binding = .bound e.source since) :
    takeClaim e b before s
      = place e.source { plain 2 .done e.tag with resumed := orphanedBy before f e.source } s := by
  simp only [takeClaim, hf, h, if_true]

theorem takeClaim_taken {st : Station} {since : Word16} (hf : feedOf b = some f)
    (h : (s.feeds.get f).binding = .bound st since) (hne : st ≠ e.source) :
    takeClaim e b before s
      = place e.source { plain 2 .feedTaken e.tag with value := BitVec.ofNat 8 st.val } s := by
  simp only [takeClaim, hf, h, if_neg hne]
  rfl

theorem takeClaim_resumes {since : Word16} (hf : feedOf b = some f)
    (h : (s.feeds.get f).binding = .orphaned e.source since) :
    takeClaim e b before s
      = place e.source { plain 2 .done e.tag with resumed := true } (bindFeed f (.bound e.source since) s) := by
  simp only [takeClaim, hf, h, if_true]

theorem takeClaim_takesOver {st : Station} {since : Word16} (hf : feedOf b = some f)
    (h : (s.feeds.get f).binding = .orphaned st since) (hne : st ≠ e.source) :
    takeClaim e b before s = place e.source { plain 2 .done e.tag with takeover := true }
      (bindFeed f (.bound e.source s.timing.counter) s) := by
  simp only [takeClaim, hf, h, if_neg hne]

end Claim

/-- Settles O29, by what the claim's own hearing left in the feed's record. -/
theorem claimIsDecidedOnTheRecord : Obligations.ClaimIsDecidedOnTheRecord := by
  intro e b s ht
  have hquiet := heard_notSending e s
  have hdecided : exec (.claim e b) s = .next (takeClaim e b s.feeds (heard e s)) :=
    congrArg Host.Outcome.next (request_of_takes _ ht)
  rw [hdecided, ← heard_timing e s]
  refine ⟨fun h => congrArg Host.Outcome.next ?_, fun f hf => ⟨fun h => ⟨_, rfl, ?_⟩,
    fun since r h hr => congrArg Host.Outcome.next ?_, fun st since h hne => congrArg Host.Outcome.next ?_,
    fun since h => ⟨_, rfl, ?_⟩, fun st since h hne => ⟨_, rfl, ?_⟩⟩⟩
  · rw [takeClaim_noFeed h, answer_heard]
  · rw [takeClaim_free hf h]
    exact boundWith_bindFeed hquiet (by rw [h]; exact nofun) _ _
  · have hresumed : orphanedBy s.feeds f e.source = r := Bool.eq_iff_iff.mpr (orphanedBy_iff.trans hr.symm)
    rw [takeClaim_own hf h, hresumed, place_eq_answered hquiet]
  · rw [takeClaim_taken hf h hne, place_eq_answered hquiet]
  · rw [takeClaim_resumes hf h]
    exact boundWith_bindFeed hquiet (by rw [h]; exact nofun) _ _
  · rw [takeClaim_takesOver hf h hne]
    exact boundWith_bindFeed hquiet (by rw [h]; exact nofun) _ _

end Sys2Proof.Proofs
end

section
/-! Lines and ports (R29, R32, R114, R138, R169): the port lines and power-good lines that the part reads, and the
status lines that it drives. -/

namespace Sys2Proof.Proofs

open Sys2Proof.Machine Sys2Proof.Laws

variable {s : State}

/-! ## Port lines and power-good lines -/

/-- R32: the line field of an ABSENT feed stays. -/
theorem lineChange_absent {f : Feed} (up : Bool) (h : (s.feeds.get f).binding.installed = false) :
    lineChange f up s = s := by
  simp [lineChange, h]

/-- R32, R114: the line field follows the transceiver, and a line that goes DOWN loses what its port held. -/
theorem lineChange_installed {f : Feed} (up : Bool) (h : (s.feeds.get f).binding.installed = true) :
    lineChange f up s = { s with
      feeds := s.feeds.set f { s.feeds.get f with lineUp := up }
      paths := if up then s.paths else s.paths.set f { s.paths.get f with port := [] }
      report := { s.report with keys := (lineChange f up s).report.keys } } := by
  have hline : lineChange f up s
      = if up then setFeeds (s.feeds.set f { s.feeds.get f with lineUp := up }) s
        else modPath f lineDown (setFeeds (s.feeds.set f { s.feeds.get f with lineUp := up }) s) := if_pos h
  rw [hline]
  cases up
  · conv_lhs => rw [setFeeds_frame]
    rfl
  · exact setFeeds_frame _

/-- R165: BOX is asked for where the line field changes. -/
theorem box_mem_lineChange {f : Feed} {up : Bool} (h : (s.feeds.get f).binding.installed = true)
    (hup : (s.feeds.get f).lineUp ≠ up) : Key.box ∈ (lineChange f up s).report.keys := by
  have hmoves : s.feeds.set f { s.feeds.get f with lineUp := up } ≠ s.feeds := fun e => hup (by
    have hget := congrArg (fun t => (t.get f).lineUp) e
    simpa using hget.symm)
  rw [lineChange, if_pos h]
  cases up <;> exact box_mem_setFeeds hmoves

/-- R138: the power-good lines take their new levels, and a change in a running part sets the line quiet count to 0. -/
theorem powerGoodChange_eq (mainGood auxGood : Bool) (s : State) : powerGoodChange mainGood auxGood s
    = { s with phantom := { s.phantom with
        mainGood := mainGood, auxGood := auxGood
        lineQuiet := if s.running = true ∧ (s.phantom.mainGood ≠ mainGood ∨ s.phantom.auxGood ≠ auxGood) then 0
          else s.phantom.lineQuiet } } := by
  by_cases hsame : s.phantom.mainGood = mainGood ∧ s.phantom.auxGood = auxGood
  · obtain ⟨rfl, rfl⟩ := hsame
    simp [powerGoodChange]
  · have hmoved : s.phantom.mainGood ≠ mainGood ∨ s.phantom.auxGood ≠ auxGood := not_and_or.mp hsame
    rw [powerGoodChange, if_neg hsame]
    simp only [hmoved, and_true]

/-! ## Status lines -/

theorem isFault_state {st : PhantomState} : st.isFault = true ↔ st = .fault := by
  cases st <;> simp [PhantomState.isFault]

theorem isFault_front {x : FrontEnd} : x.isFault = true ↔ ∃ n, x = .fault n := by
  cases x <;> simp [FrontEnd.isFault]

theorem isBound_iff {b : Binding} : b.isBound = true ↔ ∃ st since, b = .bound st since := by
  cases b <;> simp [Binding.isBound]

/-- R29: LOCK is driven while the clock state is LOCKED. -/
theorem lockLine_iff (h : s.running = true) : s.lockLine = true ↔ s.timing.clock = .locked := by
  simp [State.lockLine, h]

/-- R169: ALERT is driven for an address clash, the defaults, a phantom FAULT or a front-end FAULT. -/
theorem alertLine_iff (h : s.running = true) : s.alertLine = true ↔ s.link.clash = true ∨ s.config.status = .defaults
    ∨ (∃ c, (s.phantom.recs.get c).state = .fault) ∨ ∃ c n, (s.steps.get c).front = .fault n := by
  simp [State.alertLine, h, isFault_state, isFault_front, mem_channels, or_assoc]

/-- R169: ACTIVE is driven while a feed is BOUND. -/
theorem activeLine_iff (h : s.running = true) :
    s.activeLine = true ↔ ∃ f st since, (s.feeds.get f).binding = .bound st since := by
  simp [State.activeLine, h, isBound_iff, allFeeds]

/-- Settles O52, line by line. -/
theorem linesAndPortsFollow : Obligations.LinesAndPortsFollow := by
  refine ⟨fun f up s hr => ⟨fun habsent => ?_, fun hinstalled => ?_⟩, fun f s hr => ?_, fun mainGood auxGood s => ?_,
    fun s => ⟨fun hr => ?_, fun hr => ⟨lockLine_iff hr, alertLine_iff hr, activeLine_iff hr⟩⟩⟩
  · exact congrArg Host.Outcome.next (whileRunning_of_same (lineChange_absent up habsent))
  · exact ⟨_, congrArg Host.Outcome.next (whileRunning_of_running hr), lineChange_installed up hinstalled,
      box_mem_lineChange hinstalled⟩
  · exact congrArg Host.Outcome.next (whileRunning_of_running hr)
  · exact congrArg Host.Outcome.next (powerGoodChange_eq mainGood auxGood s)
  · simp [State.lockLine, State.alertLine, State.activeLine, hr]

end Sys2Proof.Proofs
end

section
/-! What an operation on one channel makes of that channel's records, and which keys it asks for (R51, R52, R116, R134,
R165, R166): putting an entry, answering a want, and changing a lock, each said once. Rounds over channels then do to
each channel what their one operation does. -/

namespace Sys2Proof.Proofs

open Sys2Proof.Machine Sys2Proof.Laws

variable {s : State}

/-! ## The records of one channel -/

/-- The records of a channel that entries, wants and locks touch. -/
structure ChanView where
  demand  : DemandRec
  res     : ResRec
  phantom : PhantomRec
  events  : BitVec 9

def chanView (s : State) (c : Chan) : ChanView :=
  ⟨s.demand.get c, s.gain.recs.get c, s.phantom.recs.get c, s.report.events.get c⟩

/-- Each round changes the records of its own channel by `w` and no other's. -/
def ActsByView (w : ChanView → ChanView) (g : Chan → State → State) : Prop :=
  ∀ c d t, chanView (g c t) d = if d = c then w (chanView t d) else chanView t d

/-- Rounds that act only where the records of their channel meet a condition. -/
theorem actsByView_where {w : ChanView → ChanView} {g : Chan → State → State} (hg : ActsByView w g)
    (p : ChanView → Prop) [DecidablePred p] :
    ActsByView (fun v => if p v then w v else v) (fun c t => if p (chanView t c) then g c t else t) := by
  intro c d t
  by_cases hdc : d = c
  · subst hdc
    simp only [if_pos]
    split
    · rw [hg, if_pos rfl]
    · rfl
  · rw [if_neg hdc]
    dsimp only
    split
    · rw [hg, if_neg hdc]
    · rfl

theorem chanView_forEach {w : ChanView → ChanView} {g : Chan → State → State} (hg : ActsByView w g) {l : List Chan}
    (hl : l.Nodup) (c : Chan) (s : State) :
    chanView (forEach l g s) c = if c ∈ l then w (chanView s c) else chanView s c := by
  induction l generalizing s with
  | nil => rfl
  | cons b l ih =>
    obtain ⟨hb, hnd⟩ := List.nodup_cons.mp hl
    rw [forEach_cons, ih hnd, hg]
    by_cases hcb : c = b
    · subst hcb
      simp [hb]
    · simp [hcb]

/-- Where the keys that a round asks for depend on its own channel's records, the rounds together ask for the keys that
the records at the start give. -/
theorem forEach_asks {w : ChanView → ChanView} {g : Chan → State → State} (hg : ActsByView w g)
    {q : Chan → ChanView → Key → Prop} (hq : ∀ c t, KeysAsked (q c (chanView t c)) t (g c t)) {l : List Chan}
    (hl : l.Nodup) (s : State) : KeysAsked (fun k => ∃ c ∈ l, q c (chanView s c) k) s (forEach l g s) := by
  induction l generalizing s with
  | nil => exact keysAsked_congr (keysAsked_refl s) (by simp)
  | cons b l ih =>
    obtain ⟨hb, hnd⟩ := List.nodup_cons.mp hl
    refine keysAsked_trans (hq b s) (ih hnd (g b s)) fun k => ?_
    have hsame : (∃ c ∈ l, q c (chanView (g b s) c) k) ↔ ∃ c ∈ l, q c (chanView s c) k :=
      exists_congr fun c => and_congr_right fun hc => by
        rw [hg, if_neg (ne_of_mem_of_not_mem hc hb)]
    rw [hsame]
    simp

/-! ## The link controller where nothing is being sent -/

theorem notSending_congr {t : State} (h : t.link = s.link) (hs : NotSending s) : NotSending t := by
  rw [NotSending, h]
  exact hs

theorem forEach_link {α : Type} {g : α → State → State} (hg : ∀ a t, NotSending t → (g a t).link = t.link) (l : List α)
    (hs : NotSending s) : (forEach l g s).link = s.link :=
  forEach_induct (P := fun t => t.link = s.link)
    (fun a _ t ht => (hg a t (notSending_congr ht hs)).trans ht) rfl

theorem setEvent_link (c : Chan) (e : Event) (hs : NotSending s) : (setEvent c e s).link = s.link := by
  have hpair : noteAgain c e.mask s.link.pair = s.link.pair := by
    cases hp : s.link.pair with
    | sending x => exact absurd hp (hs x)
    | _ => rfl
  exact link_ext hpair rfl rfl rfl

theorem setFlag_link (f : BatchFlag) (hs : NotSending s) : (setFlag f s).link = s.link := by
  have hpair : noteFlagsAgain f.mask s.link.pair = s.link.pair := by
    cases hp : s.link.pair with
    | sending x => exact absurd hp (hs x)
    | _ => rfl
  exact link_ext hpair rfl rfl rfl

theorem discardBatch_link (p : BatchBody → Bool) (hs : NotSending s) : (discardBatch p s).link = s.link := by
  unfold discardBatch
  (repeat' split)
  · exact setFlag_link .discarded (s := setBatch .idle s) hs
  all_goals rfl

/-! ## Moves of a phantom state -/

theorem movePhantom_link (c : Chan) (st : PhantomState) (k : OffCause) (hs : NotSending s) :
    (movePhantom c st k s).link = s.link := by
  unfold movePhantom
  dsimp only
  split <;> exact setEvent_link c .phantomChange hs

theorem movePhantom_events (c d : Chan) (st : PhantomState) (k : OffCause) (s : State) :
    (movePhantom c st k s).report.events.get d
      = if d = c then s.report.events.get d ||| 16 else s.report.events.get d := by
  unfold movePhantom
  dsimp only
  split <;> exact setEvent_events c d .phantomChange

/-- R134, R165: CHANNEL is asked for, and BOX where the channel's switch changes. -/
theorem movePhantom_asks (c : Chan) (st : PhantomState) (cause : OffCause) (s : State) :
    KeysAsked (fun k => k = .channel c ∨ k = .box ∧ (s.phantom.recs.get c).state.powered ≠ st.powered) s
      (movePhantom c st cause s) := by
  unfold movePhantom
  dsimp only
  split
  · next h => exact keysAsked_congr (keysAsked_ask (.channel c) s) (by simp [h])
  · next h => exact keysAsked_trans (keysAsked_ask (.channel c) s) (keysAsked_ask .box _) (by simp [h])

/-! ## Wants -/

/-- What becomes of a phantom record when the requested condition goes from one value to another (R51, R134). -/
def answerWant (before after : Bool) (r : PhantomRec) : PhantomRec :=
  match before, after with
  | false, true => afterWant r
  | true, false => afterWithdrawal r
  | _, _ => r

@[simp] theorem answerWant_same (b : Bool) (r : PhantomRec) : answerWant b b r = r := by cases b <;> rfl

/-- Each phantom record answers the change of its own channel's requested condition. -/
theorem phantomFollows_of_answerWant {t : State} (h : ∀ c, t.phantom.recs.get c
    = answerWant (s.requested c) (t.requested c) (s.phantom.recs.get c)) : PhantomFollows s t := by
  intro c
  rw [h c]
  refine ⟨fun hsame => ?_, fun hno hyes => ?_, fun hyes hno => ?_⟩
  · rw [hsame, answerWant_same]
  · rw [hno, hyes]
    rfl
  · rw [hyes, hno]
    rfl

/-- An answer moves the state and gives the cause; the record's counts stand. -/
theorem answerWant_fields (before after : Bool) (r : PhantomRec) :
    { r with state := (answerWant before after r).state, cause := (answerWant before after r).cause }
      = answerWant before after r := by
  cases before <;> cases after
  · rfl
  · change { r with state := (afterWant r).state, cause := (afterWant r).cause } = afterWant r
    unfold afterWant
    split <;> rfl
  · change { r with state := (afterWithdrawal r).state, cause := (afterWithdrawal r).cause } = afterWithdrawal r
    unfold afterWithdrawal
    split <;> rfl
  · rfl

/-- An answer that leaves the state leaves the record. -/
theorem answerWant_of_state {before after : Bool} {r : PhantomRec}
    (h : (answerWant before after r).state = r.state) : answerWant before after r = r := by
  cases before <;> cases after
  · rfl
  · change (afterWant r).state = r.state at h
    change afterWant r = r
    cases hr : r.state <;> simp_all [afterWant]
  · change (afterWithdrawal r).state = r.state at h
    change afterWithdrawal r = r
    cases hr : r.state <;> simp_all [afterWithdrawal]
  · rfl

theorem becomesRequested_eq (c : Chan) (s : State) : becomesRequested c s
    = if (afterWant (s.phantom.recs.get c)).state = (s.phantom.recs.get c).state then s
      else movePhantom c (afterWant (s.phantom.recs.get c)).state (afterWant (s.phantom.recs.get c)).cause s := by
  unfold becomesRequested afterWant
  cases hr : (s.phantom.recs.get c).state <;> simp [hr]

theorem ceasesRequested_eq (c : Chan) (s : State) : ceasesRequested c s
    = if (afterWithdrawal (s.phantom.recs.get c)).state = (s.phantom.recs.get c).state then s
      else movePhantom c (afterWithdrawal (s.phantom.recs.get c)).state
        (afterWithdrawal (s.phantom.recs.get c)).cause s := by
  unfold ceasesRequested afterWithdrawal
  cases hr : (s.phantom.recs.get c).state <;> simp [hr]

/-- A change of the requested condition is one move to the state that answers it, where that is another state. -/
theorem handWant_eq (c : Chan) (before after : Bool) (s : State) : handWant c before after s
    = if (answerWant before after (s.phantom.recs.get c)).state = (s.phantom.recs.get c).state then s
      else movePhantom c (answerWant before after (s.phantom.recs.get c)).state
        (answerWant before after (s.phantom.recs.get c)).cause s := by
  cases before <;> cases after
  · exact (if_pos rfl).symm
  · exact becomesRequested_eq c s
  · exact ceasesRequested_eq c s
  · exact (if_pos rfl).symm

theorem handWant_link (c : Chan) (before after : Bool) (hs : NotSending s) :
    (handWant c before after s).link = s.link := by
  rw [handWant_eq]
  split
  · rfl
  · exact movePhantom_link c _ _ hs

/-- PHANTOM CHANGE where the state of a phantom record differs (R134, R166). -/
def moveBit (r r' : PhantomRec) : BitVec 9 := if r'.state = r.state then 0 else 16

/-- What a change of the requested condition makes of its channel's records (R134, R166). -/
def viewAnswered (before after : Bool) (v : ChanView) : ChanView :=
  let r := answerWant before after v.phantom
  { v with phantom := r, events := v.events ||| moveBit v.phantom r }

theorem chanView_movePhantom (c d : Chan) (st : PhantomState) (k : OffCause) (s : State) :
    chanView (movePhantom c st k s) d
      = if d = c then
          { chanView s d with
            phantom := { s.phantom.recs.get d with state := st, cause := k }, events := s.report.events.get d ||| 16 }
        else chanView s d := by
  simp only [chanView, movePhantom_recs, movePhantom_events, movePhantom_keeps, get_set]
  split
  · next h => rw [h]
  · rfl

theorem handWant_acts (before after : Bool) :
    ActsByView (viewAnswered before after) (fun c => handWant c before after) := by
  intro c d t
  change chanView (handWant c before after t) d = _
  rw [handWant_eq]
  by_cases hdc : d = c
  · subst hdc
    rw [if_pos rfl]
    split
    · next h => simp [viewAnswered, chanView, answerWant_of_state h, moveBit]
    · next h =>
      rw [chanView_movePhantom, if_pos rfl, answerWant_fields]
      simp [viewAnswered, chanView, moveBit, h]
  · rw [if_neg hdc]
    split
    · rfl
    · rw [chanView_movePhantom, if_neg hdc]

/-- R134, R165: a change of state asks for CHANNEL, and a change of the switch for BOX. -/
theorem handWant_asks (c : Chan) (before after : Bool) (s : State) :
    KeysAsked (fun k =>
        (k = .channel c ∧ (answerWant before after (s.phantom.recs.get c)).state ≠ (s.phantom.recs.get c).state)
        ∨ (k = .box ∧ (s.phantom.recs.get c).state.powered
          ≠ (answerWant before after (s.phantom.recs.get c)).state.powered))
      s (handWant c before after s) := by
  rw [handWant_eq]
  split
  · next h => exact keysAsked_congr (keysAsked_refl s) (by simp [h])
  · next h => exact keysAsked_congr (movePhantom_asks c _ _ s) (by simp [h])

/-! ## Entries -/

/-- The entry of a feed on a channel is replaced and the channel is dirty; nothing else has changed. -/
def withEntry (f : Feed) (o : Option Entry) (c : Chan) (s : State) : State :=
  { s with
    demand := s.demand.set c { s.demand.get c with entries := (s.demand.get c).entries.set f o, dirty := true } }

/-- R51, R52: the entry is replaced, CHANNEL asked for, and a change of the requested condition answered. -/
theorem putEntry_eq (f : Feed) (o : Option Entry) (c : Chan) (s : State) : putEntry f o c s
    = handWant c (wanted (s.demand.get c).entries) (wanted ((s.demand.get c).entries.set f o))
      (ask (.channel c) (withEntry f o c s)) := rfl

/-- What putting an entry makes of its channel's records (R51, R52). -/
def viewPut (f : Feed) (o : Option Entry) (v : ChanView) : ChanView :=
  viewAnswered (wanted v.demand.entries) (wanted (v.demand.entries.set f o))
    { v with demand := { v.demand with entries := v.demand.entries.set f o, dirty := true } }

theorem putEntry_acts (f : Feed) (o : Option Entry) : ActsByView (viewPut f o) (putEntry f o) := by
  intro c d t
  have hentry : chanView (ask (.channel c) (withEntry f o c t)) d
      = { chanView t d with demand := (withEntry f o c t).demand.get d } := rfl
  rw [putEntry_eq, handWant_acts, hentry, withEntry, get_set]
  split
  · next h =>
    subst h
    rfl
  · rfl

theorem putEntry_link (f : Feed) (o : Option Entry) (c : Chan) (hs : NotSending s) :
    (putEntry f o c s).link = s.link :=
  handWant_link (s := ask (.channel c) (withEntry f o c s)) c _ _ hs

/-- R52, R134, R165: CHANNEL is asked for, and BOX where the channel's switch changes. -/
theorem putEntry_asks (f : Feed) (o : Option Entry) (c : Chan) (s : State) :
    KeysAsked (fun k => k = .channel c ∨ (k = .box ∧ (chanView s c).phantom.state.powered
        ≠ (viewPut f o (chanView s c)).phantom.state.powered)) s (putEntry f o c s) := by
  rw [putEntry_eq]
  refine keysAsked_trans (keysAsked_ask (.channel c) (withEntry f o c s)) (handWant_asks c _ _ _) fun k => ?_
  rw [← or_assoc, or_iff_left_of_imp And.left]
  rfl

/-- What removing an entry makes of its channel's records (R58, R59). -/
def viewRemoved (f : Feed) (v : ChanView) : ChanView :=
  if (v.demand.entries.get f).isSome then viewPut f none v else v

theorem removeEntry_acts (f : Feed) : ActsByView (viewRemoved f) (removeEntry f) :=
  actsByView_where (putEntry_acts f none) (fun v => (v.demand.entries.get f).isSome = true)

theorem removeEntry_link (f : Feed) (c : Chan) (hs : NotSending s) : (removeEntry f c s).link = s.link := by
  unfold removeEntry
  split
  · exact putEntry_link f none c hs
  · rfl

/-- The keys that the removal of an entry asks for, by the records of its channel (R52, R134, R165). -/
def RemovalAsks (f : Feed) (c : Chan) (v : ChanView) (k : Key) : Prop :=
  (v.demand.entries.get f).isSome = true
    ∧ (k = .channel c ∨ (k = .box ∧ v.phantom.state.powered ≠ (viewPut f none v).phantom.state.powered))

theorem removeEntry_asks (f : Feed) (c : Chan) (s : State) :
    KeysAsked (RemovalAsks f c (chanView s c)) s (removeEntry f c s) := by
  unfold removeEntry
  split
  · next h => exact keysAsked_congr (putEntry_asks f none c s) fun k => and_iff_right h
  · next h => exact keysAsked_congr (keysAsked_refl s) fun k => iff_of_false (fun hk => h hk.1) id

/-! ## Locks -/

/-- What a new lock makes of its channel's records; the lock that stands changes nothing (R116). -/
def viewLocked (l : Lock) (v : ChanView) : ChanView :=
  if v.res.lock ≠ l then
    { v with res := { v.res with lock := l }, demand := { v.demand with dirty := true }, events := v.events ||| 8 }
  else v

/-- The lock is replaced, the channel dirty and its LOCK bit set. -/
def changeLock (l : Lock) (c : Chan) (s : State) : State :=
  setEvent c .lock (markDirty c { s with gain.recs := s.gain.recs.modify c (fun r => { r with lock := l }) })

theorem setLock_eq (c : Chan) (l : Lock) (s : State) :
    setLock c l s = if (s.gain.recs.get c).lock ≠ l then changeLock l c s else s :=
  (ite_not _ _ _).symm

theorem changeLock_acts (l : Lock) : ActsByView (fun v => { v with
    res := { v.res with lock := l }, demand := { v.demand with dirty := true }, events := v.events ||| 8 })
    (changeLock l) := by
  intro c d t
  simp only [chanView, changeLock, setEvent_events, setEvent_demand, setEvent_gain, setEvent_phantom, markDirty,
    get_modify]
  split <;> rfl

theorem setLock_acts (l : Lock) : ActsByView (viewLocked l) (fun c => setLock c l) := by
  intro c d t
  change chanView (setLock c l t) d = _
  rw [setLock_eq]
  exact actsByView_where (changeLock_acts l) (fun v => v.res.lock ≠ l) c d t

theorem setLock_link (c : Chan) (l : Lock) (hs : NotSending s) : (setLock c l s).link = s.link := by
  unfold setLock
  split
  · rfl
  · exact setEvent_link c .lock hs

theorem setLock_asks (c : Chan) (l : Lock) (s : State) :
    KeysAsked (fun k => k = .channel c ∧ (s.gain.recs.get c).lock ≠ l) s (setLock c l s) := by
  unfold setLock
  split
  · next h => exact keysAsked_congr (keysAsked_refl s) (by simp [h])
  · next h => exact keysAsked_congr (keysAsked_ask (.channel c) _) (by simp [h])

/-- The lock is HELD by a feed that meets the condition (R122, R123). -/
def heldFor (p : Feed → Bool) : Lock → Bool
  | .held g _ => p g
  | .opened => false
  | .fixed _ _ => false

theorem ne_opened_of_heldFor {p : Feed → Bool} {l : Lock} (h : heldFor p l = true) : l ≠ .opened := by
  rintro rfl
  exact Bool.false_ne_true h

theorem openHeld_eq (p : Feed → Bool) (c : Chan) (s : State) :
    openHeld p c s = if heldFor p (s.gain.recs.get c).lock then setLock c .opened s else s := by
  unfold openHeld
  cases (s.gain.recs.get c).lock <;> rfl

/-- What opening a channel that is HELD makes of its records (R122, R123). -/
def viewOpened (p : Feed → Bool) (v : ChanView) : ChanView :=
  if heldFor p v.res.lock then viewLocked .opened v else v

theorem openHeld_acts (p : Feed → Bool) : ActsByView (viewOpened p) (openHeld p) := by
  intro c d t
  rw [openHeld_eq]
  exact actsByView_where (setLock_acts .opened) (fun v => heldFor p v.res.lock = true) c d t

theorem openHeld_link (p : Feed → Bool) (c : Chan) (hs : NotSending s) : (openHeld p c s).link = s.link := by
  rw [openHeld_eq]
  split
  · exact setLock_link c .opened hs
  · rfl

theorem openHeld_asks (p : Feed → Bool) (c : Chan) (s : State) :
    KeysAsked (fun k => k = .channel c ∧ heldFor p (chanView s c).res.lock = true) s (openHeld p c s) := by
  rw [openHeld_eq]
  split
  · next h =>
    exact keysAsked_congr (setLock_asks c .opened s) fun k =>
      and_congr_right fun _ => iff_of_true h (ne_opened_of_heldFor h)
  · next h => exact keysAsked_congr (keysAsked_refl s) fun k => iff_of_false (fun hk => h hk.2) id

end Sys2Proof.Proofs
end

section
/-! RELEASE (R39, R40, R59, R111, R122, R160): the release frees the feed, then the demand table, the locks, the tone
set and the batch buffer act on it, each on its own part of the state. -/

namespace Sys2Proof.Proofs

open Sys2Proof.Machine Sys2Proof.Laws

variable {s : State}

/-! ## The records of a channel after a release -/

theorem heldFor_feed {f : Feed} {l : Lock} : heldFor (fun g => g == f) l = true ↔ ∃ n, l = .held f n := by
  cases l <;> simp [heldFor]

/-- What a release makes of a channel's records: its entry goes, and then its lock opens (R59, R122). -/
def viewReleased (f : Feed) (v : ChanView) : ChanView := viewOpened (fun g => g == f) (viewRemoved f v)

/-- Removing an entry by what it changes; without an entry none of it is a change. -/
theorem viewRemoved_eq (f : Feed) (v : ChanView) : viewRemoved f v
    = { viewAnswered (wanted v.demand.entries) (wanted (v.demand.entries.set f none)) v with
        demand := { v.demand with
          entries := v.demand.entries.set f none
          dirty := v.demand.dirty || (v.demand.entries.get f).isSome } } := by
  unfold viewRemoved
  split
  · next h =>
    rw [h, Bool.or_true]
    rfl
  · next h =>
    have hnone : v.demand.entries.get f = none := by simpa using h
    have hsame : v.demand.entries.set f none = v.demand.entries := by rw [← hnone, set_get]
    rw [hsame, hnone]
    simp [viewAnswered, moveBit]

/-- Opening a lock by what it changes. -/
theorem viewOpened_eq (p : Feed → Bool) (v : ChanView) : viewOpened p v
    = { v with
        demand := { v.demand with dirty := v.demand.dirty || heldFor p v.res.lock }
        res := { v.res with lock := if heldFor p v.res.lock then .opened else v.res.lock }
        events := v.events ||| if heldFor p v.res.lock then 8 else 0 } := by
  unfold viewOpened
  split
  · next h => simp [viewLocked, ne_opened_of_heldFor h, h]
  · next h => simp [h]

/-- A release of a channel's feed by what it changes. -/
theorem viewReleased_eq (f : Feed) (v : ChanView) : viewReleased f v
    = let r := answerWant (wanted v.demand.entries) (wanted (v.demand.entries.set f none)) v.phantom
      let held := heldFor (fun g => g == f) v.res.lock
      { demand := { v.demand with
          entries := v.demand.entries.set f none
          dirty := (v.demand.dirty || (v.demand.entries.get f).isSome) || held }
        res := { v.res with lock := if held then .opened else v.res.lock }
        phantom := r
        events := (v.events ||| moveBit v.phantom r) ||| if held then 8 else 0 } := by
  rw [viewReleased, viewOpened_eq, viewRemoved_eq]
  rfl

/-! ## The release, part by part -/

/-- The state in which the tone set and the batch buffer act: the feed is FREE, its entries are gone and its channels
open. -/
def withdrawn (f : Feed) (s : State) : State :=
  forEach channels (openHeld fun g => g == f) (removeFeedEntries f (bindFeed f .free s))

theorem releaseFeed_eq (f : Feed) (s : State) :
    releaseFeed f s = discardBatch (fun b => b.feed == f) (modPath f emptyTone (withdrawn f s)) := rfl

theorem chanView_bindFeed (f : Feed) (b : Binding) (c : Chan) (s : State) :
    chanView (bindFeed f b s) c = chanView s c := by simp [chanView]

theorem chanView_discardBatch (p : BatchBody → Bool) (c : Chan) (s : State) :
    chanView (discardBatch p s) c = chanView s c := by simp [chanView]

theorem chanView_modPath (f : Feed) (g : FeedPath → FeedPath) (c : Chan) (s : State) :
    chanView (modPath f g s) c = chanView s c := rfl

theorem chanView_removeFeedEntries (f : Feed) (c : Chan) (s : State) :
    chanView (removeFeedEntries f s) c = viewRemoved f (chanView s c) := by
  rw [removeFeedEntries, chanView_forEach (removeEntry_acts f) channels_nodup, if_pos (mem_channels c)]

theorem chanView_releaseFeed (f : Feed) (c : Chan) (s : State) :
    chanView (releaseFeed f s) c = viewReleased f (chanView s c) := by
  rw [releaseFeed_eq, chanView_discardBatch, chanView_modPath, withdrawn,
    chanView_forEach (openHeld_acts _) channels_nodup, if_pos (mem_channels c), chanView_removeFeedEntries,
    chanView_bindFeed, viewReleased]

theorem releaseFeed_link (f : Feed) (hs : NotSending s) : (releaseFeed f s).link = s.link := by
  have hbind : (bindFeed f .free s).link = s.link := by simp
  have hremoved : (removeFeedEntries f (bindFeed f .free s)).link = s.link :=
    (forEach_link (fun c _ ht => removeEntry_link f c ht) channels (notSending_congr hbind hs)).trans hbind
  have hopened : (withdrawn f s).link = s.link :=
    (forEach_link (fun c _ ht => openHeld_link _ c ht) channels (notSending_congr hremoved hs)).trans hremoved
  have hpath : (modPath f emptyTone (withdrawn f s)).link = s.link := by rw [← hopened]; simp
  rw [releaseFeed_eq, discardBatch_link _ (notSending_congr hpath hs), hpath]

theorem releaseFeed_feeds (f : Feed) (s : State) :
    (releaseFeed f s).feeds = s.feeds.set f { s.feeds.get f with binding := .free } := by
  simp [releaseFeed, bindFeed, Tab.modify]

theorem releaseFeed_paths (f : Feed) (s : State) :
    (releaseFeed f s).paths = s.paths.set f { s.paths.get f with tone := Tab.const false } := by
  simp [releaseFeed, modPath, Tab.modify, emptyTone]

theorem withdrawn_batch (f : Feed) (s : State) : (modPath f emptyTone (withdrawn f s)).batch = s.batch := by
  simp [withdrawn]

/-- R160: the batch on the feed is discarded. -/
theorem releaseFeed_discards (f : Feed) (s : State) : DiscardedWhere (fun b => b.feed = f) s (releaseFeed f s) := by
  have h := discardBatch_discards (fun b => b.feed == f) (modPath f emptyTone (withdrawn f s))
  simp only [DiscardedWhere, withdrawn_batch, beq_iff_eq] at h
  rw [releaseFeed_eq]
  exact h

/-- R39, R40: a release changes only the feed, demand, lock and phantom records, paths, batch and the report queue. -/
theorem releaseFeed_frame (f : Feed) (hs : NotSending s) : releaseFeed f s = { s with
    feeds := s.feeds.set f { s.feeds.get f with binding := .free }
    demand := (releaseFeed f s).demand
    gain := { s.gain with recs := (releaseFeed f s).gain.recs }
    paths := (releaseFeed f s).paths
    phantom := { s.phantom with recs := (releaseFeed f s).phantom.recs }
    batch := (releaseFeed f s).batch
    report := (releaseFeed f s).report } := by
  have hlink := releaseFeed_link f hs
  have hfeeds := releaseFeed_feeds f s
  have hkeeps := releaseFeed_keeps f s
  generalize releaseFeed f s = t at hlink hfeeds hkeeps ⊢
  obtain ⟨hphase, hown, hconfig, -, -, -, htiming, htable, hfull, hannounce, hsteps, hhead, hbank, hquiet, hoverload,
    hmain, haux, -, hahead, hseed, hpending⟩ := hkeeps
  exact state_ext hphase hown hconfig hlink htiming hfeeds rfl (gain_ext rfl htable hfull hannounce) hsteps rfl hhead
    (phantom_ext rfl hbank hquiet hoverload hmain haux) rfl rfl hahead hseed hpending

/-! ## The keys that a release asks for -/

theorem discardBatch_asks (p : BatchBody → Bool) (s : State) :
    KeysAsked (fun k => k = .box ∧ ∃ b, s.batch.record.body = some b ∧ p b = true) s (discardBatch p s) := by
  unfold discardBatch
  split
  · next b hb =>
    split
    · next hp =>
      exact keysAsked_trans (keysAsked_ask .box s) (keysAsked_ask .box _) (by simp [hb, hp])
    · next hp => exact keysAsked_congr (keysAsked_refl s) (by simp [hb, hp])
  · next hb => exact keysAsked_congr (keysAsked_refl s) (by simp [hb])

/-- R165: BOX is asked for where the binding changes. -/
theorem bindFeed_asks {f : Feed} {b : Binding} (hb : (s.feeds.get f).binding ≠ b) :
    KeysAsked (· = .box) s (bindFeed f b s) := by
  rw [bindFeed, setFeeds, if_neg (modify_binding_ne hb)]
  exact keysAsked_ask .box _

theorem keysAsked_modPath {p : Key → Prop} {t : State} (f : Feed) (g : FeedPath → FeedPath) (h : KeysAsked p s t) :
    KeysAsked p s (modPath f g t) := h

theorem withdrawn_asks {f : Feed} (hb : (s.feeds.get f).binding ≠ .free) :
    KeysAsked (fun k => k = .box ∨ (∃ c, RemovalAsks f c (chanView s c) k)
      ∨ ∃ c, k = .channel c ∧ ∃ n, (s.gain.recs.get c).lock = .held f n) s (withdrawn f s) := by
  have hremoved := forEach_asks (removeEntry_acts f) (q := RemovalAsks f) (removeEntry_asks f) channels_nodup
    (bindFeed f .free s)
  have hopened := forEach_asks (openHeld_acts fun g => g == f) 
    (q := fun c v k => k = .channel c ∧ heldFor (fun g => g == f) v.res.lock = true) (openHeld_asks _) channels_nodup
    (removeFeedEntries f (bindFeed f .free s))
  refine keysAsked_trans (bindFeed_asks hb) (keysAsked_trans hremoved hopened fun _ => Iff.rfl) fun k => ?_
  simp only [mem_channels, true_and, chanView_removeFeedEntries, chanView_bindFeed, viewRemoved_eq, heldFor_feed]
  rfl

/-- R52, R116, R165: CHANNEL is asked for where an entry goes or a lock opens, and BOX for the feed. -/
theorem releaseFeed_asks {f : Feed} (hb : (s.feeds.get f).binding ≠ .free) :
    KeysAsked (fun k => k = .box ∨ ∃ c, k = .channel c
      ∧ ((s.entry c f).isSome = true ∨ ∃ n, (s.gain.recs.get c).lock = .held f n)) s (releaseFeed f s) := by
  rw [releaseFeed_eq]
  refine keysAsked_trans (keysAsked_modPath f emptyTone (withdrawn_asks hb)) (discardBatch_asks _ _) fun k => ?_
  by_cases hbox : k = .box
  · simp [hbox]
  · have hentry : ∀ c, RemovalAsks f c (chanView s c) k ↔ k = .channel c ∧ (s.entry c f).isSome = true := fun c => by
      simp only [RemovalAsks, hbox, false_and, or_false]
      exact and_comm
    simp [hbox, hentry, and_or_left, exists_or]

/-! ## The release with its outcome -/

theorem binding_of_holds {f : Feed} {st : Station} (h : holds s f st = true) :
    ∃ since, (s.feeds.get f).binding = .bound st since := by
  unfold holds at h
  split at h
  · next holder since hb => exact ⟨since, by rw [hb, eq_of_beq h]⟩
  · exact absurd h Bool.false_ne_true

theorem answered_asks (st : Station) (a : Answer) (s : State) : KeysAsked (· = .reply st) s (answered st a s) :=
  keysAsked_ask (.reply st) s

/-- R39: a RELEASE by the holder is the release of the feed with DONE placed. -/
theorem exec_release {e : Envelope} {feed : Byte} {f : Feed} (ht : Takes e s) (hheld : HeldBy e feed f (heard e s)) :
    exec (.release e feed) s = .next (answered e.source (plain 3 .done e.tag) (releaseFeed f (heard e s))) := by
  have hquiet := notSending_congr (releaseFeed_link f (heard_notSending e s)) (heard_notSending e s)
  have hdone : request e (takeRelease e feed) s = answer e 3 .done (releaseFeed f (heard e s)) :=
    request_of_holder (fun f t => answer e 3 .done (releaseFeed f t)) ht hheld
  exact congrArg Host.Outcome.next (hdone.trans (place_eq_answered hquiet _ _))

/-- What a release makes of the state, before its outcome is placed. -/
structure Released (f : Feed) (s u : State) : Prop where
  frame : u = { s with
    feeds := s.feeds.set f { s.feeds.get f with binding := .free }
    demand := u.demand
    gain := { s.gain with recs := u.gain.recs }
    paths := u.paths
    phantom := { s.phantom with recs := u.phantom.recs }
    batch := u.batch
    report := u.report }
  view : ∀ c, chanView u c = viewReleased f (chanView s c)
  paths : u.paths = s.paths.set f { s.paths.get f with tone := Tab.const false }
  slots : u.report.slots = s.report.slots
  discards : DiscardedWhere (fun b => b.feed = f) s u
  keys : KeysAsked (fun k => k = .box ∨ ∃ c, k = .channel c
    ∧ ((s.entry c f).isSome = true ∨ ∃ n, (s.gain.recs.get c).lock = .held f n)) s u

theorem released_releaseFeed {f : Feed} (hs : NotSending s) (hb : (s.feeds.get f).binding ≠ .free) :
    Released f s (releaseFeed f s) where
  frame := releaseFeed_frame f hs
  view c := chanView_releaseFeed f c s
  paths := releaseFeed_paths f s
  slots := by simp
  discards := releaseFeed_discards f s
  keys := releaseFeed_asks hb

section Released

variable {u : State} {f : Feed}

theorem Released.demand (h : Released f s u) (c : Chan) : u.demand.get c = { s.demand.get c with
    entries := (s.demand.get c).entries.set f none
    dirty := ((s.demand.get c).dirty || (s.entry c f).isSome)
      || heldFor (fun g => g == f) (s.gain.recs.get c).lock } :=
  congrArg ChanView.demand ((h.view c).trans (viewReleased_eq f _))

theorem Released.res (h : Released f s u) (c : Chan) : u.gain.recs.get c = { s.gain.recs.get c with
    lock := if heldFor (fun g => g == f) (s.gain.recs.get c).lock then .opened else (s.gain.recs.get c).lock } :=
  congrArg ChanView.res ((h.view c).trans (viewReleased_eq f _))

/-- R59: the feed's entry is gone from the channel, and the other feeds' stand. -/
theorem Released.entry (h : Released f s u) (c : Chan) (g : Feed) :
    u.entry c g = if g = f then none else s.entry c g := by
  rw [State.entry, h.demand c, get_set]
  rfl

/-- R50: the block-start view stands. -/
theorem Released.view_stands (h : Released f s u) (c : Chan) : (u.demand.get c).view = (s.demand.get c).view := by
  rw [h.demand c]

/-- R46, R116: a channel becomes dirty where an entry goes or its lock opens. -/
theorem Released.dirty_iff (h : Released f s u) (c : Chan) :
    (u.demand.get c).dirty = true ↔ (s.demand.get c).dirty = true ∨ (s.entry c f).isSome = true
      ∨ ∃ n, (s.gain.recs.get c).lock = .held f n := by
  rw [h.demand c, Bool.or_eq_true, Bool.or_eq_true, or_assoc, heldFor_feed]

/-- R122: a channel that the feed HOLDS opens. -/
theorem Released.lock_opens (h : Released f s u) {c : Chan} {n : Int} (hn : (s.gain.recs.get c).lock = .held f n) :
    (u.gain.recs.get c).lock = .opened := by
  rw [h.res c]
  exact if_pos (heldFor_feed.mpr ⟨n, hn⟩)

theorem Released.lock_stands (h : Released f s u) {c : Chan} (hno : ∀ n, (s.gain.recs.get c).lock ≠ .held f n) :
    (u.gain.recs.get c).lock = (s.gain.recs.get c).lock := by
  rw [h.res c]
  exact if_neg fun hheld => (heldFor_feed.mp hheld).elim hno

theorem Released.res_lock (h : Released f s u) (c : Chan) :
    u.gain.recs.get c = { s.gain.recs.get c with lock := (u.gain.recs.get c).lock } := by
  rw [h.res c]

/-- R51, R134: each channel answers the withdrawal of the feed's want. -/
theorem Released.phantom (h : Released f s u) (c : Chan) :
    u.phantom.recs.get c = answerWant (s.requested c) (u.requested c) (s.phantom.recs.get c) := by
  rw [State.requested, State.requested, h.demand c]
  exact congrArg ChanView.phantom ((h.view c).trans (viewReleased_eq f _))

/-- R116, R134: the LOCK bit is set where the lock opens, and PHANTOM CHANGE where the phantom state moves. -/
theorem Released.events (h : Released f s u) (c : Chan) :
    u.report.events.get c = s.report.events.get c ||| lockBit s u c ||| phantomChangeBit s u c := by
  have hlock : lockBit s u c = if heldFor (fun g => g == f) (s.gain.recs.get c).lock then 8 else 0 := by
    rw [lockBit, h.res c]
    split
    · next hheld => exact if_neg (ne_opened_of_heldFor hheld).symm
    · exact if_pos rfl
  have hphantom : phantomChangeBit s u c = moveBit (s.phantom.recs.get c) (u.phantom.recs.get c) := rfl
  rw [hlock, hphantom, BitVec.or_assoc, BitVec.or_comm (ite ..), ← BitVec.or_assoc, h.phantom c,
    State.requested, State.requested, h.demand c]
  exact congrArg ChanView.events ((h.view c).trans (viewReleased_eq f _))

end Released

/-- Settles O31: what the release does, read off channel by channel, with the outcome placed after it. -/
theorem releaseUndoesWhatTheFeedSet : Obligations.ReleaseUndoesWhatTheFeedSet := by
  intro e feed f s ht hheld h
  have hbound : (h.feeds.get f).binding ≠ .free := by
    obtain ⟨-, hholds⟩ := hheld
    obtain ⟨since, hb⟩ := binding_of_holds hholds
    rw [hb]
    exact nofun
  have hrel : Released f h (releaseFeed f (heard e s)) := released_releaseFeed (heard_notSending e s) hbound
  refine ⟨_, exec_release ht hheld, ?_⟩
  generalize releaseFeed f (heard e s) = u at hrel ⊢
  have hreply := answered_asks e.source (plain 3 .done e.tag) u
  have hkept := hreply.1.subset
  obtain ⟨hdropped, hstands⟩ := hrel.discards
  refine ⟨(congrArg (answered e.source (plain 3 .done e.tag)) hrel.frame).trans rfl,
    fun c => ⟨(hrel.entry c f).trans (if_pos rfl), fun g hg => (hrel.entry c g).trans (if_neg hg),
      hrel.view_stands c, hrel.dirty_iff c⟩,
    fun c => ⟨hrel.res_lock c, fun n => hrel.lock_opens, hrel.lock_stands⟩,
    phantomFollows_of_answerWant hrel.phantom, hrel.paths,
    ⟨fun b hb hp => (hdropped b hb hp).imp_right (hkept ·), hstands⟩,
    ⟨congrArg (fun slots => Tab.set slots e.source _) hrel.slots, (hreply.2 _).mpr (.inr rfl)⟩,
    hkept ((hrel.keys.2 .box).mpr (.inr (.inl rfl))), hrel.events,
    keysAsked_trans hrel.keys hreply fun _ => or_comm⟩

end Sys2Proof.Proofs
end

section
/-! What leaves every entry and every block-start view as it was (R46, R50): a dirty mark is no part of them, so that
the locks, the headroom monitor, the link table and the resolution leave them alone. And the commands that leave
entries, gains, bindings and the batch record alone altogether. -/

namespace Sys2Proof.Proofs

open Sys2Proof.Machine Sys2Proof.Laws

variable {s : State}

/-! ## Entries and views -/

/-- The entries and the block-start view of every channel: the demand table without its dirty marks. -/
def shown (s : State) : Tab (Entries × Entries) 32 := s.demand.map fun r => (r.entries, r.view)

theorem shown_get (s : State) (c : Chan) : (shown s).get c = ((s.demand.get c).entries, (s.demand.get c).view) :=
  get_map _ _ _

theorem shown_of_demand {t : State} (h : t.demand = s.demand) : shown t = shown s :=
  congrArg (Tab.map fun r : DemandRec => (r.entries, r.view)) h

/-- Channel by channel: a record that differs at most in its dirty mark. -/
theorem shown_of_dirty {t : State} (h : ∀ c, ∃ d, t.demand.get c = { s.demand.get c with dirty := d }) :
    shown t = shown s := by
  ext c : 1
  obtain ⟨d, hd⟩ := h c
  rw [shown_get, shown_get, hd]

@[simp] theorem shown_ask (k : Key) (s : State) : shown (ask k s) = shown s := rfl

@[simp] theorem shown_setEvent (c : Chan) (e : Event) (s : State) : shown (setEvent c e s) = shown s := rfl

@[simp] theorem shown_markDirty (c : Chan) (s : State) : shown (markDirty c s) = shown s := by
  refine shown_of_dirty fun d => ?_
  rw [markDirty, get_modify]
  split
  · exact ⟨true, rfl⟩
  · exact ⟨(s.demand.get d).dirty, rfl⟩

@[simp] theorem shown_setLock (c : Chan) (l : Lock) (s : State) : shown (setLock c l s) = shown s := by
  unfold setLock
  split
  · rfl
  · exact (shown_setEvent c .lock _).trans (shown_markDirty c _)

@[simp] theorem shown_openHeld (p : Feed → Bool) (c : Chan) (s : State) : shown (openHeld p c s) = shown s := by
  rw [openHeld_eq]
  split <;> simp

@[simp] theorem shown_clearBackoff (c : Chan) (s : State) : shown (clearBackoff c s) = shown s := shown_markDirty c _

@[simp] theorem shown_resetHead (c : Chan) (s : State) : shown (resetHead c s) = shown s := by
  unfold resetHead
  dsimp only
  split
  · rfl
  · exact shown_markDirty c _

theorem shown_raiseBackoff (c : Chan) (s : State) : shown (raiseBackoff c s) = shown s := by
  unfold raiseBackoff
  dsimp only
  split
  · exact shown_markDirty c _
  · rfl

@[simp] theorem shown_judgeWindow (c : Chan) (s : State) : shown (judgeWindow c s) = shown s := by
  unfold judgeWindow episode
  (repeat' split)
  · exact shown_raiseBackoff c _
  all_goals rfl

@[simp] theorem shown_closeWindow (s : State) : shown (closeWindow s) = shown s := by
  have hrounds : shown (forEach channels judgeWindow s) = shown s := forEach_keeps shown shown_judgeWindow s
  unfold closeWindow
  generalize forEach channels judgeWindow s = t at hrounds ⊢
  exact hrounds

@[simp] theorem shown_windowAtBlock (s : State) : shown (windowAtBlock s) = shown s := by
  unfold windowAtBlock
  (repeat' split)
  exacts [rfl, rfl, shown_closeWindow s]

@[simp] theorem shown_endBlock (s : State) : shown (endBlock s) = shown s :=
  (shown_windowAtBlock _).trans (shown_of_demand (by simp))

@[simp] theorem shown_removeLinks (p : LinkEntry → Bool) (s : State) : shown (removeLinks p s) = shown s :=
  shown_of_dirty fun c => ⟨_, (removeLinks_removes p s).2.1 c⟩

@[simp] theorem shown_ageLinks (s : State) : shown (ageLinks s) = shown s := shown_removeLinks _ _

theorem shown_markGroups (gs : List Group) (s : State) : shown (markGroups gs s) = shown s :=
  shown_of_dirty fun c => ⟨_, markGroups_demand gs c⟩

@[simp] theorem shown_storeLink (x : LinkEntry) (s : State) : shown (storeLink x s) = shown s := by
  unfold storeLink
  (repeat' split)
  exacts [rfl, shown_markGroups _ _, shown_markGroups _ _, rfl, rfl]

@[simp] theorem shown_resolveAll (s : State) : shown (resolveAll s) = shown s :=
  shown_of_dirty fun c => ⟨false, resolveAll_demand s c⟩

/-- R14: the loss of a station takes no entry. -/
@[simp] theorem shown_loseStation (st : Station) (role : Role) (s : State) :
    shown (loseStation st role s) = shown s := by
  cases role with
  | desk => rw [loseStation_desk_frame]; rfl
  | box => exact shown_removeLinks _ (withLost st .box s)

/-- R177: a box reset leaves the demand table's entries. -/
theorem shown_resetBlocks (rb : Readback) (s : State) : shown (resetBlocks rb s) = shown s := by
  have hopen (t : State) : shown (forEach channels (openHeld fun _ => true) t) = shown t :=
    forEach_keeps shown (shown_openHeld _) t
  have hhead (t : State) : shown (forEach channels resetHead t) = shown t := forEach_keeps shown shown_resetHead t
  calc shown (resetBlocks rb s)
    _ = shown (forEach channels resetHead (forEach channels (openHeld fun _ => true)
          (freeRoom (removeLinks (fun _ => true) (setFeeds (s.feeds.map (orphan fun _ => true))
            { resetReport s with link.stations := s.link.stations.map Presence.forget }))))) :=
      shown_of_demand (by simp [resetBlocks])
    _ = shown s := by
      rw [hhead, hopen, shown_of_demand freeRoom_demand, shown_removeLinks, shown_of_demand (setFeeds_demand _ _)]
      rfl

/-! ## Commands that leave gains, entries, bindings and the batch alone -/

/-- The bindings of the feeds, without their lines. -/
def bindings (s : State) : Tab Binding 6 := s.feeds.map FeedRec.binding

/-- Everything that the hold law and the gain law speak of. -/
def lawRecords (s : State) :=
  (s.config, s.steps, s.gain.recs, s.gain.table, s.head.recs, shown s, bindings s, s.batch.record)

/-- The commands of the link controller's own sending, the timing unit, the phantom controller and the ports. -/
def leavesLawRecords : Instr → Bool
  | .receptionDiscarded _ | .transmissionAttempt | .lostAttempt _ | .transmissionFault | .messageSent | .pairIdle
  | .markEvent _ | .enterLocked _ | .enterHoldover _ | .missingMark | .quietCountExpiry | .markLineRelease
  | .settleEnd _ | .shortTrip _ | .shedLoad | .bankChange | .powerGoodChange _ _ | .portLineChange _ _
  | .feedBlockSent _ => true
  | _ => false

theorem whileRunning_lawRecords {f : State → State} (hf : ∀ u, lawRecords (f u) = lawRecords u) (s : State) :
    lawRecords (whileRunning f s) = lawRecords s := by
  unfold whileRunning
  split
  exacts [hf s, rfl]

theorem markEvent_lawRecords (tick : Nat) (s : State) : lawRecords (markEvent tick s) = lawRecords s :=
  whileRunning_lawRecords (fun u => by simp [lawRecords, shown, bindings]) s

theorem declareMissing_lawRecords (s : State) : lawRecords (declareMissing s) = lawRecords s :=
  whileRunning_lawRecords (fun u => by split <;> simp [lawRecords, shown, bindings]) s

theorem enterHoldoverBy_lawRecords (cause : BadMark) (s : State) :
    lawRecords (enterHoldoverBy cause s) = lawRecords s := by
  unfold enterHoldoverBy
  dsimp only
  (repeat' split)
  exacts [markEvent_lawRecords _ s, rfl, declareMissing_lawRecords s, rfl]

/-- R32: a line change leaves the binding. -/
theorem lineChange_lawRecords (f : Feed) (up : Bool) (s : State) :
    lawRecords (lineChange f up s) = lawRecords s := by
  have hbindings : (s.feeds.set f { s.feeds.get f with lineUp := up }).map FeedRec.binding = bindings s :=
    map_set_of_same _ _ _ _ rfl
  unfold lineChange
  dsimp only
  (repeat' split) <;> simp [lawRecords, shown, bindings, hbindings]

theorem phantomCommand_lawRecords (s : State) : (∀ c, lawRecords (settleEnd c s) = lawRecords s)
    ∧ (∀ c, lawRecords (shortTrip c s) = lawRecords s) ∧ lawRecords (shedLoad s) = lawRecords s
    ∧ lawRecords (bankChange s) = lawRecords s := by
  refine ⟨fun c => whileRunning_lawRecords (fun u => ?_) s, fun c => whileRunning_lawRecords (fun u => ?_) s,
    whileRunning_lawRecords (fun u => ?_) s, whileRunning_lawRecords (fun u => ?_) s⟩
  · (repeat' split) <;> simp [lawRecords, shown, bindings]
  · dsimp only
    split <;> simp [lawRecords, shown, bindings, settlesAhead]
  · split <;> simp [lawRecords, shown, bindings, settlesAhead]
  · split <;> simp [lawRecords, shown, bindings, settlesAhead]

theorem exec_lawRecords {c : Instr} {s t : State} (hc : leavesLawRecords c = true) (h : exec c s = .next t) :
    lawRecords t = lawRecords s := by
  have next {u : State} (h : Host.Outcome.next (φ := Fault) (ρ := Refusal) u = .next t)
      (hu : lawRecords u = lawRecords s) : lawRecords t = lawRecords s := Host.Outcome.next.inj h ▸ hu
  obtain ⟨hsettle, htrip, hshed, hbank⟩ := phantomCommand_lawRecords s
  cases c with
  | receptionDiscarded cause => exact next h (by unfold receptionDiscarded; split <;> rfl)
  | transmissionAttempt =>
    exact next h (by unfold transmissionAttempt beginAttempt; (repeat' split) <;> rfl)
  | lostAttempt bytes => exact next h (whileRunning_lawRecords (fun u => by split <;> rfl) s)
  | transmissionFault => exact next h (whileRunning_lawRecords (fun u => by split <;> rfl) s)
  | messageSent =>
    exact next h (whileRunning_lawRecords (fun u => by split <;> simp [lawRecords, shown, bindings]) s)
  | pairIdle => exact next h (by unfold pairIdle; (repeat' split) <;> rfl)
  | markEvent tick => exact next h (markEvent_lawRecords tick s)
  | enterLocked tick =>
    exact next h (by unfold enterLockedAt; dsimp only; split; exacts [markEvent_lawRecords tick s, rfl])
  | enterHoldover cause => exact next h (enterHoldoverBy_lawRecords cause s)
  | missingMark => exact next h (declareMissing_lawRecords s)
  | quietCountExpiry =>
    exact next h (whileRunning_lawRecords (fun u => by split <;> simp [lawRecords, shown, bindings]) s)
  | markLineRelease =>
    exact next h (whileRunning_lawRecords (fun u => by split <;> simp [lawRecords, shown, bindings]) s)
  | settleEnd c => exact next h (hsettle c)
  | shortTrip c => exact next h (htrip c)
  | shedLoad => exact next h hshed
  | bankChange => exact next h hbank
  | powerGoodChange mg ag => exact next h (by unfold powerGoodChange; split <;> rfl)
  | portLineChange f up => exact next h (whileRunning_lawRecords (lineChange_lawRecords f up) s)
  | feedBlockSent f => exact next h (whileRunning_lawRecords (fun u => by rfl) s)
  | _ => exact absurd hc nofun

end Sys2Proof.Proofs
end

section
/-! The gain law is kept (R47, R64, R66, R71, R84, R125 and section 5.7): each table of gains has its range, most
commands leave all the tables alone, and each operation that writes one writes a value worked out from gains in
range. -/

namespace Sys2Proof.Proofs

open Sys2Proof.Machine Sys2Proof.Laws

variable {s : State}

/-! ## The ranges, table by table -/

def StepsInRange (t : Tab StepRec 32) : Prop := ∀ c, StepInRange (t.get c)

def ResolutionsInRange (t : Tab ResRec 32) : Prop := ∀ c, ResInRange (t.get c)

def BackoffsInRange (t : Tab HeadRec 32) : Prop := ∀ c, BackoffValue (t.get c).backoff

/-- Entries and views together. -/
def DemandsInRange (t : Tab (Entries × Entries) 32) : Prop :=
  ∀ c f, EntryInRange ((t.get c).1.get f) ∧ EntryInRange ((t.get c).2.get f)

/-- An announcement in its ranges (section 5.7). -/
def LinkInRange (x : LinkEntry) : Prop :=
  BackoffValue x.backoff ∧ (∀ g, x.candidate = some g → WholeDb g) ∧ ∀ g, x.locked = some g → WholeDb g

/-- The gain law, table by table. -/
structure GainsInRange (s : State) : Prop where
  steps : StepsInRange s.steps
  resolutions : ResolutionsInRange s.gain.recs
  backoffs : BackoffsInRange s.head.recs
  demands : DemandsInRange (shown s)
  links : ∀ x ∈ s.gain.table, LinkInRange x
  latency : s.config.latency ≤ 47

theorem gainLaw_iff : GainLaw s ↔ GainsInRange s := by
  have hdemand : (∀ c f, EntryInRange ((s.demand.get c).entries.get f) ∧ EntryInRange ((s.demand.get c).view.get f))
      ↔ DemandsInRange (shown s) := by simp only [DemandsInRange, shown_get]
  constructor
  · rintro ⟨hsteps, hres, hhead, hentries, hlinks, hlatency⟩
    exact ⟨hsteps, hres, hhead, hdemand.mp hentries, hlinks, hlatency⟩
  · rintro ⟨hsteps, hres, hhead, hentries, hlinks, hlatency⟩
    exact ⟨hsteps, hres, hhead, hdemand.mpr hentries, hlinks, hlatency⟩

/-- The tables of gains, with the configuration. -/
def gainRecords (s : State) := (s.steps, s.gain.recs, s.head.recs, shown s, s.gain.table, s.config)

/-- Where the tables are those that stood, the law stands. -/
theorem GainsInRange.same {t : State} (hs : GainsInRange s) (h : gainRecords t = gainRecords s) : GainsInRange t := by
  simp only [gainRecords, Prod.mk.injEq] at h
  obtain ⟨hsteps, hres, hhead, hshown, htable, hconfig⟩ := h
  exact ⟨hsteps ▸ hs.steps, hres ▸ hs.resolutions, hhead ▸ hs.backoffs, hshown ▸ hs.demands, htable ▸ hs.links,
    hconfig ▸ hs.latency⟩

theorem gainsInRange_of_lawRecords {t : State} (h : lawRecords t = lawRecords s) (hs : GainsInRange s) :
    GainsInRange t := by
  simp only [lawRecords, Prod.mk.injEq] at h
  obtain ⟨hconfig, hsteps, hres, htable, hhead, hshown, -, -⟩ := h
  exact hs.same (by rw [gainRecords, hconfig, hsteps, hres, htable, hhead, hshown]; rfl)

/-- A property of every record of a table outlasts the change of one record to another that has it. -/
theorem forall_get_set {α : Type} {n : Nat} {P : α → Prop} {t : Tab α n} {i : Fin n} {a : α} (ht : ∀ j, P (t.get j))
    (ha : P a) (j : Fin n) : P ((t.set i a).get j) := by
  rw [get_set]
  split
  exacts [ha, ht j]

theorem gainsInRange_forEach {α : Type} {l : List α} {g : α → State → State}
    (hg : ∀ a t, GainsInRange t → GainsInRange (g a t)) (hs : GainsInRange s) : GainsInRange (forEach l g s) :=
  forEach_induct (fun a _ t => hg a t) hs

/-! ## Marks, bits and outcomes -/

theorem gainsInRange_ask (k : Key) (hs : GainsInRange s) : GainsInRange (ask k s) := hs.same rfl

theorem gainsInRange_markDirty (c : Chan) (hs : GainsInRange s) : GainsInRange (markDirty c s) :=
  hs.same (by simp [gainRecords])

theorem gainsInRange_markGroups (gs : List Group) (hs : GainsInRange s) : GainsInRange (markGroups gs s) :=
  hs.same (by simp [gainRecords, shown_markGroups])

theorem gainsInRange_setEvent (c : Chan) (e : Event) (hs : GainsInRange s) : GainsInRange (setEvent c e s) :=
  hs.same rfl

theorem gainsInRange_place (st : Station) (a : Answer) (hs : GainsInRange s) : GainsInRange (place st a s) :=
  hs.same rfl

theorem gainsInRange_answer (e : Envelope) (kind : Byte) (code : OutcomeCode) (hs : GainsInRange s) :
    GainsInRange (answer e kind code s) := hs.same rfl

/-! ## Entries -/

/-- The settled gain of a channel is A or the value of its pending step (R84). -/
theorem settled_wholeDb (hs : GainsInRange s) (c : Chan) : WholeDb (s.settled c) := by
  obtain ⟨happlied, hpending, -⟩ := hs.steps c
  rw [State.settled, StepRec.settled]
  split
  · next p hp => exact (hpending p hp).1
  · exact happlied

theorem entry_inRange (hs : GainsInRange s) (c : Chan) (f : Feed) : EntryInRange (s.entry c f) := by
  have h := (hs.demands c f).1
  rw [shown_get] at h
  exact h

theorem limitGain_range (g : Int) : -48 ≤ limitGain g ∧ limitGain g ≤ 126 := by
  unfold limitGain
  omega

/-- R54: a created entry stands at A + B_eff, at most 63 dB. -/
theorem createdEntry_range (hs : GainsInRange s) (c : Chan) :
    -48 ≤ (createdEntry s c).gain ∧ (createdEntry s c).gain ≤ 126 := by
  obtain ⟨hlow, -, -⟩ := settled_wholeDb hs c
  obtain ⟨-, ⟨hbeff, -, -⟩, -⟩ := hs.resolutions c
  dsimp only [createdEntry]
  omega

/-- R54 to R56: a written gain is limited, and an entry that keeps its gain stood in range or is a created one. -/
theorem writtenEntry_inRange (f : Feed) (w : DemandWrite) (blk : Word16) (c : Chan) (hs : GainsInRange s) :
    EntryInRange (some (writtenEntry s f w blk c)) := by
  have hold : EntryInRange (some ((s.entry c f).getD (createdEntry s c))) := by
    rintro e ⟨rfl⟩
    cases hx : s.entry c f with
    | some x => exact entry_inRange hs c f x hx
    | none => exact createdEntry_range hs c
  rintro e ⟨rfl⟩
  change -48 ≤ (writeGain w.gain _).gain ∧ (writeGain w.gain _).gain ≤ 126
  cases w.gain with
  | some n => exact limitGain_range n
  | none => exact hold _ rfl

theorem putEntry_demand (f : Feed) (o : Option Entry) (c : Chan) (s : State) :
    (putEntry f o c s).demand = (withEntry f o c s).demand := by
  simp [putEntry_eq]

theorem gainsInRange_putEntry {f : Feed} {o : Option Entry} (c : Chan) (ho : EntryInRange o) (hs : GainsInRange s) :
    GainsInRange (putEntry f o c s) := by
  have hput : GainsInRange (withEntry f o c s) := { hs with demands := fun d g => ?_ }
  · exact hput.same (by simp [gainRecords, shown, putEntry_demand, withEntry])
  have hold := hs.demands d g
  rw [shown_get] at hold ⊢
  rw [withEntry, get_set]
  split
  · next hdc =>
    subst hdc
    exact ⟨forall_get_set (P := EntryInRange) (fun j => entry_inRange hs d j) ho g, hold.2⟩
  · exact hold

theorem gainsInRange_writeChannel (f : Feed) (w : DemandWrite) (blk : Word16) (c : Chan) (hs : GainsInRange s) :
    GainsInRange (writeChannel f w blk c s) :=
  gainsInRange_putEntry c (writtenEntry_inRange f w blk c hs) hs

theorem gainsInRange_removeEntry (f : Feed) (c : Chan) (hs : GainsInRange s) : GainsInRange (removeEntry f c s) := by
  unfold removeEntry
  split
  exacts [gainsInRange_putEntry c nofun hs, hs]

/-- R50: the view takes the entries. -/
theorem gainsInRange_presentView (hs : GainsInRange s) : GainsInRange (presentView s) := by
  refine { hs with demands := fun c f => ?_ }
  have hentry := entry_inRange hs c f
  rw [shown_get, presentView, get_map]
  exact ⟨hentry, hentry⟩

/-! ## Locks -/

theorem gainsInRange_setLock {c : Chan} {l : Lock} (hl : ∀ g, l.frozen = some g → WholeDb g) (hs : GainsInRange s) :
    GainsInRange (setLock c l s) := by
  unfold setLock
  split
  · exact hs
  · obtain ⟨htarget, hbeff, -, htrims⟩ := hs.resolutions c
    refine gainsInRange_setEvent c .lock (gainsInRange_markDirty c { hs with resolutions := ?_ })
    exact forall_get_set (P := ResInRange) hs.resolutions ⟨htarget, hbeff, hl, htrims⟩

/-- R118: a lock is frozen at the settled gain, or stays frozen where it was. -/
theorem gainsInRange_lockChannel (f : Feed) (fix : Bool) (c : Chan) (hs : GainsInRange s) :
    GainsInRange (lockChannel f fix c s) := by
  obtain ⟨-, -, hfrozen, -⟩ := hs.resolutions c
  have hsettled := settled_wholeDb hs c
  refine gainsInRange_setLock (fun g hg => ?_) hs
  cases hl : (s.gain.recs.get c).lock <;> rw [hl] at hg hfrozen <;> cases fix <;> cases hg
  exacts [hsettled, hsettled, hfrozen _ rfl, hfrozen _ rfl, hfrozen _ rfl, hfrozen _ rfl]

theorem gainsInRange_open (c : Chan) (hs : GainsInRange s) : GainsInRange (setLock c .opened s) :=
  gainsInRange_setLock nofun hs

theorem gainsInRange_openHeld (p : Feed → Bool) (c : Chan) (hs : GainsInRange s) :
    GainsInRange (openHeld p c s) := by
  rw [openHeld_eq]
  split
  exacts [gainsInRange_open c hs, hs]

/-! ## Backoffs -/

theorem backoffValue_zero : BackoffValue 0 := by decide

theorem gainsInRange_putHead {c : Chan} {r : HeadRec} (hr : BackoffValue r.backoff) (hs : GainsInRange s) :
    GainsInRange (putHead c r s) :=
  { hs with backoffs := forall_get_set (P := fun r : HeadRec => BackoffValue r.backoff) hs.backoffs hr }

/-- R130. -/
theorem gainsInRange_clearBackoff (c : Chan) (hs : GainsInRange s) : GainsInRange (clearBackoff c s) :=
  gainsInRange_markDirty c (gainsInRange_putHead backoffValue_zero hs)

/-- R131. -/
theorem gainsInRange_resetHead (c : Chan) (hs : GainsInRange s) : GainsInRange (resetHead c s) := by
  have hput := gainsInRange_putHead (c := c) (r := { s.head.recs.get c with backoff := 0, window := 0 })
    backoffValue_zero hs
  unfold resetHead
  dsimp only
  split
  exacts [hput, gainsInRange_markDirty c hput]

/-- R128: a backoff below 18 dB rises by 3 dB. -/
theorem gainsInRange_raiseBackoff (c : Chan) (hs : GainsInRange s) : GainsInRange (raiseBackoff c s) := by
  unfold raiseBackoff
  dsimp only
  split
  · next hroom =>
    obtain ⟨hlow, -, hsteps⟩ := hs.backoffs c
    have hraised : BackoffValue ((s.head.recs.get c).backoff + 6) := by omega
    exact gainsInRange_markDirty c (gainsInRange_setEvent c .backoff (gainsInRange_putHead hraised hs))
  · exact gainsInRange_setEvent c .guardLimit hs

theorem gainsInRange_judgeWindow (c : Chan) (hs : GainsInRange s) : GainsInRange (judgeWindow c s) := by
  have hclip := gainsInRange_setEvent c .clip (gainsInRange_putHead (c := c)
    (r := { s.head.recs.get c with episodes := (s.head.recs.get c).episodes + 1 }) (hs.backoffs c) hs)
  unfold judgeWindow episode
  dsimp only
  (repeat' split)
  exacts [gainsInRange_raiseBackoff c hclip, hclip, hs]

theorem gainsInRange_closeWindow (hs : GainsInRange s) : GainsInRange (closeWindow s) := by
  have hrounds : GainsInRange (forEach channels judgeWindow s) :=
    gainsInRange_forEach (fun c t => gainsInRange_judgeWindow c) hs
  unfold closeWindow
  generalize forEach channels judgeWindow s = t at hrounds ⊢
  refine { hrounds with backoffs := fun c => ?_ }
  rw [get_map]
  exact hrounds.backoffs c

theorem gainsInRange_windowAtBlock (hs : GainsInRange s) : GainsInRange (windowAtBlock s) := by
  unfold windowAtBlock
  (repeat' split)
  exacts [hs, hs.same rfl, gainsInRange_closeWindow hs]

theorem gainsInRange_countClips (frame : Tab Sample 32) (hs : GainsInRange s) : GainsInRange (countClips frame s) := by
  refine { hs with backoffs := fun c => ?_ }
  have hc := hs.backoffs c
  rw [countClips_at]
  split
  exacts [hc, hc]

/-! ## Link table -/

/-- A candidate or locked byte that passes the check is a whole dB from 0 to 63 (R75). -/
theorem wholeDb_of_wholeGain {b : Byte} (h : wholeGain b = true) : WholeDb b.toInt := by
  simp only [wholeGain, Bool.and_eq_true, decide_eq_true_eq] at h
  exact and_assoc.mp h

theorem backoffValue_of_validBackoff {b : Byte} (h : validBackoff b = true) : BackoffValue b.toInt := by
  simp only [validBackoff, Bool.and_eq_true, decide_eq_true_eq] at h
  exact and_assoc.mp h

/-- R75: an announcement is stored only when its values pass the check. -/
theorem linkEntryOf_inRange {g : Group} {source : Station} {flags candidate locked backoff : Byte} {x : LinkEntry}
    (h : linkEntryOf g source flags candidate locked backoff = some x) : LinkInRange x := by
  unfold linkEntryOf at h
  split at h
  · next hpass =>
    cases h
    simp only [Bool.and_eq_true, Bool.or_eq_true, Bool.not_eq_true'] at hpass
    obtain ⟨⟨hcandidate, hlocked⟩, hbackoff⟩ := hpass
    refine ⟨backoffValue_of_validBackoff hbackoff, fun n hn => ?_, fun n hn => ?_⟩
    · obtain ⟨hflag, ⟨⟩⟩ := Option.ite_none_right_eq_some.mp hn
      exact wholeDb_of_wholeGain (hcandidate.resolve_left (by simp [hflag]))
    · obtain ⟨hflag, ⟨⟩⟩ := Option.ite_none_right_eq_some.mp hn
      exact wholeDb_of_wholeGain (hlocked.resolve_left (by simp [hflag]))
  · cases h

/-- R75, R76, R79. -/
theorem gainsInRange_storeLink {x : LinkEntry} (hx : LinkInRange x) (hs : GainsInRange s) :
    GainsInRange (storeLink x s) := by
  have hreplaced : ∀ y ∈ s.gain.table.map (fun y => if y.sameAs x then x else y), LinkInRange y := by
    intro y hy
    obtain ⟨z, hz, rfl⟩ := List.mem_map.mp hy
    split
    exacts [hx, hs.links z hz]
  have hadded : ∀ y ∈ s.gain.table ++ [x], LinkInRange y := fun y hy =>
    (List.mem_append.mp hy).elim (hs.links y) fun h => List.mem_singleton.mp h ▸ hx
  unfold storeLink
  (repeat' split)
  · exact { hs with links := hreplaced }
  · exact gainsInRange_markGroups _ { hs with links := hreplaced }
  · exact gainsInRange_markGroups _ { hs with links := hadded }
  · exact hs
  · exact hs.same rfl

theorem gainsInRange_takeLink (source : Station) (group flags candidate locked backoff : Byte) (hs : GainsInRange s) :
    GainsInRange (takeLink source group flags candidate locked backoff s) := by
  unfold takeLink
  (repeat' split)
  · next hx => exact gainsInRange_storeLink (linkEntryOf_inRange hx) hs
  all_goals exact hs

/-- R77 to R79: what is left of the link table was there before. -/
theorem gainsInRange_removeLinks (p : LinkEntry → Bool) (hs : GainsInRange s) : GainsInRange (removeLinks p s) := by
  have hleft : GainsInRange { s with gain := { s.gain with table := s.gain.table.filter fun x => !p x } } :=
    { hs with links := fun x hx => hs.links x (List.mem_of_mem_filter hx) }
  have hshown := shown_removeLinks p s
  have hgain := (removeLinks_removes p s).1
  refine hleft.same ?_
  rw [gainRecords, gainRecords, hshown, hgain]
  simp [shown]

theorem gainsInRange_ageLinks (hs : GainsInRange s) : GainsInRange (ageLinks s) := by
  refine gainsInRange_removeLinks _ { hs with links := fun x hx => ?_ }
  obtain ⟨y, hy, rfl⟩ := List.mem_map.mp hx
  exact hs.links y hy

theorem gainsInRange_freeRoom (hs : GainsInRange s) : GainsInRange (freeRoom s) :=
  hs.same (by simp [gainRecords, shown])

theorem gainsInRange_loseStation (st : Station) (role : Role) (hs : GainsInRange s) :
    GainsInRange (loseStation st role s) := by
  unfold loseStation
  cases role with
  | desk => exact hs.same (by simp [gainRecords, shown, loseDesk])
  | box => exact gainsInRange_removeLinks _ (hs.same rfl)

theorem gainsInRange_ageStation (st : Station) (hs : GainsInRange s) : GainsInRange (ageStation st s) := by
  unfold ageStation
  (repeat' split)
  exacts [hs.same rfl, gainsInRange_loseStation st _ hs, hs, hs, hs]

/-! ## Candidates, targets and trims -/

theorem least_mem {l : List Int} {a : Int} (h : least l = some a) : a ∈ l := by
  have hmin : l.min? = some a := by
    cases l with
    | nil => cases h
    | cons b l => exact h
  exact List.min?_mem hmin

theorem greatest_mem {l : List Int} {a : Int} (h : greatest l = some a) : a ∈ l := by
  have hmax : l.max? = some a := by
    cases l with
    | nil => cases h
    | cons b l => exact h
  exact List.max?_mem hmax

/-- R66: from requests up to 63 dB the chosen gain is a whole dB from 0 to 63. -/
theorem chooseGain_wholeDb {lo hi : Int} (hhi : hi ≤ 126) : WholeDb (chooseGain lo hi) := by
  unfold chooseGain wholeDown wholeUp
  dsimp only
  split <;> omega

theorem candidate_wholeDb {l : List Int} {g : Int} (hl : ∀ a ∈ l, a ≤ 126) (h : candidate l = some g) : WholeDb g := by
  unfold candidate at h
  split at h
  · next lo hi _ hhi =>
    cases h
    exact chooseGain_wholeDb (hl hi (greatest_mem hhi))
  · cases h

theorem requestsOf_le (hs : GainsInRange s) {c : Chan} {a : Int} (ha : a ∈ requestsOf s c) : a ≤ 126 := by
  obtain ⟨o, ho, hoa⟩ := List.mem_filterMap.mp ha
  obtain ⟨e, rfl, rfl⟩ := Option.map_eq_some_iff.mp hoa
  obtain ⟨f, hf, hget⟩ := List.mem_iff_getElem.mp ho
  have hview := (hs.demands c ⟨f, by rw [← (s.demand.get c).view.len]; exact hf⟩).2
  rw [shown_get] at hview
  exact (hview e hget).2

theorem groupRequests_le (hs : GainsInRange s) {g : Group} {a : Int} (ha : a ∈ groupRequests s g) : a ≤ 126 := by
  obtain ⟨c, -, hc⟩ := List.mem_flatMap.mp ha
  exact requestsOf_le hs hc

/-- The greatest of several backoffs is one of them. -/
theorem backoffValue_foldl_max {l : List Int} {b : Int} (hb : BackoffValue b) (hl : ∀ a ∈ l, BackoffValue a) :
    BackoffValue (l.foldl max b) := by
  induction l generalizing b with
  | nil => exact hb
  | cons a l ih =>
    have ha := hl a List.mem_cons_self
    have hmax : BackoffValue (max b a) := by
      rcases max_choice b a with h | h <;> rw [h] <;> assumption
    exact ih hmax fun x hx => hl x (List.mem_cons_of_mem a hx)

theorem groupBackoff_value (hs : GainsInRange s) (g : Group) : BackoffValue (groupBackoff s g) :=
  backoffValue_foldl_max backoffValue_zero fun a ha => by
    obtain ⟨c, -, rfl⟩ := List.mem_map.mp ha
    exact hs.backoffs c

theorem mem_freshSet {g : Group} {x : LinkEntry} (h : x ∈ freshSet s g) : x ∈ s.gain.table :=
  (List.mem_filter.mp h).1

/-- R67. -/
theorem effectiveBackoff_value (hs : GainsInRange s) (c : Chan) : BackoffValue (effectiveBackoff s c) := by
  unfold effectiveBackoff
  split
  · exact hs.backoffs c
  · refine backoffValue_foldl_max (groupBackoff_value hs _) fun a ha => ?_
    obtain ⟨x, hx, rfl⟩ := List.mem_map.mp ha
    exact (hs.links x (mem_freshSet hx)).1

/-- A candidate less a backoff, not below 0 dB (R68, R69). -/
theorem reduced_wholeDb {a b : Int} (ha : WholeDb a) (hb : BackoffValue b) : WholeDb (max 0 (a - b)) := by
  omega

theorem lockedValues_wholeDb (hs : GainsInRange s) {g : Group} {a : Int} (ha : a ∈ lockedValues s g) : WholeDb a := by
  rcases List.mem_append.mp ha with hown | hlink
  · obtain ⟨c, -, hc⟩ := List.mem_filterMap.mp hown
    obtain ⟨-, -, hfrozen, -⟩ := hs.resolutions c
    exact hfrozen a hc
  · obtain ⟨x, hx, hxa⟩ := List.mem_filterMap.mp hlink
    exact (hs.links x (mem_freshSet hx)).2.2 a hxa

theorem groupCandidates_wholeDb (hs : GainsInRange s) {g : Group} {a : Int} (ha : a ∈ groupCandidates s g) :
    WholeDb a := by
  rcases List.mem_append.mp ha with hown | hlink
  · exact candidate_wholeDb (fun _ => groupRequests_le hs) (Option.mem_toList.mp hown)
  · obtain ⟨x, hx, hxa⟩ := List.mem_filterMap.mp hlink
    exact (hs.links x (mem_freshSet hx)).2.1 a hxa

theorem groupTarget_wholeDb (hs : GainsInRange s) (c : Chan) {beff : Int} (hb : BackoffValue beff) :
    WholeDb (groupTarget s c beff) := by
  unfold groupTarget
  split
  · next hg => exact lockedValues_wholeDb hs (least_mem hg)
  · next hg => exact reduced_wholeDb (groupCandidates_wholeDb hs (least_mem hg)) hb
  · exact settled_wholeDb hs c

theorem openTarget_wholeDb (hs : GainsInRange s) (c : Chan) {beff : Int} (hb : BackoffValue beff) :
    WholeDb (openTarget s c beff) := by
  unfold openTarget
  split
  · next ha => exact reduced_wholeDb (candidate_wholeDb (fun _ => requestsOf_le hs) ha) hb
  · exact settled_wholeDb hs c

/-- R68 to R70: the target is a frozen gain, a reduced candidate, a locked value or the settled gain. -/
theorem targetOf_wholeDb (hs : GainsInRange s) (c : Chan) {beff : Int} (hb : BackoffValue beff) :
    WholeDb (targetOf s c beff) := by
  obtain ⟨-, -, hfrozen, -⟩ := hs.resolutions c
  unfold targetOf
  (repeat' split)
  · next hg => exact hfrozen _ hg
  · exact openTarget_wholeDb hs c hb
  · exact groupTarget_wholeDb hs c hb

/-- R71: a trim is limited to its range, and is 0 without an entry. -/
theorem trimOf_range (beff a : Int) (o : Option Entry) :
    -48 ≤ (trimOf beff a o).count ∧ (trimOf beff a o).count ≤ 48 := by
  cases o with
  | none => simp [trimOf]
  | some e =>
    dsimp only [trimOf, limitTrim]
    omega

theorem trimsOf_range (beff a : Int) (view : Entries) (f : Feed) :
    -48 ≤ ((trimsOf beff a view).get f).count ∧ ((trimsOf beff a view).get f).count ≤ 48 := by
  rw [trimsOf, get_map]
  exact trimOf_range beff a _

theorem resolved_inRange (hs : GainsInRange s) (c : Chan) : ResInRange (resolved s c) := by
  obtain ⟨-, -, hfrozen, -⟩ := hs.resolutions c
  have hbeff := effectiveBackoff_value hs c
  exact ⟨targetOf_wholeDb hs c hbeff, hbeff, hfrozen, trimsOf_range _ _ _⟩

/-- R73. -/
theorem gainsInRange_resolveAll (hs : GainsInRange s) : GainsInRange (resolveAll s) := by
  have hresolved : GainsInRange { s with gain := { s.gain with recs := (resolveAll s).gain.recs } } := by
    refine { hs with resolutions := fun c => ?_ }
    rw [resolveAll_recs]
    split
    exacts [resolved_inRange hs c, hs.resolutions c]
  have hshown := shown_resolveAll s
  refine hresolved.same ?_
  rw [gainRecords, gainRecords, hshown]
  simp [shown]

/-! ## Steps -/

theorem gainsInRange_putStep {c : Chan} {r : StepRec} (hr : StepInRange r) (hs : GainsInRange s) :
    GainsInRange (putStep c r s) := by
  rw [Laws.putStep_eq]
  exact { hs with steps := forall_get_set (P := StepInRange) hs.steps hr }

theorem gainsInRange_changeStep {c : Chan} {r : StepRec} (hr : StepInRange r) (hs : GainsInRange s) :
    GainsInRange (changeStep c r s) := by
  have hput := gainsInRange_putStep (c := c) hr hs
  unfold changeStep
  dsimp only
  split
  exacts [hput, gainsInRange_ask _ hput]

/-- R94, R95: a first mismatch counts 1, a second leads to FAULT with the count at 0. -/
theorem gainsInRange_mismatched {c : Chan} {r : StepRec} (hr : StepInRange r) (hgood : r.front = .good)
    (hs : GainsInRange s) : GainsInRange (mismatched c r s) := by
  obtain ⟨happlied, hpending, hage, -, -⟩ := hr
  unfold mismatched
  split
  · refine gainsInRange_changeStep ⟨happlied, hpending, hage, Nat.le_refl 1, fun n hn => ?_⟩ hs
    exact absurd (hgood.symm.trans hn) nofun
  · refine gainsInRange_setEvent c .frontEndFault (gainsInRange_changeStep ⟨happlied, hpending, hage, Nat.zero_le 1,
      fun n hn => ?_⟩ hs)
    cases hn
    exact ⟨by decide, rfl, rfl⟩

/-- R87: one step from A toward another whole dB is 1 dB from A, and between the two. -/
theorem stepToward_wholeDb {a target : Int} (ha : WholeDb a) (ht : WholeDb target) (hne : a ≠ target) :
    WholeDb (stepToward a target) ∧ (stepToward a target = a + 2 ∨ stepToward a target = a - 2) := by
  unfold stepToward
  split <;> omega

/-- R88, R89: a step that is issued is 1 dB from A and has the configured latency to go. -/
theorem gainsInRange_stepExchange (rb : Readback) {c : Chan} {target : Int} {r : StepRec} (hr : StepInRange r)
    (hgood : r.front = .good) (ht : WholeDb target) (hne : r.applied ≠ target) (hs : GainsInRange s) :
    GainsInRange (stepExchange rb c target r s) := by
  unfold stepExchange
  dsimp only
  split
  · obtain ⟨happlied, -, -, -, -⟩ := hr
    obtain ⟨hwhole, hstep⟩ := stepToward_wholeDb happlied ht hne
    refine gainsInRange_changeStep ⟨happlied, fun p hp => ?_, Nat.zero_le 8, Nat.zero_le 1, fun n hn => ?_⟩ hs
    · cases hp
      exact ⟨hwhole, hstep, hs.latency⟩
    · exact absurd (hgood.symm.trans hn) nofun
  · exact gainsInRange_mismatched hr hgood hs

/-- R94. -/
theorem gainsInRange_restoreWrite (rb : Readback) {c : Chan} {r : StepRec} (hr : StepInRange r)
    (hgood : r.front = .good) (hs : GainsInRange s) : GainsInRange (restoreWrite rb c r s) := by
  unfold restoreWrite
  dsimp only
  split
  · obtain ⟨happlied, hpending, hage, -, -⟩ := hr
    refine gainsInRange_changeStep ⟨happlied, hpending, hage, Nat.zero_le 1, fun n hn => ?_⟩ hs
    exact absurd (hgood.symm.trans hn) nofun
  · exact gainsInRange_mismatched hr hgood hs

theorem gainsInRange_decideStep (rb : Readback) {c : Chan} {target : Int} {r : StepRec} (hr : StepInRange r)
    (hgood : r.front = .good) (ht : WholeDb target) (hs : GainsInRange s) :
    GainsInRange (decideStep rb c target r s) := by
  unfold decideStep
  (repeat' split)
  · exact gainsInRange_changeStep hr hs
  · exact gainsInRange_changeStep hr hs
  · next hmoves => exact gainsInRange_stepExchange rb hr hgood ht (fun h => hmoves (.inl h)) hs
  · exact gainsInRange_restoreWrite rb hr hgood hs
  · next hne => exact gainsInRange_stepExchange rb hr hgood ht hne hs

/-- R97: the retry write ends the fault, or begins its age anew. -/
theorem gainsInRange_retryExchange (rb : Readback) {c : Chan} {r : StepRec} {n : Nat} (hr : StepInRange r)
    (hfault : r.front = .fault n) (hs : GainsInRange s) : GainsInRange (retryExchange rb c r s) := by
  obtain ⟨happlied, hpending, hage, hmismatch, hfront⟩ := hr
  obtain ⟨-, hzero, hidle⟩ := hfront n hfault
  unfold retryExchange
  dsimp only
  split
  · exact gainsInRange_changeStep ⟨happlied, hpending, hage, Nat.zero_le 1, nofun⟩ hs
  · refine gainsInRange_changeStep ⟨happlied, hpending, hage, hmismatch, fun m hm => ?_⟩ hs
    cases hm
    exact ⟨by decide, hzero, hidle⟩

/-- R85 to R88, R94 to R97. -/
theorem gainsInRange_stepAtBlock (rb : Readback) (c : Chan) (hs : GainsInRange s) :
    GainsInRange (stepAtBlock rb c s) := by
  obtain ⟨happlied, hpending, -, hmismatch, hfront⟩ := hs.steps c
  obtain ⟨htarget, -⟩ := hs.resolutions c
  have hage : min 8 ((s.steps.get c).age + 1) ≤ 8 := Nat.min_le_left _ _
  unfold stepAtBlock
  dsimp only
  (repeat' split)
  · exact gainsInRange_putStep ⟨happlied, hpending, hage, hmismatch, hfront⟩ hs
  · next hgood =>
    refine gainsInRange_decideStep rb ⟨happlied, hpending, hage, hmismatch, fun n hn => ?_⟩ hgood htarget hs
    exact absurd (hgood.symm.trans hn) nofun
  · next n hfault hyoung =>
    obtain ⟨-, hzero, hidle⟩ := hfront n hfault
    refine gainsInRange_putStep ⟨happlied, hpending, hage, hmismatch, fun m hm => ?_⟩ hs
    cases hm
    exact ⟨hyoung, hzero, hidle⟩
  · next n hfault _ =>
    exact gainsInRange_retryExchange rb ⟨happlied, hpending, hage, hmismatch, hfront⟩ hfault hs

/-- R99. -/
theorem gainsInRange_boxResetRetry (rb : Readback) (c : Chan) (hs : GainsInRange s) :
    GainsInRange (boxResetRetry rb c s) := by
  obtain ⟨happlied, hpending, hage, hmismatch, hfront⟩ := hs.steps c
  unfold boxResetRetry
  dsimp only
  (repeat' split)
  · exact gainsInRange_changeStep ⟨happlied, hpending, hage, hmismatch, nofun⟩ hs
  · next n hfault _ =>
    obtain ⟨-, hzero, hidle⟩ := hfront n hfault
    refine gainsInRange_setEvent c .frontEndFault
      (gainsInRange_putStep ⟨happlied, hpending, hage, hmismatch, fun m hm => ?_⟩ hs)
    cases hm
    exact ⟨by decide, hzero, hidle⟩
  · exact hs

theorem gainsInRange_putTrims {c : Chan} {t : Tab Trim 6} (ht : ∀ f, -48 ≤ (t.get f).count ∧ (t.get f).count ≤ 48)
    (hs : GainsInRange s) : GainsInRange (putTrims c t s) := by
  obtain ⟨htarget, hbeff, hfrozen, -⟩ := hs.resolutions c
  exact { hs with resolutions := forall_get_set (P := ResInRange) hs.resolutions ⟨htarget, hbeff, hfrozen, ht⟩ }

/-- R90: A takes the value of the pending step, and the trims are limited as ever. -/
theorem gainsInRange_compensate (c : Chan) (hs : GainsInRange s) : GainsInRange (compensate c s) := by
  obtain ⟨-, hpending, hage, hmismatch, hfront⟩ := hs.steps c
  unfold compensate
  dsimp only
  split
  · next p hp =>
    have hvalue := (hpending p hp).1
    have hstepped := gainsInRange_putStep (c := c) (r := { s.steps.get c with applied := p.value, pending := none })
      ⟨hvalue, nofun, hage, hmismatch, hfront⟩ hs
    have htrimmed := gainsInRange_putTrims (c := c)
      (trimsOf_range (s.gain.recs.get c).beff p.value (s.demand.get c).view) hstepped
    exact gainsInRange_ask _ htrimmed
  · exact hs

/-- R89. -/
theorem gainsInRange_countDown (c : Chan) (hs : GainsInRange s) : GainsInRange (countDown c s) := by
  obtain ⟨happlied, hpending, hage, hmismatch, hfront⟩ := hs.steps c
  unfold countDown
  dsimp only
  (repeat' split)
  · exact gainsInRange_compensate c hs
  · next p hp _ =>
    obtain ⟨hvalue, hstep, hcount⟩ := hpending p hp
    have hcoming : p.coming ≤ 47 := by
      unfold PendingStep.coming
      split <;> omega
    refine gainsInRange_putStep ⟨happlied, fun q hq => ?_, hage, hmismatch, hfront⟩ hs
    cases hq
    exact ⟨hvalue, hstep, hcoming⟩
  · exact hs

/-! ## Sample periods, box reset, block starts and starts -/

theorem gainsInRange_samplePeriod (frame : Tab Sample 32) (hs : GainsInRange s) :
    GainsInRange (samplePeriod frame s) := by
  have htoSample : GainsInRange (toSample s) := hs.same (by simp [gainRecords, shown])
  have hcounted : GainsInRange (forEach channels countDown (toSample s)) :=
    gainsInRange_forEach (fun c _ => gainsInRange_countDown c) htoSample
  have hrows : GainsInRange (buildRows frame (forEach channels countDown (toSample s))) :=
    hcounted.same (by simp [gainRecords, shown])
  unfold samplePeriod sampleWork
  split
  · exact (gainsInRange_countClips frame hrows).same (by simp [gainRecords, shown])
  · exact hs

theorem gainsInRange_dropBatch (f : BatchFlag) (hs : GainsInRange s) : GainsInRange (dropBatch f s) :=
  hs.same rfl

theorem gainsInRange_discardBatch (p : BatchBody → Bool) (hs : GainsInRange s) : GainsInRange (discardBatch p s) :=
  hs.same (by simp [gainRecords, shown])

theorem gainsInRange_paths (t : Tab FeedPath 6) (hs : GainsInRange s) : GainsInRange { s with paths := t } :=
  hs.same rfl

/-- R177. -/
theorem gainsInRange_resetBlocks (rb : Readback) (hs : GainsInRange s) : GainsInRange (resetBlocks rb s) := by
  have hopen {t : State} : GainsInRange t → GainsInRange (forEach channels (openHeld fun _ => true) t) :=
    gainsInRange_forEach fun c _ => gainsInRange_openHeld _ c
  have hheads {t : State} : GainsInRange t → GainsInRange (forEach channels resetHead t) :=
    gainsInRange_forEach fun c _ => gainsInRange_resetHead c
  have hretry {t : State} : GainsInRange t → GainsInRange (forEach channels (boxResetRetry rb) t) :=
    gainsInRange_forEach fun c _ => gainsInRange_boxResetRetry rb c
  unfold resetBlocks
  dsimp only
  refine gainsInRange_discardBatch _ (gainsInRange_paths _ (hretry (hheads (hopen ?_))))
  refine gainsInRange_freeRoom (gainsInRange_removeLinks _ ?_)
  exact hs.same (by simp [gainRecords, shown])

theorem gainsInRange_writeItem (f : Feed) (blk : Word16) (i : BatchItem) (hs : GainsInRange s) :
    GainsInRange (writeItem f blk i s) := gainsInRange_writeChannel f _ blk i.chan hs

/-- R60, R157. -/
theorem gainsInRange_writeBatch (b : BatchBody) (blk : Word16) (hs : GainsInRange s) :
    GainsInRange (writeBatch b blk s) :=
  gainsInRange_dropBatch .committed (gainsInRange_forEach (fun i _ => gainsInRange_writeItem b.feed blk i) hs)

theorem gainsInRange_batchAtBlock (hs : GainsInRange s) : GainsInRange (batchAtBlock s) := by
  unfold batchAtBlock
  (repeat' split)
  exacts [hs, hs.same rfl, hs.same rfl, gainsInRange_writeBatch _ _ hs]

theorem gainsInRange_stationsAndBatch (hs : GainsInRange s) : GainsInRange (stationsAndBatch s) := by
  have hages {t : State} : GainsInRange t → GainsInRange (ageStations t) :=
    gainsInRange_forEach fun st _ => gainsInRange_ageStation st
  unfold stationsAndBatch
  dsimp only
  split
  · exact gainsInRange_batchAtBlock (hages (hs.same rfl))
  · exact hages (gainsInRange_batchAtBlock (hs.same rfl))

theorem gainsInRange_stepAll (rb : Readback) (hs : GainsInRange s) : GainsInRange (stepAll rb s) :=
  gainsInRange_forEach (fun c _ => gainsInRange_stepAtBlock rb c) hs

theorem gainsInRange_blockTasks (i : BlockInputs) (hs : GainsInRange s) : GainsInRange (blockTasks i s) := by
  have hdriven : GainsInRange (driveMark i.markLine s) := hs.same (by simp [gainRecords, shown])
  have hlinks := gainsInRange_ageLinks (gainsInRange_stationsAndBatch hdriven)
  have hstepped := gainsInRange_stepAll i.readback (gainsInRange_resolveAll (gainsInRange_presentView hlinks))
  unfold blockTasks
  exact hstepped.same (by simp [gainRecords, shown])

theorem gainsInRange_endBlock (hs : GainsInRange s) : GainsInRange (endBlock s) := by
  have hticks : GainsInRange (passTicks (ticksLeft s.timing) (ticksLeft s.timing) s) :=
    hs.same (by simp [gainRecords, shown])
  unfold endBlock
  exact (gainsInRange_windowAtBlock hticks).same (by simp [gainRecords, shown])

theorem gainsInRange_blockStart (i : BlockInputs) (hs : GainsInRange s) : GainsInRange (blockStart i s) := by
  have hbegun : GainsInRange (beginBlock (endBlock s)) := (gainsInRange_endBlock hs).same (by simp [gainRecords, shown])
  unfold blockStart whileRunning blockWork
  split
  · exact (gainsInRange_blockTasks (inputsAt i s.timing) hbegun).same (by simp [gainRecords, shown])
  · exact hs

theorem gainsInRange_startRunning (mainGood auxGood : Bool) (lines : Tab Bool 6) (hs : GainsInRange s) :
    GainsInRange (startRunning mainGood auxGood lines s) :=
  hs.same rfl

theorem gainsInRange_startUpEnd (mainGood auxGood : Bool) (lines : Tab Bool 6) (i : BlockInputs)
    (hs : GainsInRange s) : GainsInRange (startUpEnd mainGood auxGood lines i s) := by
  unfold startUpEnd
  split
  · have htasks := gainsInRange_blockTasks i (gainsInRange_startRunning mainGood auxGood lines hs)
    exact htasks.same (by simp [gainRecords, shown])
  · exact hs

/-- The tables as a start writes them, with a latency in its range (R61, R82, R98, R125). -/
theorem gainsInRange_start {t : State} (hsteps : StepsInRange t.steps) (hres : t.gain = .start)
    (hhead : t.head = .start) (hdemand : t.demand = Tab.const .start) (hlatency : t.config.latency ≤ 47) :
    GainsInRange t where
  steps := hsteps
  resolutions c := by
    rw [hres, GainResolver.start, get_const]
    exact ⟨by decide, by decide, nofun, fun f => by simp [ResRec.start]⟩
  backoffs c := by
    rw [hhead, Headroom.start, get_const]
    exact backoffValue_zero
  demands c f := by
    have hnone : noEntries.get f = none := get_const _ f
    rw [shown_get, hdemand, get_const, DemandRec.start, hnone]
    exact ⟨nofun, nofun⟩
  links x hx := by
    rw [hres] at hx
    exact absurd hx List.not_mem_nil
  latency := hlatency

theorem stepInRange_start : StepInRange StepRec.start := ⟨by decide, nofun, by decide, by decide, nofun⟩

/-- R98: a start write that mismatches counts 1. -/
theorem startWrite_inRange (rb : Readback) (c : Chan) : StepInRange (startWrite rb c) := by
  unfold startWrite
  split
  · exact stepInRange_start
  · exact ⟨by decide, nofun, by decide, by decide, nofun⟩

/-- R175, R176: the latency of an accepted image is limited, that of the defaults is 0. -/
theorem loadConfig_latency (image : List Byte) : (loadConfig image).latency ≤ 47 := by
  unfold loadConfig
  split
  · dsimp only [imageConfig, limitField]
    omega
  · decide

theorem gainsInRange_beginStart (i : StartInputs) (s : State) : GainsInRange (beginStart i s) :=
  gainsInRange_start (fun c => by rw [beginStart, get_gen]; exact startWrite_inRange i.readback c) rfl rfl rfl
    (loadConfig_latency i.image)

theorem gainsInRange_holdReset (hs : GainsInRange s) : GainsInRange (holdReset s) :=
  gainsInRange_start (fun c => by rw [holdReset, State.start, get_const]; exact stepInRange_start) rfl rfl rfl
    hs.latency

/-! ## Requests -/

theorem gainsInRange_hear {st : Station} {role : Role} {k : State → State}
    (hk : ∀ t, GainsInRange t → GainsInRange (k t)) (hs : GainsInRange s) : GainsInRange (hear st role k s) := by
  have hended : GainsInRange (messageEnded s) := hs.same rfl
  unfold hear
  (repeat' split)
  · exact hended.same rfl
  · exact hk _ (hended.same (by simp [gainRecords, shown]))
  · exact hs

theorem gainsInRange_request {e : Envelope} {k : State → State} (hk : ∀ t, GainsInRange t → GainsInRange (k t))
    (hs : GainsInRange s) : GainsInRange (request e k s) :=
  gainsInRange_hear (fun t ht => by split; exacts [hk t ht, ht]) hs

theorem gainsInRange_withHolder {e : Envelope} {kind feed : Byte} {k : Feed → State → State}
    (hk : ∀ f, GainsInRange (k f s)) (hs : GainsInRange s) : GainsInRange (withHolder e kind feed k s) := by
  unfold withHolder
  (repeat' split)
  exacts [hk _, hs.same rfl, hs.same rfl]

theorem gainsInRange_noticeBatch (f : Feed) (st : Station) (hs : GainsInRange s) :
    GainsInRange (noticeBatch f st s) := hs.same (by simp [gainRecords, shown])

theorem gainsInRange_takeClaim (e : Envelope) (feed : Byte) (before : Tab FeedRec 6) (hs : GainsInRange s) :
    GainsInRange (takeClaim e feed before s) := by
  unfold takeClaim
  (repeat' split) <;> exact hs.same (by simp [gainRecords, shown])

/-- R39. -/
theorem gainsInRange_takeRelease (e : Envelope) (feed : Byte) (hs : GainsInRange s) :
    GainsInRange (takeRelease e feed s) := by
  have hbind (f : Feed) : GainsInRange (bindFeed f .free s) := hs.same (by simp [gainRecords, shown])
  refine gainsInRange_withHolder (fun f => gainsInRange_answer e 3 .done (gainsInRange_discardBatch _ ?_)) hs
  refine gainsInRange_paths _ (gainsInRange_forEach (fun c _ => gainsInRange_openHeld _ c) ?_)
  exact gainsInRange_forEach (fun c _ => gainsInRange_removeEntry f c) (hbind f)

theorem gainsInRange_takeSetDemand (e : Envelope) (feed first last flags gain : Byte) (hs : GainsInRange s) :
    GainsInRange (takeSetDemand e feed first last flags gain s) := by
  refine gainsInRange_withHolder (fun f => ?_) hs
  (repeat' split)
  · exact gainsInRange_noticeBatch f e.source (gainsInRange_place e.source _
      (gainsInRange_forEach (fun c _ => gainsInRange_writeChannel f _ _ c) hs))
  all_goals exact gainsInRange_answer e 4 .badRange hs

theorem gainsInRange_takeClearDemand (e : Envelope) (feed first last : Byte) (hs : GainsInRange s) :
    GainsInRange (takeClearDemand e feed first last s) := by
  refine gainsInRange_withHolder (fun f => ?_) hs
  split
  · exact gainsInRange_noticeBatch f e.source (gainsInRange_answer e 5 .done
      (gainsInRange_forEach (fun c _ => gainsInRange_removeEntry f c) hs))
  · exact gainsInRange_answer e 5 .badRange hs

theorem gainsInRange_lockPass (e : Envelope) (kind : Byte) (f : Feed) (unlocking : Bool) (cs : List Chan)
    {k : Chan → State → State} (hk : ∀ c t, GainsInRange t → GainsInRange (k c t)) (hs : GainsInRange s) :
    GainsInRange (lockPass e kind f unlocking cs k s) := by
  unfold lockPass
  split
  · exact gainsInRange_place e.source _ hs
  · exact gainsInRange_answer e kind .done (gainsInRange_forEach hk hs)

theorem gainsInRange_takeLock (e : Envelope) (feed first last mode : Byte) (hs : GainsInRange s) :
    GainsInRange (takeLock e feed first last mode s) := by
  refine gainsInRange_withHolder (fun f => ?_) hs
  (repeat' split)
  · exact gainsInRange_lockPass e 6 f false _ (fun c _ => gainsInRange_lockChannel f _ c) hs
  all_goals exact gainsInRange_answer e 6 .badRange hs

theorem gainsInRange_takeUnlock (e : Envelope) (feed first last : Byte) (hs : GainsInRange s) :
    GainsInRange (takeUnlock e feed first last s) := by
  refine gainsInRange_withHolder (fun f => ?_) hs
  split
  · exact gainsInRange_lockPass e 7 f true _ (fun c _ => gainsInRange_open c) hs
  · exact gainsInRange_answer e 7 .badRange hs

theorem gainsInRange_takeHeadroomReset (e : Envelope) (feed first last : Byte) (hs : GainsInRange s) :
    GainsInRange (takeHeadroomReset e feed first last s) := by
  refine gainsInRange_withHolder (fun f => ?_) hs
  split
  · exact gainsInRange_answer e 8 .done (gainsInRange_forEach (fun c _ => gainsInRange_clearBackoff c) hs)
  · exact gainsInRange_answer e 8 .badRange hs

theorem gainsInRange_takeTone (e : Envelope) (feed first last state : Byte) (hs : GainsInRange s) :
    GainsInRange (takeTone e feed first last state s) :=
  gainsInRange_withHolder (fun f => by (repeat' split) <;> exact hs.same rfl) hs

theorem gainsInRange_takeOpen (e : Envelope) (feed count : Byte) (hs : GainsInRange s) :
    GainsInRange (takeOpen e feed count s) :=
  gainsInRange_withHolder (fun f => by unfold decideOpen; (repeat' split) <;> exact hs.same rfl) hs

theorem gainsInRange_takeEntry (e : Envelope) (feed chan flags gain : Byte) (hs : GainsInRange s) :
    GainsInRange (takeEntry e feed chan flags gain s) := by
  unfold takeEntry botchEntry
  (repeat' split) <;> exact hs.same rfl

theorem gainsInRange_takeCommit (e : Envelope) (hs : GainsInRange s) : GainsInRange (takeCommit e s) := by
  unfold takeCommit
  (repeat' split) <;> exact hs.same rfl

theorem gainsInRange_takeCancel (e : Envelope) (hs : GainsInRange s) : GainsInRange (takeCancel e s) := by
  unfold takeCancel
  (repeat' split) <;> exact hs.same rfl

theorem gainsInRange_takeBoxReset (e : Envelope) (rb : Readback) (hs : GainsInRange s) :
    GainsInRange (takeBoxReset e rb s) := by
  unfold takeBoxReset
  split
  · exact gainsInRange_answer e 14 .done (gainsInRange_resetBlocks rb hs)
  · exact gainsInRange_answer e 14 .notHolder hs

/-! ## Every command -/

theorem gainsInRange_whileRunning {f : State → State} (hf : GainsInRange (f s)) (hs : GainsInRange s) :
    GainsInRange (whileRunning f s) := by
  unfold whileRunning
  split
  exacts [hf, hs]

theorem gainsInRange_stationLoss (st : Station) (hs : GainsInRange s) : GainsInRange (stationLoss st s) :=
  gainsInRange_whileRunning (by (repeat' split); exacts [hs, gainsInRange_loseStation st _ hs, hs, hs, hs]) hs

theorem gainsInRange_compensation (c : Chan) (hs : GainsInRange s) : GainsInRange (compensation c s) := by
  unfold compensation
  (repeat' split)
  exacts [gainsInRange_compensate c hs, hs, hs, hs]

theorem gainsInRange_retryWrite (c : Chan) (code : Byte) (hs : GainsInRange s) :
    GainsInRange (retryWrite c code s) := by
  unfold retryWrite
  (repeat' split)
  · exact hs
  · next n hfault _ =>
    have hnoted : GainsInRange { s with ahead := .retry c :: s.ahead } := hs.same rfl
    exact gainsInRange_retryExchange _ (hs.steps c) hfault hnoted
  · exact hs
  · exact hs

theorem gainsInRange_windowClose (hs : GainsInRange s) : GainsInRange (windowClose s) := by
  have hnoted : GainsInRange { s with ahead := .window :: s.ahead } := hs.same rfl
  unfold windowClose
  split
  exacts [gainsInRange_closeWindow hnoted, hs]

theorem gainsInRange_batchWrite (hs : GainsInRange s) : GainsInRange (batchWrite s) := by
  unfold batchWrite
  (repeat' split)
  exacts [gainsInRange_writeBatch _ _ hs, hs, hs, hs]

theorem gainsInRange_batchTimeout (hs : GainsInRange s) : GainsInRange (batchTimeout s) := by
  unfold batchTimeout
  (repeat' split) <;> exact hs.same rfl

theorem exec_gainsInRange (c : Instr) {s t : State} (hs : GainsInRange s) (h : exec c s = .next t) :
    GainsInRange t := by
  have next {u : State} (h : Host.Outcome.next (φ := Fault) (ρ := Refusal) u = .next t) (hu : GainsInRange u) :
      GainsInRange t := Host.Outcome.next.inj h ▸ hu
  cases hc : leavesLawRecords c with
  | true => exact gainsInRange_of_lawRecords (exec_lawRecords hc h) hs
  | false =>
    cases c with
    | powerOn i => exact next h (gainsInRange_beginStart i s)
    | resetLine i => exact next h (gainsInRange_beginStart i s)
    | resetLineHeld => exact next h (gainsInRange_holdReset hs)
    | startUpEnd mg ag lines i => exact next h (gainsInRange_startUpEnd mg ag lines i hs)
    | blockStart i => exact next h (gainsInRange_blockStart i hs)
    | presence e => exact next h (gainsInRange_hear (fun _ => id) hs)
    | reply e => exact next h (gainsInRange_hear (fun _ => id) hs)
    | channelState e => exact next h (gainsInRange_hear (fun _ => id) hs)
    | boxState e => exact next h (gainsInRange_hear (fun _ => id) hs)
    | invalidMessage st kind =>
      exact next h (gainsInRange_hear (fun _ ht => gainsInRange_of_lawRecords (by rfl) ht) hs)
    | linkCandidate e g fl ca lo ba =>
      exact next h (gainsInRange_hear (fun _ => gainsInRange_takeLink e.source g fl ca lo ba) hs)
    | claim e f => exact next h (gainsInRange_request (fun _ => gainsInRange_takeClaim e f s.feeds) hs)
    | release e f => exact next h (gainsInRange_request (fun _ => gainsInRange_takeRelease e f) hs)
    | setDemand e f a b fl g =>
      exact next h (gainsInRange_request (fun _ => gainsInRange_takeSetDemand e f a b fl g) hs)
    | clearDemand e f a b => exact next h (gainsInRange_request (fun _ => gainsInRange_takeClearDemand e f a b) hs)
    | lock e f a b m => exact next h (gainsInRange_request (fun _ => gainsInRange_takeLock e f a b m) hs)
    | unlock e f a b => exact next h (gainsInRange_request (fun _ => gainsInRange_takeUnlock e f a b) hs)
    | headroomReset e f a b =>
      exact next h (gainsInRange_request (fun _ => gainsInRange_takeHeadroomReset e f a b) hs)
    | tone e f a b st => exact next h (gainsInRange_request (fun _ => gainsInRange_takeTone e f a b st) hs)
    | batchOpen e f n => exact next h (gainsInRange_request (fun _ => gainsInRange_takeOpen e f n) hs)
    | batchEntry e f c fl g => exact next h (gainsInRange_request (fun _ => gainsInRange_takeEntry e f c fl g) hs)
    | batchCommit e => exact next h (gainsInRange_request (fun _ => gainsInRange_takeCommit e) hs)
    | batchCancel e => exact next h (gainsInRange_request (fun _ => gainsInRange_takeCancel e) hs)
    | boxReset e rb => exact next h (gainsInRange_request (fun _ => gainsInRange_takeBoxReset e rb) hs)
    | batchWrite => exact next h (gainsInRange_batchWrite hs)
    | batchTimeout => exact next h (gainsInRange_batchTimeout hs)
    | samplePeriod frame => exact next h (gainsInRange_samplePeriod frame hs)
    | compensation c => exact next h (gainsInRange_compensation c hs)
    | retryWrite c code => exact next h (gainsInRange_retryWrite c code hs)
    | windowClose => exact next h (gainsInRange_windowClose hs)
    | stationLoss st => exact next h (gainsInRange_stationLoss st hs)
    | linkEntryExpiry g source =>
      exact next h (gainsInRange_whileRunning (gainsInRange_removeLinks _ hs) hs)
    | _ => exact absurd hc nofun

/-- Settles O8: a step on an empty queue idles, and any other runs one command. -/
theorem stepKeepsGainLaw : Obligations.StepKeepsGainLaw := by
  intro s t hs h
  rw [gainLaw_iff] at hs ⊢
  unfold step at h
  split at h
  · exact Host.Outcome.next.inj h ▸ hs
  · next c rest _ =>
    have hrest : GainsInRange { s with pending := rest } := hs.same rfl
    exact exec_gainsInRange c hrest h

end Sys2Proof.Proofs
end

section
/-! The hold law is kept (R31, R48, R152, R159): it speaks of the entries, of the bindings and of the batch record. An
entry is written on a feed BOUND to its writer, a release takes its feed's entries, and a batch goes with the binding
that it stands on. -/

namespace Sys2Proof.Proofs

open Sys2Proof.Machine Sys2Proof.Laws

variable {s : State}

/-! ## The law, part by part -/

/-- The batch record is in order: it stands on a feed BOUND to its owner, and is within its counts (R152, R159). -/
def BatchFits (s : State) : BatchRecord → Prop
  | .idle => True
  | .loading b age =>
    (holds s b.feed b.owner = true ∧ 1 ≤ b.count ∧ b.count ≤ 64) ∧ b.items.length ≤ b.count ∧ age < 100
  | .committing b => (holds s b.feed b.owner = true ∧ 1 ≤ b.count ∧ b.count ≤ 64) ∧ b.items.length = b.count

/-- The hold law, part by part. -/
structure Held (s : State) : Prop where
  entries : ∀ c f, (s.entry c f).isSome = true → (s.feeds.get f).binding.hasHolder = true
  batch : BatchFits s s.batch.record

theorem holdLaw_iff : HoldLaw s ↔ Held s := by
  constructor
  · rintro ⟨hentries, hbody, hfull, hage⟩
    refine ⟨hentries, ?_⟩
    cases hr : s.batch.record with
    | idle => trivial
    | loading b age =>
      obtain ⟨hholds, hone, hmax, hitems⟩ := hbody b (by rw [hr]; rfl)
      exact ⟨⟨hholds, hone, hmax⟩, hitems, hage b age hr⟩
    | committing b =>
      obtain ⟨hholds, hone, hmax, -⟩ := hbody b (by rw [hr]; rfl)
      exact ⟨⟨hholds, hone, hmax⟩, hfull b hr⟩
  · rintro ⟨hentries, hfits⟩
    refine ⟨hentries, fun b hb => ?_, fun b hb => ?_, fun b age hb => ?_⟩
    · cases hr : s.batch.record <;> rw [hr] at hb hfits <;> cases hb
      · obtain ⟨⟨hholds, hone, hmax⟩, hitems, -⟩ := hfits
        exact ⟨hholds, hone, hmax, hitems⟩
      · obtain ⟨⟨hholds, hone, hmax⟩, hitems⟩ := hfits
        exact ⟨hholds, hone, hmax, hitems.le⟩
    · rw [hb] at hfits
      exact hfits.2
    · rw [hb] at hfits
      exact hfits.2.2

theorem holds_iff {f : Feed} {st : Station} :
    holds s f st = true ↔ ∃ since, (s.feeds.get f).binding = .bound st since := by
  refine ⟨binding_of_holds, fun ⟨since, h⟩ => ?_⟩
  rw [holds, h]
  exact beq_self_eq_true st

theorem hasHolder_of_holds {f : Feed} {st : Station} (h : holds s f st = true) :
    (s.feeds.get f).binding.hasHolder = true := by
  obtain ⟨since, hb⟩ := holds_iff.mp h
  rw [hb]
  rfl

/-- A standing batch asks of the feeds only that its own is BOUND to its owner. -/
theorem batchFits_of_holds {t : State} {r : BatchRecord} (h : BatchFits s r)
    (hkept : ∀ b, r.body = some b → holds s b.feed b.owner = true → holds t b.feed b.owner = true) :
    BatchFits t r := by
  cases r with
  | idle => trivial
  | loading b age =>
    obtain ⟨⟨hholds, hcount⟩, hrest⟩ := h
    exact ⟨⟨hkept b rfl hholds, hcount⟩, hrest⟩
  | committing b =>
    obtain ⟨⟨hholds, hcount⟩, hrest⟩ := h
    exact ⟨⟨hkept b rfl hholds, hcount⟩, hrest⟩

theorem body_eq_none {r : BatchRecord} : r.body = none ↔ r = .idle := by cases r <;> simp [BatchRecord.body]

/-- R160: after a discard the batch is in order where the batches left standing keep their feeds. -/
theorem batchFits_discarded {t : State} {p : BatchBody → Prop} (hd : DiscardedWhere p s t)
    (h : BatchFits s s.batch.record)
    (hkept : ∀ b, ¬ p b → holds s b.feed b.owner = true → holds t b.feed b.owner = true) :
    BatchFits t t.batch.record := by
  obtain ⟨hdropped, hstands⟩ := hd
  by_cases hp : ∃ b, s.batch.record.body = some b ∧ p b
  · obtain ⟨b, hb, hpb⟩ := hp
    rw [(hdropped b hb hpb).1]
    trivial
  · have hno : ∀ b, s.batch.record.body = some b → ¬ p b := fun b hb hpb => hp ⟨b, hb, hpb⟩
    rw [hstands hno]
    exact batchFits_of_holds h fun b hb => hkept b (hno b hb)

/-- The entries, the bindings and the batch record: all that the law speaks of. -/
def holdRecords (s : State) := (shown s, bindings s, s.batch.record)

theorem entry_eq_shown (s : State) (c : Chan) (f : Feed) : s.entry c f = ((shown s).get c).1.get f := by
  rw [shown_get]
  rfl

theorem binding_eq (s : State) (f : Feed) : (s.feeds.get f).binding = (bindings s).get f := by
  rw [bindings, get_map]

theorem holds_congr {t : State} (h : bindings t = bindings s) (f : Feed) (st : Station) :
    holds t f st = holds s f st := by
  rw [holds, holds, binding_eq, binding_eq, h]

/-- Where all three are those that stood, the law stands. -/
theorem Held.same {t : State} (hs : Held s) (h : holdRecords t = holdRecords s) : Held t := by
  simp only [holdRecords, Prod.mk.injEq] at h
  obtain ⟨hshown, hbindings, hrecord⟩ := h
  constructor
  · intro c f
    rw [entry_eq_shown, hshown, ← entry_eq_shown, binding_eq, hbindings, ← binding_eq]
    exact hs.entries c f
  · rw [hrecord]
    exact batchFits_of_holds hs.batch fun b _ => (holds_congr hbindings b.feed b.owner).trans

theorem held_of_lawRecords {t : State} (h : lawRecords t = lawRecords s) (hs : Held s) : Held t := by
  simp only [lawRecords, Prod.mk.injEq] at h
  obtain ⟨-, -, -, -, -, hshown, hbindings, hrecord⟩ := h
  exact hs.same (by rw [holdRecords, hshown, hbindings, hrecord]; rfl)

/-- A change of bindings that leaves every holder in place, BOUND or ORPHANED, leaves the entries in order. -/
theorem Held.rebound {t : State} (hs : Held s) (hshown : shown t = shown s)
    (hholder : ∀ f, (s.feeds.get f).binding.hasHolder = true → (t.feeds.get f).binding.hasHolder = true)
    (hbatch : BatchFits t t.batch.record) : Held t where
  entries c f := by
    rw [entry_eq_shown, hshown, ← entry_eq_shown]
    exact fun h => hholder f (hs.entries c f h)
  batch := hbatch

/-! ## Entries -/

/-- R48: an entry is put only on a feed with a holder. -/
theorem held_putEntry {f : Feed} {o : Option Entry} (c : Chan)
    (ho : o.isSome = true → (s.feeds.get f).binding.hasHolder = true) (hs : Held s) : Held (putEntry f o c s) := by
  have hput : Held (withEntry f o c s) := by
    refine ⟨fun d g => ?_, batchFits_of_holds hs.batch fun _ _ => id⟩
    have hold := hs.entries d g
    rw [State.entry] at hold ⊢
    rw [withEntry, get_set]
    split
    · next hdc =>
      subst hdc
      dsimp only
      rw [get_set]
      split
      · next hgf => exact hgf ▸ ho
      · exact hold
    · exact hold
  exact hput.same (by simp [holdRecords, shown, bindings, putEntry_demand, withEntry])

theorem held_removeEntry (f : Feed) (c : Chan) (hs : Held s) : Held (removeEntry f c s) := by
  unfold removeEntry
  split
  exacts [held_putEntry c nofun hs, hs]

/-- Writes to a feed with a holder, one after the other. -/
theorem held_writes {α : Type} {l : List α} {f : Feed} {g : α → State → State}
    (hg : ∀ a t, ∃ w blk c, g a t = writeChannel f w blk c t) (hf : (s.feeds.get f).binding.hasHolder = true)
    (hs : Held s) : Held (forEach l g s) := by
  have hboth : Held (forEach l g s) ∧ (forEach l g s).feeds = s.feeds := by
    refine forEach_induct (P := fun t => Held t ∧ t.feeds = s.feeds) (fun a _ t ht => ?_) ⟨hs, rfl⟩
    obtain ⟨w, blk, c, hw⟩ := hg a t
    obtain ⟨hheld, hfeeds⟩ := ht
    rw [hw]
    refine ⟨held_putEntry c (fun _ => ?_) hheld, by simp [hfeeds]⟩
    rw [hfeeds]
    exact hf
  exact hboth.1

theorem held_forEach {α : Type} {l : List α} {g : α → State → State} (hg : ∀ a t, Held t → Held (g a t))
    (hs : Held s) : Held (forEach l g s) :=
  forEach_induct (fun a _ t => hg a t) hs

/-! ## The batch record -/

theorem held_place (st : Station) (a : Answer) (hs : Held s) : Held (place st a s) := hs.same rfl

theorem held_answer (e : Envelope) (kind : Byte) (code : OutcomeCode) (hs : Held s) : Held (answer e kind code s) :=
  hs.same rfl

/-- The batch record is replaced by one that is in order. -/
theorem held_setBatch {r : BatchRecord} (hr : BatchFits s r) (hs : Held s) : Held (setBatch r s) :=
  ⟨hs.entries, batchFits_of_holds hr fun _ _ => id⟩

theorem held_dropBatch (f : BatchFlag) (hs : Held s) : Held (dropBatch f s) :=
  (held_setBatch (r := .idle) trivial hs).same rfl

theorem held_noticeBatch (f : Feed) (st : Station) (hs : Held s) : Held (noticeBatch f st s) := by
  unfold noticeBatch
  (repeat' split)
  exacts [held_dropBatch .botched hs, hs, hs, hs]

/-- R60, R157: the batch is written to the feed that its owner holds. -/
theorem held_writeBatch {b : BatchBody} (blk : Word16) (hb : holds s b.feed b.owner = true) (hs : Held s) :
    Held (writeBatch b blk s) :=
  held_dropBatch .committed (held_writes (fun i _ => ⟨_, _, i.chan, rfl⟩) (hasHolder_of_holds hb) hs)

theorem holds_of_committing (hs : Held s) {b : BatchBody} (hr : s.batch.record = .committing b) :
    holds s b.feed b.owner = true := by
  have hfits := hs.batch
  rw [hr] at hfits
  exact hfits.1.1

theorem held_timeOut (b : BatchBody) (hs : Held s) : Held (timeOut b s) :=
  held_place b.owner _ (held_dropBatch .timedOut hs)

/-- R159: an idle age below 100 is counted on, and at 100 the batch goes. -/
theorem held_batchAtBlock (hs : Held s) : Held (batchAtBlock s) := by
  have hfits := hs.batch
  unfold batchAtBlock
  (repeat' split)
  · exact hs
  · next b age hr hyoung =>
    rw [hr] at hfits
    obtain ⟨hbody, hitems, -⟩ := hfits
    exact (held_setBatch (r := .loading b (age + 1)) ⟨hbody, hitems, hyoung⟩ hs).same rfl
  · exact held_timeOut _ hs
  · next hr => exact held_writeBatch _ (holds_of_committing hs hr) hs

/-! ## Bindings -/

/-- A change of one binding that keeps a holder, on a feed that no batch stands on (R34). -/
theorem held_bindFeed {f : Feed} {b : Binding} (hb : b.hasHolder = true) (hno : ∀ st, holds s f st = false)
    (hs : Held s) : Held (bindFeed f b s) := by
  have hother {g : Feed} (hg : g ≠ f) : (bindFeed f b s).feeds.get g = s.feeds.get g := by
    rw [bindFeed, setFeeds_feeds, get_modify, if_neg hg]
  refine hs.rebound (shown_of_demand (by simp)) (fun g => ?_) ?_
  · by_cases hg : g = f
    · subst hg
      rw [bindFeed, setFeeds_feeds, get_modify, if_pos rfl]
      exact fun _ => hb
    · rw [hother hg]
      exact id
  · rw [show (bindFeed f b s).batch = s.batch by simp]
    refine batchFits_of_holds hs.batch fun x _ hx => ?_
    have hne : x.feed ≠ f := fun e => absurd (e ▸ hx) (by simp [hno])
    rw [holds, hother hne]
    exact hx

theorem not_holds_of_binding {f : Feed} (h : ∀ st since, (s.feeds.get f).binding ≠ .bound st since) (st : Station) :
    holds s f st = false := by
  refine Bool.eq_false_iff.mpr fun hh => ?_
  obtain ⟨since, hb⟩ := holds_iff.mp hh
  exact h st since hb

/-- R34: a claim binds a feed that is FREE or ORPHANED, and leaves one that is BOUND. -/
theorem held_takeClaim (e : Envelope) (feed : Byte) (before : Tab FeedRec 6) (hs : Held s) :
    Held (takeClaim e feed before s) := by
  unfold takeClaim
  (repeat' split)
  · exact held_answer e 2 .noFeed hs
  · exact held_answer e 2 .noFeed hs
  · next hfree =>
    exact held_answer e 2 .done (held_bindFeed rfl (not_holds_of_binding fun _ _ => by rw [hfree]; exact nofun) hs)
  · exact held_place e.source _ hs
  · exact held_place e.source _ hs
  · next horphaned _ =>
    exact held_place e.source _ (held_bindFeed rfl (not_holds_of_binding fun _ _ => by rw [horphaned]; exact nofun) hs)
  · next horphaned _ =>
    exact held_place e.source _ (held_bindFeed rfl (not_holds_of_binding fun _ _ => by rw [horphaned]; exact nofun) hs)

/-- R36: a resumed feed keeps its holder. -/
theorem resume_hasHolder (st : Station) (r : FeedRec) : (resume st r).binding.hasHolder = r.binding.hasHolder := by
  unfold resume
  split
  · next hb =>
    split
    · rw [hb]
      rfl
    · rfl
  · rfl

theorem resume_of_bound {st holder : Station} {since : Word16} {r : FeedRec} (h : r.binding = .bound holder since) :
    resume st r = r := by
  unfold resume
  rw [h]

/-- R41: an orphaned feed keeps its holder. -/
theorem orphan_hasHolder (p : Station → Bool) (r : FeedRec) :
    (orphan p r).binding.hasHolder = r.binding.hasHolder := by
  unfold orphan
  split
  · next hb =>
    split
    · rw [hb]
      rfl
    · rfl
  · rfl

theorem orphan_of_spared {p : Station → Bool} {holder : Station} {since : Word16} {r : FeedRec}
    (h : r.binding = .bound holder since) (hp : p holder = false) : orphan p r = r := by
  unfold orphan
  rw [h]
  exact if_neg (by simp [hp])

/-- R13, R36: a hearing changes no binding but those that it resumes. -/
theorem held_recordHearing (st : Station) (role : Role) (hs : Held s) : Held (recordHearing st role s) := by
  have hlisted : Held { s with link.stations := s.link.stations.set st (.present role 0) } := hs.same rfl
  have hresumed : Held (setFeeds (s.feeds.map (resume st))
      { s with link.stations := s.link.stations.set st (.present role 0) }) := by
    refine hlisted.rebound (shown_of_demand (by simp)) (fun f => ?_) ?_
    · rw [setFeeds_feeds, get_map, resume_hasHolder]
      exact id
    · rw [setFeeds_batch]
      refine batchFits_of_holds hlisted.batch fun b _ hb => ?_
      obtain ⟨since, hbound⟩ := holds_iff.mp hb
      refine holds_iff.mpr ⟨since, ?_⟩
      rw [setFeeds_feeds, get_map, resume_of_bound hbound]
      exact hbound
  unfold recordHearing
  dsimp only
  split
  exacts [hresumed, hresumed, hlisted]

theorem releaseFeed_entry (f : Feed) (s : State) (c : Chan) (g : Feed) :
    (releaseFeed f s).entry c g = if g = f then none else s.entry c g := by
  have hdemand := congrArg ChanView.demand ((chanView_releaseFeed f c s).trans (viewReleased_eq f _))
  generalize releaseFeed f s = t at hdemand ⊢
  exact (congrArg (fun r : DemandRec => r.entries.get g) hdemand).trans (get_set _ _ _ _)

/-- R39, R40, R59, R160: a release takes the feed's entries and its batch with the binding. -/
theorem held_releaseFeed (f : Feed) (hs : Held s) : Held (releaseFeed f s) := by
  have hother {g : Feed} (hg : g ≠ f) : (releaseFeed f s).feeds.get g = s.feeds.get g := by
    rw [releaseFeed_feeds, get_set_of_ne _ _ hg]
  have hdiscards := releaseFeed_discards f s
  have hentry := releaseFeed_entry f s
  generalize releaseFeed f s = t at hother hdiscards hentry ⊢
  refine ⟨fun c g => ?_, batchFits_discarded hdiscards hs.batch fun b hb hholds => ?_⟩
  · rw [hentry]
    split
    · exact nofun
    · next hg =>
      rw [hother hg]
      exact hs.entries c g
  · rw [holds, hother hb]
    exact hholds

/-- R14, R41, R160: the loss of a desk takes the batch that it owns. -/
theorem held_loseStation (st : Station) (role : Role) (hs : Held s) : Held (loseStation st role s) := by
  cases role with
  | box =>
    have hshown := shown_loseStation st .box s
    exact hs.same (by rw [holdRecords, hshown]; simp [holdRecords, bindings, loseStation])
  | desk =>
    refine hs.rebound (shown_loseStation st .desk s) (fun f => ?_)
      (batchFits_discarded (loseStation_desk_discards st s) hs.batch fun b hb hholds => ?_)
    · rw [loseStation_desk_feeds, get_map, orphan_hasHolder]
      exact id
    · obtain ⟨since, hbound⟩ := holds_iff.mp hholds
      refine holds_iff.mpr ⟨since, ?_⟩
      rw [loseStation_desk_feeds, get_map, orphan_of_spared hbound (by simpa using hb)]
      exact hbound

theorem held_ageStation (st : Station) (hs : Held s) : Held (ageStation st s) := by
  unfold ageStation
  (repeat' split)
  exacts [hs.same rfl, held_loseStation st _ hs, hs, hs, hs]

theorem discardBatch_all (s : State) : (discardBatch (fun _ => true) s).batch.record = .idle := by
  obtain ⟨hdropped, hstands⟩ := discardBatch_discards (fun _ => true) s
  cases hb : s.batch.record.body with
  | some b => rw [(hdropped b hb rfl).1]
  | none =>
    rw [hstands fun b hb' => absurd (hb.symm.trans hb') nofun]
    exact body_eq_none.mp hb

theorem resetBlocks_batch (rb : Readback) (s : State) : (resetBlocks rb s).batch.record = .idle := by
  unfold resetBlocks
  dsimp only
  rw [discardBatch_all]

/-- R177: a box reset orphans every feed and discards any batch. -/
theorem held_resetBlocks (rb : Readback) (hs : Held s) : Held (resetBlocks rb s) := by
  refine hs.rebound (shown_resetBlocks rb s) (fun f => ?_) ?_
  · have hfeeds : (resetBlocks rb s).feeds = s.feeds.map (orphan fun _ => true) := by simp [resetBlocks]
    rw [hfeeds, get_map, orphan_hasHolder]
    exact id
  · rw [resetBlocks_batch]
    trivial

/-! ## Requests -/

theorem held_hear {st : Station} {role : Role} {k : State → State} (hk : ∀ t, Held t → Held (k t)) (hs : Held s) :
    Held (hear st role k s) := by
  have hended : Held (messageEnded s) := hs.same rfl
  unfold hear
  (repeat' split)
  exacts [hended.same rfl, hk _ (held_recordHearing st role hended), hs]

theorem held_request {e : Envelope} {k : State → State} (hk : ∀ t, Held t → Held (k t)) (hs : Held s) :
    Held (request e k s) :=
  held_hear (fun t ht => by split; exacts [hk t ht, ht]) hs

/-- Past the holder check the feed is BOUND to the source (R38). -/
theorem held_withHolder {e : Envelope} {kind feed : Byte} {k : Feed → State → State}
    (hk : ∀ f, holds s f e.source = true → Held (k f s)) (hs : Held s) : Held (withHolder e kind feed k s) := by
  unfold withHolder
  (repeat' split)
  · next hh => exact hk _ hh
  all_goals exact held_answer e kind .notHolder hs

theorem held_takeSetDemand (e : Envelope) (feed first last flags gain : Byte) (hs : Held s) :
    Held (takeSetDemand e feed first last flags gain s) := by
  refine held_withHolder (fun f hf => ?_) hs
  (repeat' split)
  · exact held_noticeBatch f e.source (held_place e.source _
      (held_writes (fun c _ => ⟨_, _, c, rfl⟩) (hasHolder_of_holds hf) hs))
  all_goals exact held_answer e 4 .badRange hs

theorem held_takeClearDemand (e : Envelope) (feed first last : Byte) (hs : Held s) :
    Held (takeClearDemand e feed first last s) := by
  refine held_withHolder (fun f _ => ?_) hs
  split
  · exact held_noticeBatch f e.source (held_answer e 5 .done (held_forEach (fun c _ => held_removeEntry f c) hs))
  · exact held_answer e 5 .badRange hs

theorem held_setLock (c : Chan) (l : Lock) (hs : Held s) : Held (setLock c l s) :=
  hs.same (by rw [holdRecords, shown_setLock]; simp [holdRecords, bindings])

theorem held_lockPass (e : Envelope) (kind : Byte) (f : Feed) (unlocking : Bool) (cs : List Chan)
    {k : Chan → State → State} (hk : ∀ c t, Held t → Held (k c t)) (hs : Held s) :
    Held (lockPass e kind f unlocking cs k s) := by
  unfold lockPass
  split
  · exact held_place e.source _ hs
  · exact held_answer e kind .done (held_forEach hk hs)

theorem held_takeLock (e : Envelope) (feed first last mode : Byte) (hs : Held s) :
    Held (takeLock e feed first last mode s) := by
  refine held_withHolder (fun f _ => ?_) hs
  (repeat' split)
  · exact held_lockPass e 6 f false _ (fun c _ => held_setLock c _) hs
  all_goals exact held_answer e 6 .badRange hs

theorem held_takeUnlock (e : Envelope) (feed first last : Byte) (hs : Held s) :
    Held (takeUnlock e feed first last s) := by
  refine held_withHolder (fun f _ => ?_) hs
  split
  · exact held_lockPass e 7 f true _ (fun c _ => held_setLock c _) hs
  · exact held_answer e 7 .badRange hs

theorem held_takeHeadroomReset (e : Envelope) (feed first last : Byte) (hs : Held s) :
    Held (takeHeadroomReset e feed first last s) := by
  have hclear (c : Chan) (t : State) (ht : Held t) : Held (clearBackoff c t) :=
    ht.same (by simp [holdRecords, bindings])
  refine held_withHolder (fun f _ => ?_) hs
  split
  · exact held_answer e 8 .done (held_forEach hclear hs)
  · exact held_answer e 8 .badRange hs

theorem held_takeTone (e : Envelope) (feed first last state : Byte) (hs : Held s) :
    Held (takeTone e feed first last state s) :=
  held_withHolder (fun f _ => by (repeat' split) <;> exact hs.same rfl) hs

theorem held_takeLink (source : Station) (group flags candidate locked backoff : Byte) (hs : Held s) :
    Held (takeLink source group flags candidate locked backoff s) := by
  unfold takeLink
  (repeat' split)
  · exact hs.same (by simp [holdRecords, bindings])
  all_goals exact hs

/-- R153: a batch is opened by the holder of its feed, with a count from 1 to 64. -/
theorem held_takeOpen (e : Envelope) (feed count : Byte) (hs : Held s) : Held (takeOpen e feed count s) := by
  refine held_withHolder (fun f hf => ?_) hs
  split
  · next hcount =>
    have hopen : Held (openBatch e f count s) :=
      held_answer e 10 .done (held_setBatch ⟨⟨hf, hcount⟩, Nat.zero_le _, by decide⟩ hs)
    unfold decideOpen
    (repeat' split)
    exacts [hopen, hopen, held_answer e 10 .busy hs, held_answer e 10 .busy hs]
  · exact held_answer e 10 .badRange hs

/-- R154: an entry is taken only while the batch has room. -/
theorem room_of_itemOf {b : BatchBody} {feed chan flags gain : Byte} {i : BatchItem}
    (h : itemOf b feed chan flags gain = some i) : b.items.length < b.count := by
  unfold itemOf at h
  split at h
  · next hfits => exact hfits.1
  · cases h

theorem held_takeEntry (e : Envelope) (feed chan flags gain : Byte) (hs : Held s) :
    Held (takeEntry e feed chan flags gain s) := by
  have hfits := hs.batch
  have hbotched : Held (botchEntry e s) := held_answer e 11 .sequence (held_dropBatch .botched hs)
  unfold takeEntry
  (repeat' split)
  · exact held_answer e 11 .noBatch hs
  · next b age hr _ _ i hi =>
    rw [hr] at hfits
    obtain ⟨hbody, -, -⟩ := hfits
    have hroom : (b.items ++ [i]).length ≤ b.count := by simpa using room_of_itemOf hi
    exact (held_setBatch (r := .loading { b with items := b.items ++ [i] } 0) ⟨hbody, hroom, by decide⟩ hs).same rfl
  · exact hbotched
  · exact held_answer e 11 .notOwner hs
  · exact hbotched
  · exact held_answer e 11 .notOwner hs

/-- R156: a batch is committed when it holds its declared count. -/
theorem held_takeCommit (e : Envelope) (hs : Held s) : Held (takeCommit e s) := by
  have hfits := hs.batch
  unfold takeCommit
  (repeat' split)
  · exact held_answer e 12 .noBatch hs
  · next b age hr _ hfull =>
    rw [hr] at hfits
    obtain ⟨hbody, -, -⟩ := hfits
    exact held_place e.source _ (held_setBatch ⟨hbody, hfull⟩ hs)
  · exact held_answer e 12 .shortBatch (held_dropBatch .botched hs)
  · exact held_answer e 12 .notOwner hs
  · exact held_place e.source _ hs
  · exact held_answer e 12 .notOwner hs

theorem held_takeCancel (e : Envelope) (hs : Held s) : Held (takeCancel e s) := by
  unfold takeCancel
  (repeat' split)
  · exact held_answer e 13 .noBatch hs
  · exact held_answer e 13 .done (held_setBatch (r := .idle) trivial hs)
  · exact held_answer e 13 .notOwner hs

theorem held_takeBoxReset (e : Envelope) (rb : Readback) (hs : Held s) : Held (takeBoxReset e rb s) := by
  unfold takeBoxReset
  split
  · exact held_answer e 14 .done (held_resetBlocks rb hs)
  · exact held_answer e 14 .notHolder hs

/-! ## Block starts, starts and the commands of the part itself -/

theorem held_stationsAndBatch (hs : Held s) : Held (stationsAndBatch s) := by
  have hages {t : State} : Held t → Held (ageStations t) := held_forEach fun st _ => held_ageStation st
  unfold stationsAndBatch
  dsimp only
  split
  · exact held_batchAtBlock (hages (hs.same rfl))
  · exact hages (held_batchAtBlock (hs.same rfl))

/-- R50: the view takes the entries, which stand. -/
theorem held_presentView (hs : Held s) : Held (presentView s) := by
  refine ⟨fun c f => ?_, batchFits_of_holds hs.batch fun _ _ => id⟩
  rw [State.entry, presentView, get_map]
  exact hs.entries c f

theorem held_blockTasks (i : BlockInputs) (hs : Held s) : Held (blockTasks i s) := by
  have hdriven : Held (driveMark i.markLine s) := hs.same (by simp [holdRecords, shown, bindings])
  have haged : Held (ageLinks (stationsAndBatch (driveMark i.markLine s))) :=
    (held_stationsAndBatch hdriven).same (by simp [holdRecords, bindings])
  have hresolved : Held (resolveAll (presentView (ageLinks (stationsAndBatch (driveMark i.markLine s))))) :=
    (held_presentView haged).same (by simp [holdRecords, bindings])
  unfold blockTasks
  exact hresolved.same (by simp [holdRecords, shown, bindings])

theorem held_blockStart (i : BlockInputs) (hs : Held s) : Held (blockStart i s) := by
  have hended : Held (endBlock s) := hs.same (by simp [holdRecords, bindings])
  have hbegun : Held (beginBlock (endBlock s)) := hended.same (by simp [holdRecords, shown, bindings])
  unfold blockStart whileRunning blockWork
  split
  · exact (held_blockTasks (inputsAt i s.timing) hbegun).same (by simp [holdRecords, shown, bindings])
  · exact hs

/-- R33: when start-up ends the lines are read, and the bindings stand. -/
theorem held_startRunning (mainGood auxGood : Bool) (lines : Tab Bool 6) (hs : Held s) :
    Held (startRunning mainGood auxGood lines s) := by
  have hbindings : bindings (startRunning mainGood auxGood lines s) = bindings s := by
    ext f
    rw [← binding_eq, ← binding_eq, startRunning, ask_feeds, readLines, get_gen]
  exact hs.same (by rw [holdRecords, hbindings]; rfl)

theorem held_clearAhead (hs : Held s) : Held (clearAhead s) := hs.same rfl

theorem held_startUpEnd (mainGood auxGood : Bool) (lines : Tab Bool 6) (i : BlockInputs) (hs : Held s) :
    Held (startUpEnd mainGood auxGood lines i s) := by
  unfold startUpEnd
  split
  · exact held_clearAhead (held_blockTasks i (held_startRunning mainGood auxGood lines hs))
  · exact hs

/-- R61, R152: a start leaves no entry and no batch. -/
theorem held_start {t : State} (hdemand : t.demand = Tab.const .start) (hbatch : t.batch.record = .idle) : Held t where
  entries c f := by
    have hnone : DemandRec.start.entries.get f = none := get_const _ f
    rw [State.entry, hdemand, get_const, hnone]
    exact nofun
  batch := by
    rw [hbatch]
    trivial

theorem held_whileRunning {f : State → State} (hf : Held (f s)) (hs : Held s) : Held (whileRunning f s) := by
  unfold whileRunning
  split
  exacts [hf, hs]

theorem held_stationLoss (st : Station) (hs : Held s) : Held (stationLoss st s) :=
  held_whileRunning (by (repeat' split); exacts [hs, held_loseStation st _ hs, hs, hs, hs]) hs

theorem held_batchWrite (hs : Held s) : Held (batchWrite s) := by
  unfold batchWrite
  (repeat' split)
  · next hr => exact held_writeBatch _ (holds_of_committing hs hr) hs
  all_goals exact hs

theorem held_batchTimeout (hs : Held s) : Held (batchTimeout s) := by
  unfold batchTimeout
  (repeat' split)
  exacts [hs, held_timeOut _ hs, hs, hs, hs]

theorem held_samplePeriod (frame : Tab Sample 32) (hs : Held s) : Held (samplePeriod frame s) := by
  unfold samplePeriod
  split
  · exact hs.same (by simp [holdRecords, shown, bindings])
  · exact hs

theorem held_compensation (c : Chan) (hs : Held s) : Held (compensation c s) := by
  unfold compensation
  (repeat' split) <;> exact hs.same (by simp [holdRecords, shown, bindings])

theorem held_retryWrite (c : Chan) (code : Byte) (hs : Held s) : Held (retryWrite c code s) := by
  unfold retryWrite
  (repeat' split) <;> exact hs.same (by simp [holdRecords, shown, bindings])

theorem held_windowClose (hs : Held s) : Held (windowClose s) := by
  have hnoted : Held { s with ahead := .window :: s.ahead } := hs.same rfl
  unfold windowClose
  split
  · exact hnoted.same (by simp [holdRecords, bindings])
  · exact hs

/-! ## Every command -/

theorem exec_held (c : Instr) {s t : State} (hs : Held s) (h : exec c s = .next t) : Held t := by
  have next {u : State} (h : Host.Outcome.next (φ := Fault) (ρ := Refusal) u = .next t) (hu : Held u) : Held t :=
    Host.Outcome.next.inj h ▸ hu
  cases hc : leavesLawRecords c with
  | true => exact held_of_lawRecords (exec_lawRecords hc h) hs
  | false =>
    cases c with
    | powerOn i => exact next h (held_start rfl rfl)
    | resetLine i => exact next h (held_start rfl rfl)
    | resetLineHeld => exact next h (held_start rfl rfl)
    | startUpEnd mg ag lines i => exact next h (held_startUpEnd mg ag lines i hs)
    | blockStart i => exact next h (held_blockStart i hs)
    | presence e => exact next h (held_hear (fun _ => id) hs)
    | reply e => exact next h (held_hear (fun _ => id) hs)
    | channelState e => exact next h (held_hear (fun _ => id) hs)
    | boxState e => exact next h (held_hear (fun _ => id) hs)
    | invalidMessage st kind => exact next h (held_hear (fun _ ht => ht.same (by rfl)) hs)
    | linkCandidate e g fl ca lo ba => exact next h (held_hear (fun _ => held_takeLink e.source g fl ca lo ba) hs)
    | claim e f => exact next h (held_request (fun _ => held_takeClaim e f s.feeds) hs)
    | release e f =>
      exact next h (held_request (fun _ ht =>
        held_withHolder (fun f _ => held_answer e 3 .done (held_releaseFeed f ht)) ht) hs)
    | setDemand e f a b fl g => exact next h (held_request (fun _ => held_takeSetDemand e f a b fl g) hs)
    | clearDemand e f a b => exact next h (held_request (fun _ => held_takeClearDemand e f a b) hs)
    | lock e f a b m => exact next h (held_request (fun _ => held_takeLock e f a b m) hs)
    | unlock e f a b => exact next h (held_request (fun _ => held_takeUnlock e f a b) hs)
    | headroomReset e f a b => exact next h (held_request (fun _ => held_takeHeadroomReset e f a b) hs)
    | tone e f a b st => exact next h (held_request (fun _ => held_takeTone e f a b st) hs)
    | batchOpen e f n => exact next h (held_request (fun _ => held_takeOpen e f n) hs)
    | batchEntry e f c fl g => exact next h (held_request (fun _ => held_takeEntry e f c fl g) hs)
    | batchCommit e => exact next h (held_request (fun _ => held_takeCommit e) hs)
    | batchCancel e => exact next h (held_request (fun _ => held_takeCancel e) hs)
    | boxReset e rb => exact next h (held_request (fun _ => held_takeBoxReset e rb) hs)
    | batchWrite => exact next h (held_batchWrite hs)
    | batchTimeout => exact next h (held_batchTimeout hs)
    | samplePeriod frame => exact next h (held_samplePeriod frame hs)
    | compensation c => exact next h (held_compensation c hs)
    | retryWrite c code => exact next h (held_retryWrite c code hs)
    | windowClose => exact next h (held_windowClose hs)
    | stationLoss st => exact next h (held_stationLoss st hs)
    | linkEntryExpiry g source =>
      exact next h (held_whileRunning (hs.same (by simp [holdRecords, bindings])) hs)
    | _ => exact absurd hc nofun

/-- Settles O7: a step on an empty queue idles, and any other runs one command. -/
theorem stepKeepsHoldLaw : Obligations.StepKeepsHoldLaw := by
  intro s t hs h
  rw [holdLaw_iff] at hs ⊢
  unfold step at h
  split at h
  · exact Host.Outcome.next.inj h ▸ hs
  · next c rest _ =>
    have hrest : Held { s with pending := rest } := hs.same rfl
    exact exec_held c hrest h

end Sys2Proof.Proofs
end

section
/-! SET DEMAND and CLEAR DEMAND (R51 to R58, R134, R155, R165, R166): both put or take one feed's entry channel by
channel. What goes to each channel is settled by the records that stood, so that the rounds are told apart, and then the
outcome is placed and the batch that the source loads on the feed is botched. -/

namespace Sys2Proof.Proofs

open Sys2Proof.Machine Sys2Proof.Laws

variable {s t u : State}

/-! ## Rounds settled by the state before them -/

theorem forEach_congr {α : Type} {l : List α} {g g' : α → State → State} (h : ∀ a ∈ l, g a = g' a) (s : State) :
    forEach l g s = forEach l g' s := by
  induction l generalizing s with
  | nil => rfl
  | cons a l ih =>
    rw [forEach_cons, forEach_cons, h a List.mem_cons_self, ih fun b hb => h b (List.mem_cons_of_mem a hb)]

/-- Where what a round reads is left alone by the other rounds, the state before the rounds settles it for all. -/
theorem forEach_settled {α β : Type} {g : α → State → State} (p : α → State → β) (g' : α → β → State → State)
    (hg : ∀ a t, g a t = g' a (p a t) t) (hother : ∀ a b t, a ≠ b → p a (g b t) = p a t) {l : List α} (hl : l.Nodup)
    (s : State) : forEach l g s = forEach l (fun a => g' a (p a s)) s := by
  induction l generalizing s with
  | nil => rfl
  | cons b l ih =>
    obtain ⟨hb, hnd⟩ := List.nodup_cons.mp hl
    rw [forEach_cons, forEach_cons, ih hnd, hg b s]
    refine forEach_congr (fun a ha => ?_) _
    rw [← hg b s, hother a b s (ne_of_mem_of_not_mem ha hb)]

/-! ## Putting the entries of one feed -/

/-- What a request does to each channel: nothing, or its feed's entry put or taken. -/
abbrev Puts := Chan → Option (Option Entry)

def putOne (f : Feed) (o : Puts) (c : Chan) (s : State) : State :=
  match o c with
  | some x => putEntry f x c s
  | none => s

/-- What a round makes of its channel's records. -/
def viewPutOne (f : Feed) (x : Option (Option Entry)) (v : ChanView) : ChanView :=
  match x with
  | some x => viewPut f x v
  | none => v

/-- The keys that a round asks for (R52, R134, R165). -/
def PutAsks (f : Feed) (x : Option (Option Entry)) (c : Chan) (v : ChanView) (k : Key) : Prop :=
  (k = .channel c ∧ x.isSome = true)
    ∨ (k = .box ∧ v.phantom.state.powered ≠ (viewPutOne f x v).phantom.state.powered)

theorem chanView_putOne (f : Feed) (o : Puts) (c d : Chan) (s : State) :
    chanView (putOne f o c s) d = if d = c then viewPutOne f (o d) (chanView s d) else chanView s d := by
  unfold putOne
  split
  · next x hx =>
    rw [putEntry_acts]
    split
    · next hdc => rw [hdc, hx, viewPutOne]
    · rfl
  · next hx =>
    split
    · next hdc => rw [hdc, hx, viewPutOne]
    · rfl

theorem putOne_asks (f : Feed) (o : Puts) (c : Chan) (s : State) :
    KeysAsked (PutAsks f (o c) c (chanView s c)) s (putOne f o c s) := by
  unfold putOne
  split
  · next x hx => exact keysAsked_congr (putEntry_asks f x c s) (by simp [PutAsks, hx, viewPutOne])
  · next hx => exact keysAsked_congr (keysAsked_refl s) (by simp [PutAsks, hx, viewPutOne])

theorem chanView_puts (f : Feed) (o : Puts) {l : List Chan} (hl : l.Nodup) (c : Chan) (s : State) :
    chanView (forEach l (putOne f o) s) c
      = if c ∈ l then viewPutOne f (o c) (chanView s c) else chanView s c := by
  induction l generalizing s with
  | nil => rfl
  | cons b l ih =>
    obtain ⟨hb, hnd⟩ := List.nodup_cons.mp hl
    rw [forEach_cons, ih hnd, chanView_putOne]
    by_cases hcb : c = b
    · subst hcb
      simp [hb]
    · simp [hcb]

theorem puts_asks (f : Feed) (o : Puts) {l : List Chan} (hl : l.Nodup) (s : State) :
    KeysAsked (fun k => ∃ c ∈ l, PutAsks f (o c) c (chanView s c) k) s (forEach l (putOne f o) s) := by
  induction l generalizing s with
  | nil => exact keysAsked_congr (keysAsked_refl s) (by simp)
  | cons b l ih =>
    obtain ⟨hb, hnd⟩ := List.nodup_cons.mp hl
    refine keysAsked_trans (putOne_asks f o b s) (ih hnd (putOne f o b s)) fun k => ?_
    have hsame : (∃ c ∈ l, PutAsks f (o c) c (chanView (putOne f o b s) c) k)
        ↔ ∃ c ∈ l, PutAsks f (o c) c (chanView s c) k :=
      exists_congr fun c => and_congr_right fun hc => by
        rw [chanView_putOne, if_neg (ne_of_mem_of_not_mem hc hb)]
    rw [hsame]
    simp

/-! ## What a demand request leaves alone -/

/-- The state with the demand table, the phantom records, the batch and the report queue of another. -/
def demandOver (s t : State) : State := { s with
  demand := t.demand, phantom := { s.phantom with recs := t.phantom.recs }, batch := t.batch, report := t.report }

/-- Only the demand table, the phantom records, the batch and the report queue differ. -/
def DemandFrame (s t : State) : Prop := t = demandOver s t

theorem demandFrame_refl (s : State) : DemandFrame s s := rfl

theorem demandFrame_trans (h₁ : DemandFrame s t) (h₂ : DemandFrame t u) : DemandFrame s u :=
  calc u = demandOver t u := h₂
    _ = demandOver (demandOver s t) u := congrArg (demandOver · u) h₁
    _ = demandOver s u := rfl

theorem demandFrame_putEntry (f : Feed) (o : Option Entry) (c : Chan) (hs : NotSending s) :
    DemandFrame s (putEntry f o c s) := by
  have hlink := putEntry_link f o c hs
  have hkeeps := putEntry_keeps f o c s
  generalize putEntry f o c s = t at hlink hkeeps ⊢
  obtain ⟨hphase, hown, hconfig, -, -, -, htiming, hfeeds, hgain, hsteps, hpaths, hhead, hbank, hquiet, hoverload,
    hmain, haux, -, -, hahead, hseed, hpending⟩ := hkeeps
  exact state_ext hphase hown hconfig hlink htiming hfeeds rfl hgain hsteps hpaths hhead
    (phantom_ext rfl hbank hquiet hoverload hmain haux) rfl rfl hahead hseed hpending

/-- What every round leaves: the frame, the link controller, the outcomes and the batch. -/
structure PutsLeave (s t : State) : Prop where
  frame : DemandFrame s t
  link : t.link = s.link
  slots : t.report.slots = s.report.slots
  batch : t.batch = s.batch

theorem putsLeave_refl (s : State) : PutsLeave s s := ⟨demandFrame_refl s, rfl, rfl, rfl⟩

theorem putsLeave_trans (h₁ : PutsLeave s t) (h₂ : PutsLeave t u) : PutsLeave s u :=
  ⟨demandFrame_trans h₁.frame h₂.frame, h₂.link.trans h₁.link, h₂.slots.trans h₁.slots, h₂.batch.trans h₁.batch⟩

theorem putsLeave_putOne (f : Feed) (o : Puts) (c : Chan) (hs : NotSending s) : PutsLeave s (putOne f o c s) := by
  unfold putOne
  split
  · exact ⟨demandFrame_putEntry f _ c hs, putEntry_link f _ c hs, by simp, by simp⟩
  · exact putsLeave_refl s

theorem putsLeave_puts (f : Feed) (o : Puts) (l : List Chan) (hs : NotSending s) :
    PutsLeave s (forEach l (putOne f o) s) :=
  forEach_induct (P := PutsLeave s)
    (fun c _ _ ht => putsLeave_trans ht (putsLeave_putOne f o c (notSending_congr ht.link hs))) (putsLeave_refl s)

/-! ## The notice to the batch buffer -/

theorem noticeBatch_link (f : Feed) (st : Station) (hs : NotSending s) : (noticeBatch f st s).link = s.link := by
  unfold noticeBatch
  (repeat' split)
  · exact setFlag_link .botched (s := setBatch .idle s) hs
  all_goals rfl

theorem demandFrame_noticeBatch (f : Feed) (st : Station) (hs : NotSending s) :
    DemandFrame s (noticeBatch f st s) := by
  have hlink := noticeBatch_link f st hs
  refine state_ext ?_ ?_ ?_ hlink ?_ ?_ rfl ?_ ?_ ?_ ?_ ?_ rfl rfl ?_ ?_ ?_ <;> simp [demandOver]

/-- R155: the batch that the source loads on the feed is botched, and any other stands. -/
theorem noticeBatch_botches (f : Feed) (st : Station) (s : State) : BotchedBy st f s (noticeBatch f st s) := by
  unfold noticeBatch
  constructor
  · intro b age hb howner hfeed
    rw [hb]
    simp only [howner, hfeed, and_self, if_true]
    exact ⟨rfl, (mem_ask .box .box).mpr (.inr rfl)⟩
  · intro hno
    split
    · next b age hb => rw [if_neg (hno b age hb)]
    all_goals rfl

/-- R161: BOX is asked for where the batch changes. -/
theorem noticeBatch_asks (f : Feed) (st : Station) (s : State) :
    KeysAsked (fun k => k = .box ∧ (noticeBatch f st s).batch ≠ s.batch) s (noticeBatch f st s) := by
  unfold noticeBatch
  split
  · next b age hb =>
    split
    · have hchanged : (dropBatch .botched s).batch ≠ s.batch := fun h => by
        have hrecord := congrArg Batch.record h
        rw [dropBatch_record, hb] at hrecord
        cases hrecord
      exact keysAsked_trans (keysAsked_ask .box s) (keysAsked_ask .box _) (by simp [hchanged])
    · exact keysAsked_congr (keysAsked_refl s) (by simp)
  all_goals exact keysAsked_congr (keysAsked_refl s) (by simp)

theorem chanView_noticeBatch (f : Feed) (st : Station) (c : Chan) (s : State) :
    chanView (noticeBatch f st s) c = chanView s c := by simp [chanView]

theorem mem_poweredChannels {c : Chan} : c ∈ s.poweredChannels ↔ (s.phantom.recs.get c).state.powered = true := by
  simp [State.poweredChannels, mem_channels]

/-! ## The request as a whole -/

/-- The state in which a demand request is answered: the rounds are done, the outcome is placed, and the batch buffer
has its notice. -/
def demandDone (f : Feed) (st : Station) (o : Puts) (l : List Chan) (a : Answer) (s : State) : State :=
  noticeBatch f st (answered st a (forEach l (putOne f o) s))

/-- What a demand request makes of the state in which it is decided. -/
structure DemandDone (f : Feed) (st : Station) (o : Puts) (l : List Chan) (a : Answer) (s t : State) : Prop where
  frame : DemandFrame s t
  view : ∀ c, chanView t c = if c ∈ l then viewPutOne f (o c) (chanView s c) else chanView s c
  replied : Replied st a s t
  botched : BotchedBy st f s t
  keys : KeysAsked (fun k => k = .reply st ∨ (∃ c ∈ l, k = .channel c ∧ (o c).isSome = true)
    ∨ (k = .box ∧ (LoadMoves s t ∨ t.batch ≠ s.batch))) s t

theorem loadMoves_iff :
    LoadMoves s t ↔ ∃ c, (chanView s c).phantom.state.powered ≠ (chanView t c).phantom.state.powered := by
  refine exists_congr fun c => ?_
  rw [mem_poweredChannels, mem_poweredChannels, ← Bool.eq_iff_iff]
  rfl

theorem demandDone_done (f : Feed) (st : Station) (o : Puts) {l : List Chan} (hl : l.Nodup) (a : Answer)
    (hs : NotSending s) : DemandDone f st o l a s (demandDone f st o l a s) := by
  have hleave := putsLeave_puts f o l hs
  have hview := chanView_puts f o hl
  have hputs := puts_asks f o hl s
  unfold demandDone
  have hviewed : ∀ c, chanView (noticeBatch f st (answered st a (forEach l (putOne f o) s))) c
      = if c ∈ l then viewPutOne f (o c) (chanView s c) else chanView s c := fun c =>
    (chanView_noticeBatch f st c _).trans (hview c s)
  generalize forEach l (putOne f o) s = r at hleave hputs hviewed ⊢
  have hquiet : NotSending (answered st a r) := notSending_congr (s := s) hleave.link hs
  have hreply := answered_asks st a r
  have hnotice := noticeBatch_asks f st (answered st a r)
  have hbotched := noticeBatch_botches f st (answered st a r)
  have hanswered : DemandFrame s (answered st a r) := demandFrame_trans hleave.frame rfl
  have hbatch : (answered st a r).batch = s.batch := hleave.batch
  have hslots : (noticeBatch f st (answered st a r)).report.slots = s.report.slots.set st (some a) := by
    rw [← hleave.slots]
    simp [answered]
  have hframe := demandFrame_trans hanswered (demandFrame_noticeBatch f st hquiet)
  generalize noticeBatch f st (answered st a r) = t at hviewed hnotice hbotched hslots hframe ⊢
  have hmoves : LoadMoves s t
      ↔ ∃ c ∈ l, (chanView s c).phantom.state.powered ≠ (viewPutOne f (o c) (chanView s c)).phantom.state.powered := by
    rw [loadMoves_iff]
    refine exists_congr fun c => ?_
    rw [hviewed]
    split
    · next hc => simp [hc]
    · next hc => simp [hc]
  refine ⟨hframe, hviewed, ⟨hslots, hnotice.1.subset ((hreply.2 _).mpr (.inr rfl))⟩, ?_, ?_⟩
  · rw [BotchedBy, hbatch] at hbotched
    exact hbotched
  · refine keysAsked_trans hputs (keysAsked_trans hreply hnotice fun _ => Iff.rfl) fun k => ?_
    rw [hbatch, hmoves]
    simp only [PutAsks]
    grind

section DemandDone

variable {f : Feed} {st : Station} {o : Puts} {l : List Chan} {a : Answer}

theorem DemandDone.put (h : DemandDone f st o l a s t) {c : Chan} (hc : c ∈ l) {x : Option Entry} (hx : o c = some x) :
    t.demand.get c = { s.demand.get c with entries := (s.demand.get c).entries.set f x, dirty := true } := by
  have hview := h.view c
  rw [if_pos hc, hx] at hview
  exact congrArg ChanView.demand hview

theorem DemandDone.stands (h : DemandDone f st o l a s t) {c : Chan} (hc : c ∉ l ∨ o c = none) :
    chanView t c = chanView s c := by
  rw [h.view c]
  split
  · next hmem => rw [hc.resolve_left (not_not_intro hmem), viewPutOne]
  · rfl

theorem DemandDone.demand_stands (h : DemandDone f st o l a s t) {c : Chan} (hc : c ∉ l ∨ o c = none) :
    t.demand.get c = s.demand.get c := congrArg ChanView.demand (h.stands hc)

/-- Each channel's phantom record answers the change of its wants, and its PHANTOM CHANGE bit says so (R51, R134). -/
theorem DemandDone.answers (h : DemandDone f st o l a s t) (c : Chan) :
    t.phantom.recs.get c = answerWant (s.requested c) (t.requested c) (s.phantom.recs.get c)
      ∧ t.report.events.get c = s.report.events.get c ||| phantomChangeBit s t c := by
  by_cases hput : ∃ x, c ∈ l ∧ o c = some x
  · obtain ⟨x, hc, hx⟩ := hput
    have hview := h.view c
    rw [if_pos hc, hx] at hview
    have hrequested : t.requested c = wanted ((s.demand.get c).entries.set f x) := by
      rw [State.requested, h.put hc hx]
    have hphantom : t.phantom.recs.get c
        = answerWant (s.requested c) (wanted ((s.demand.get c).entries.set f x)) (s.phantom.recs.get c) :=
      congrArg ChanView.phantom hview
    have hevents : t.report.events.get c = s.report.events.get c ||| moveBit (s.phantom.recs.get c)
        (answerWant (s.requested c) (wanted ((s.demand.get c).entries.set f x)) (s.phantom.recs.get c)) :=
      congrArg ChanView.events hview
    rw [hrequested]
    exact ⟨hphantom, by rw [hevents, phantomChangeBit, hphantom]; rfl⟩
  · have hstands := h.stands (c := c) (by
      cases hx : o c with
      | none => exact .inr rfl
      | some x => exact .inl fun hc => hput ⟨x, hc, hx⟩)
    have hphantom : t.phantom.recs.get c = s.phantom.recs.get c := congrArg ChanView.phantom hstands
    have hevents : t.report.events.get c = s.report.events.get c := congrArg ChanView.events hstands
    have hrequested : t.requested c = s.requested c :=
      congrArg (fun v : ChanView => wanted v.demand.entries) hstands
    rw [hrequested, answerWant_same, phantomChangeBit, hphantom, if_pos rfl]
    exact ⟨rfl, hevents.trans (BitVec.or_zero).symm⟩

theorem DemandDone.phantomFollows (h : DemandDone f st o l a s t) : PhantomFollows s t :=
  phantomFollows_of_answerWant fun c => (h.answers c).1

end DemandDone

/-! ## The two requests -/

theorem mem_rangeOf {first last : Byte} {c : Chan} : c ∈ rangeOf first last ↔ Machine.InRange first last c := by
  simp [rangeOf, inRange, mem_channels]

theorem rangeOf_nodup (first last : Byte) : (rangeOf first last).Nodup := channels_nodup.filter _

theorem entry_putEntry_of_ne {c d : Chan} (hne : d ≠ c) (f g : Feed) (x : Option Entry) (s : State) :
    (putEntry f x c s).entry d g = s.entry d g := by
  have hview := putEntry_acts f x c d s
  rw [if_neg hne] at hview
  exact congrArg (fun v : ChanView => v.demand.entries.get g) hview

/-- R54: the entry that a write makes is worked out from its own channel's records. -/
theorem writtenEntry_of_ne {c d : Chan} (hne : d ≠ c) (f : Feed) (w : DemandWrite) (blk : Word16) (s : State) :
    writtenEntry (writeChannel f w blk c s) f w blk d = writtenEntry s f w blk d := by
  have hentry : (writeChannel f w blk c s).entry d f = s.entry d f := entry_putEntry_of_ne hne f f _ s
  have hsettled : (writeChannel f w blk c s).settled d = s.settled d := by simp [State.settled]
  have hgain : (writeChannel f w blk c s).gain = s.gain := by simp
  have htiming : (writeChannel f w blk c s).timing = s.timing := by simp
  have hcreated : createdEntry (writeChannel f w blk c s) d = createdEntry s d := by
    rw [createdEntry, hsettled, hgain, htiming]
    rfl
  rw [writtenEntry, hentry, hcreated]
  rfl

/-- What SET DEMAND puts: the written entry, on every channel of the range. -/
def setPuts (f : Feed) (w : DemandWrite) (s : State) : Puts :=
  fun c => some (some (writtenEntry s f w s.timing.counter c))

/-- What CLEAR DEMAND puts: no entry, on every channel that has one. -/
def clearPuts (f : Feed) (s : State) : Puts := fun c => if (s.entry c f).isSome then some none else none

theorem writes_eq_puts (f : Feed) (w : DemandWrite) {l : List Chan} (hl : l.Nodup) (s : State) :
    forEach l (writeChannel f w s.timing.counter) s = forEach l (putOne f (setPuts f w s)) s :=
  forEach_settled (fun c t => writtenEntry t f w s.timing.counter c) (fun c x => putEntry f (some x) c)
    (fun _ _ => rfl) (fun _ _ t hne => writtenEntry_of_ne hne f w _ t) hl s

theorem removals_eq_puts (f : Feed) {l : List Chan} (hl : l.Nodup) (s : State) :
    forEach l (removeEntry f) s = forEach l (putOne f (clearPuts f s)) s := by
  have hother (c d : Chan) (t : State) (hne : c ≠ d) :
      ((removeEntry f d t).entry c f).isSome = (t.entry c f).isSome := by
    unfold removeEntry
    split
    · rw [entry_putEntry_of_ne hne]
    · rfl
  rw [forEach_settled (g := removeEntry f) (fun c t => (t.entry c f).isSome)
    (fun c b t => if b then putEntry f none c t else t) (fun _ _ => rfl) hother hl s]
  refine forEach_congr (fun c _ => ?_) s
  funext t
  unfold putOne clearPuts
  cases (s.entry c f).isSome <;> rfl

/-- R53 to R57: SET DEMAND by the holder, with its range and fields in order. -/
theorem exec_setDemand {e : Envelope} {feed first last flags gain : Byte} {f : Feed} {mute phantom : Setting}
    (ht : Takes e s) (hheld : HeldBy e feed f (heard e s)) (hrange : RangeOk first last)
    (hmute : muteOf flags = some mute) (hphantom : phantomOf flags = some phantom) :
    let w : DemandWrite := ⟨gainOf flags gain, mute, phantom⟩
    let h := heard e s
    exec (.setDemand e feed first last flags gain) s = .next (demandDone f e.source (setPuts f w h)
      (rangeOf first last) { plain 4 .done e.tag with clamped := (rangeOf first last).any (clampsAt h f w) } h) := by
  intro w h
  have hquiet : NotSending (forEach (rangeOf first last) (putOne f (setPuts f w h)) h) :=
    notSending_congr (putsLeave_puts f _ _ (heard_notSending e s)).link (heard_notSending e s)
  refine congrArg Host.Outcome.next ((request_of_holder _ ht hheld).trans ?_)
  rw [if_pos (rangeOk_iff.mpr hrange), hmute, hphantom]
  dsimp only
  rw [setDemandDone, demandDone, writes_eq_puts f _ (rangeOf_nodup first last), place_eq_answered hquiet]

/-- R58: CLEAR DEMAND by the holder, with its range in order. -/
theorem exec_clearDemand {e : Envelope} {feed first last : Byte} {f : Feed} (ht : Takes e s)
    (hheld : HeldBy e feed f (heard e s)) (hrange : RangeOk first last) :
    exec (.clearDemand e feed first last) s = .next (demandDone f e.source (clearPuts f (heard e s))
      (rangeOf first last) (plain 5 .done e.tag) (heard e s)) := by
  have hquiet : NotSending (forEach (rangeOf first last) (putOne f (clearPuts f (heard e s))) (heard e s)) :=
    notSending_congr (putsLeave_puts f _ _ (heard_notSending e s)).link (heard_notSending e s)
  refine congrArg Host.Outcome.next ((request_of_holder _ ht hheld).trans ?_)
  rw [if_pos (rangeOk_iff.mpr hrange), demandDone, removals_eq_puts f (rangeOf_nodup first last), answer,
    place_eq_answered hquiet]

/-- What becomes of the demand record of a channel in the range of a CLEAR DEMAND. -/
theorem DemandDone.cleared {f : Feed} {st : Station} {l : List Chan} {a : Answer}
    (h : DemandDone f st (clearPuts f s) l a s t) {c : Chan} (hc : c ∈ l) : t.demand.get c = { s.demand.get c with
      entries := (s.demand.get c).entries.set f none
      dirty := (s.demand.get c).dirty || (s.entry c f).isSome } := by
  cases hx : (s.entry c f).isSome with
  | true =>
    rw [h.put hc (x := none) (by rw [clearPuts, if_pos hx]), Bool.or_true]
  | false =>
    have hnone : (s.demand.get c).entries.get f = none := by simpa [State.entry] using hx
    have hsame : (s.demand.get c).entries.set f none = (s.demand.get c).entries := by rw [← hnone, set_get]
    rw [h.demand_stands (.inr (by rw [clearPuts, hx]; rfl)), hsame, Bool.or_false]

/-- Settles O33: the feed's entries go from the range, channel by channel. -/
theorem clearDemandRemovesEntries : Obligations.ClearDemandRemovesEntries := by
  intro e feed first last f s ht hheld hrange h
  have hdone : DemandDone f e.source (clearPuts f h) (rangeOf first last) (plain 5 .done e.tag) h _ :=
    demandDone_done f e.source (clearPuts f h) (rangeOf_nodup first last) _ (heard_notSending e s)
  refine ⟨_, exec_clearDemand ht hheld hrange, ?_⟩
  change DemandDone _ _ _ _ _ h (demandDone f e.source (clearPuts f h) _ _ h) at hdone
  generalize demandDone f e.source (clearPuts f h) (rangeOf first last) (plain 5 .done e.tag) h = t at hdone ⊢
  have hisSome (c : Chan) : (clearPuts f h c).isSome = (h.entry c f).isSome := by
    unfold clearPuts
    cases (h.entry c f).isSome <;> rfl
  have hasked (c : Chan) (hc : Machine.InRange first last c) (hx : (h.entry c f).isSome = true) :
      Key.channel c ∈ t.report.keys :=
    (hdone.keys.2 _).mpr (.inr (.inr (.inl ⟨c, mem_rangeOf.mpr hc, rfl, (hisSome c).trans hx⟩)))
  refine ⟨hdone.frame, fun c hc => ?_, fun c hc => hdone.demand_stands (.inl (mt mem_rangeOf.mp hc)),
    hdone.phantomFollows, hdone.replied, hdone.botched, fun c => (hdone.answers c).2,
    keysAsked_congr hdone.keys fun k => ?_⟩
  · have hcleared := hdone.cleared (mem_rangeOf.mpr hc)
    refine ⟨?_, fun g hg => ?_, ?_, ?_, hasked c hc⟩
    · rw [State.entry, hcleared, get_set_self]
    · rw [State.entry, hcleared, get_set_of_ne _ _ hg]
      rfl
    · rw [hcleared]
    · rw [hcleared]
  · simp only [mem_rangeOf, hisSome]
    grind

/-- R54 to R56: the written entry, field by field, against the entry that stood or is created. -/
theorem writtenEntry_eq (f : Feed) (flags gain : Byte) (mute phantom : Setting) (blk : Word16) (c : Chan) (s : State) :
    let old := (s.entry c f).getD (freshEntry s c)
    let limited := max (-48) (min 126 gain.toInt)
    writtenEntry s f ⟨gainOf flags gain, mute, phantom⟩ blk c =
      { gain := if flags.getLsbD 7 then limited else old.gain
        mute := mute.apply old.mute
        phantom := phantom.apply old.phantom
        clamped := if flags.getLsbD 7 then decide (limited ≠ gain.toInt) else old.clamped
        last := blk } := by
  intro old limited
  have hold : (s.entry c f).getD (createdEntry s c) = old := rfl
  rw [writtenEntry, hold]
  unfold gainOf
  cases flags.getLsbD 7 <;> rfl

/-- R57: a write ends with its clamped flag set by the request where it creates the entry or writes its gain. -/
theorem clampsAt_iff {f : Feed} {flags gain : Byte} {mute phantom : Setting} {c : Chan} :
    clampsAt s f ⟨gainOf flags gain, mute, phantom⟩ c = true ↔ (s.entry c f = none ∨ flags.getLsbD 7 = true)
      ∧ (writtenEntry s f ⟨gainOf flags gain, mute, phantom⟩ s.timing.counter c).clamped = true := by
  have hgain : (gainOf flags gain).isSome = flags.getLsbD 7 := by
    unfold gainOf
    cases flags.getLsbD 7 <;> rfl
  rw [clampsAt, hgain, Bool.and_eq_true, Bool.or_eq_true, Option.isNone_iff_eq_none]

/-- Settles O32: the feed's entries are written on the range, channel by channel. -/
theorem setDemandWritesItsRange : Obligations.SetDemandWritesItsRange := by
  intro e feed first last flags gain f mute phantom s ht hheld hrange hmute hphantom h
  let w : DemandWrite := ⟨gainOf flags gain, mute, phantom⟩
  let clamped := (rangeOf first last).any (clampsAt h f w)
  have hdone : DemandDone f e.source (setPuts f w h) (rangeOf first last)
      { plain 4 .done e.tag with clamped := clamped } h _ :=
    demandDone_done f e.source (setPuts f w h) (rangeOf_nodup first last) _ (heard_notSending e s)
  refine ⟨_, clamped, exec_setDemand ht hheld hrange hmute hphantom, ?_⟩
  change DemandDone _ _ _ _ _ h (demandDone f e.source (setPuts f w h) (rangeOf first last)
    { plain 4 .done e.tag with clamped := clamped } h) at hdone
  generalize demandDone f e.source (setPuts f w h) (rangeOf first last)
    { plain 4 .done e.tag with clamped := clamped } h = t at hdone ⊢
  have hput (c : Chan) (hc : Machine.InRange first last c) := hdone.put (mem_rangeOf.mpr hc) (c := c) rfl
  have hentry (c : Chan) (hc : Machine.InRange first last c) :
      t.entry c f = some (writtenEntry h f w h.timing.counter c) := by
    rw [State.entry, hput c hc, get_set_self]
  refine ⟨hdone.frame, fun c hc => ⟨?_, ?_, ?_, fun g hg => ?_, ?_⟩,
    fun c hc => hdone.demand_stands (.inl (mt mem_rangeOf.mp hc)), hdone.phantomFollows, ?_, hdone.replied,
    hdone.botched, fun c => (hdone.answers c).2, keysAsked_congr hdone.keys fun k => ?_⟩
  · rw [hentry c hc, writtenEntry_eq, show h.timing = s.timing from heard_timing e s]
  · rw [hput c hc]
  · exact (hdone.keys.2 _).mpr (.inr (.inr (.inl ⟨c, mem_rangeOf.mpr hc, rfl, rfl⟩)))
  · rw [State.entry, hput c hc, get_set_of_ne _ _ hg]
    rfl
  · rw [hput c hc]
  · constructor
    · intro hclamped
      obtain ⟨c, hmem, hclamps⟩ := List.any_eq_true.mp hclamped
      have hc := mem_rangeOf.mp hmem
      obtain ⟨hcovers, hflag⟩ := clampsAt_iff.mp hclamps
      exact ⟨c, _, hc, hcovers, hentry c hc, hflag⟩
    · rintro ⟨c, x, hc, hcovers, hx, hflag⟩
      obtain rfl := Option.some.inj ((hentry c hc).symm.trans hx)
      exact List.any_eq_true.mpr ⟨c, mem_rangeOf.mpr hc, clampsAt_iff.mpr ⟨hcovers, hflag⟩⟩
  · simp only [mem_rangeOf, setPuts]
    grind

end Sys2Proof.Proofs
end

section
/-! The batch at its block start (R60, R157, R159): no item writes a phantom want, so each round replaces one entry and
asks for its channel. What stands on a channel is the outcome of the items that name it, in their order. -/

namespace Sys2Proof.Proofs

open Sys2Proof.Machine Sys2Proof.Laws

variable {s t r : State} {blk : Word16}

/-! ## One item -/

/-- R55, R56, R60: what an item makes of its channel's entry. -/
def itemEntry (blk : Word16) (x : Entry) (i : BatchItem) : Entry :=
  { writeGain i.gain x with mute := i.mute.apply x.mute, last := blk }

theorem itemEntry_phantom (x : Entry) (i : BatchItem) : (itemEntry blk x i).phantom = x.phantom := by
  unfold itemEntry writeGain
  split <;> rfl

theorem itemEntry_gain_none (x : Entry) {i : BatchItem} (h : i.gain = none) :
    (itemEntry blk x i).gain = x.gain ∧ (itemEntry blk x i).clamped = x.clamped := by
  rw [itemEntry, h, writeGain]
  exact ⟨rfl, rfl⟩

theorem itemEntry_gain_some (x : Entry) {i : BatchItem} {n : Int} (h : i.gain = some n) :
    (itemEntry blk x i).gain = limitGain n ∧ (itemEntry blk x i).clamped = decide (limitGain n ≠ n) := by
  rw [itemEntry, h, writeGain]
  exact ⟨rfl, rfl⟩

theorem itemEntry_mute (x : Entry) (i : BatchItem) : (itemEntry blk x i).mute = i.mute.apply x.mute := rfl

theorem writtenEntry_of_item (f : Feed) (i : BatchItem) (s : State) :
    writtenEntry s f ⟨i.gain, i.mute, .keep⟩ blk i.chan
      = itemEntry blk ((s.entry i.chan f).getD (freshEntry s i.chan)) i := by
  have hmute (x : Entry) : (writeGain i.gain x).mute = x.mute := by
    unfold writeGain
    split <;> rfl
  change (let e := writeGain i.gain ((s.entry i.chan f).getD (freshEntry s i.chan)); ({ e with
    mute := i.mute.apply e.mute, phantom := e.phantom, last := blk } : Entry)) = _
  dsimp only
  rw [hmute, itemEntry]

/-- A channel is requested by the phantom wants of its entries, one by one (R51). -/
theorem wanted_congr {es es' : Entries}
    (h : ∀ f, (es.get f).any (fun e => e.phantom) = (es'.get f).any fun e => e.phantom) : wanted es = wanted es' := by
  rw [wanted, wanted, list_eq_map_get es, list_eq_map_get es', List.any_map, List.any_map]
  exact congrArg (List.any _) (funext h)

/-- An entry that is written without a phantom want, or created with none, leaves the channel's wants (R51, R60). -/
theorem wanted_set {es : Entries} {f : Feed} {fresh x : Entry} (hfresh : fresh.phantom = false)
    (hx : x.phantom = ((es.get f).getD fresh).phantom) : wanted (es.set f (some x)) = wanted es := by
  refine wanted_congr fun g => ?_
  rw [get_set]
  split
  · next hg =>
    rw [hg, Option.any_some, hx]
    cases es.get f with
    | none => exact hfresh
    | some y => rfl
  · rfl

/-- R60: an item replaces one entry and asks for its channel, and no want changes. -/
theorem writeItem_eq (f : Feed) (i : BatchItem) (s : State) : writeItem f blk i s = ask (.channel i.chan)
    (withEntry f (some (itemEntry blk ((s.entry i.chan f).getD (freshEntry s i.chan)) i)) i.chan s) := by
  have hsame : wanted ((s.demand.get i.chan).entries.set f
      (some (itemEntry blk ((s.entry i.chan f).getD (freshEntry s i.chan)) i)))
      = wanted (s.demand.get i.chan).entries := wanted_set (fresh := freshEntry s i.chan) rfl (itemEntry_phantom _ i)
  rw [writeItem, writeChannel, writtenEntry_of_item, putEntry_eq, hsame, handWant_eq, answerWant_same, if_pos rfl]

/-! ## The items of one channel -/

/-- What the items of a channel make of its entry, in their order. -/
def itemsEntry (blk : Word16) (l : List BatchItem) (x : Entry) : Entry := l.foldl (itemEntry blk) x

theorem itemsEntry_cons (i : BatchItem) (l : List BatchItem) (x : Entry) :
    itemsEntry blk (i :: l) x = itemsEntry blk l (itemEntry blk x i) := rfl

theorem itemsEntry_append_cons (before after : List BatchItem) (i : BatchItem) (x : Entry) :
    itemsEntry blk (before ++ i :: after) x = itemsEntry blk after (itemEntry blk (itemsEntry blk before x) i) :=
  List.foldl_append

theorem itemsEntry_phantom (l : List BatchItem) (x : Entry) : (itemsEntry blk l x).phantom = x.phantom := by
  induction l generalizing x with
  | nil => rfl
  | cons i l ih => rw [itemsEntry_cons, ih, itemEntry_phantom]

theorem itemsEntry_last {l : List BatchItem} {x : Entry} (h : l ≠ [] ∨ x.last = blk) :
    (itemsEntry blk l x).last = blk := by
  induction l generalizing x with
  | nil => exact h.resolve_left (not_not_intro rfl)
  | cons i l ih =>
    rw [itemsEntry_cons]
    exact ih (.inr rfl)

theorem itemsEntry_gain_none {l : List BatchItem} (h : ∀ i ∈ l, i.gain = none) (x : Entry) :
    (itemsEntry blk l x).gain = x.gain ∧ (itemsEntry blk l x).clamped = x.clamped := by
  induction l generalizing x with
  | nil => exact ⟨rfl, rfl⟩
  | cons i l ih =>
    obtain ⟨hgain, hclamped⟩ := itemEntry_gain_none (blk := blk) x (h i List.mem_cons_self)
    rw [itemsEntry_cons, ← hgain, ← hclamped]
    exact ih (fun j hj => h j (List.mem_cons_of_mem i hj)) _

theorem itemsEntry_mute_keep {l : List BatchItem} (h : ∀ i ∈ l, i.mute = .keep) (x : Entry) :
    (itemsEntry blk l x).mute = x.mute := by
  induction l generalizing x with
  | nil => rfl
  | cons i l ih =>
    rw [itemsEntry_cons, ih fun j hj => h j (List.mem_cons_of_mem i hj), itemEntry_mute, h i List.mem_cons_self]
    rfl

/-- The last gain stands (R60). -/
theorem itemsEntry_gain_last {before after : List BatchItem} {i : BatchItem} {n : Int} (hi : i.gain = some n)
    (hafter : ∀ j ∈ after, j.gain = none) (x : Entry) :
    (itemsEntry blk (before ++ i :: after) x).gain = limitGain n
      ∧ (itemsEntry blk (before ++ i :: after) x).clamped = decide (limitGain n ≠ n) := by
  obtain ⟨hgain, hclamped⟩ := itemsEntry_gain_none (blk := blk) hafter (itemEntry blk (itemsEntry blk before x) i)
  rw [itemsEntry_append_cons, hgain, hclamped]
  exact itemEntry_gain_some _ hi

/-- The last mute stands (R60). -/
theorem itemsEntry_mute_last {before after : List BatchItem} (i : BatchItem) (hafter : ∀ j ∈ after, j.mute = .keep)
    (x : Entry) :
    (itemsEntry blk (before ++ i :: after) x).mute = i.mute.apply (itemsEntry blk before x).mute := by
  rw [itemsEntry_append_cons, itemsEntry_mute_keep hafter, itemEntry_mute]

/-! ## All items -/

/-- The items that name a channel. -/
def itemsOf (c : Chan) (l : List BatchItem) : List BatchItem := l.filter fun i => i.chan = c

theorem mem_itemsOf {c : Chan} {l : List BatchItem} {i : BatchItem} : i ∈ itemsOf c l ↔ i ∈ l ∧ i.chan = c := by
  simp [itemsOf]

theorem forall_mem_itemsOf {c : Chan} {l : List BatchItem} {p : BatchItem → Prop} :
    (∀ i ∈ itemsOf c l, p i) ↔ ∀ i ∈ l, i.chan = c → p i := by
  simp only [mem_itemsOf, and_imp]

theorem itemsOf_append_cons {c : Chan} {i : BatchItem} (hi : i.chan = c) (before after : List BatchItem) :
    itemsOf c (before ++ i :: after) = itemsOf c before ++ i :: itemsOf c after := by
  simp [itemsOf, hi]

/-- The demand record of a channel after the items that name it; `fresh` is the entry that a write creates. -/
def recordAfter (f : Feed) (blk : Word16) (fresh : Entry) (l : List BatchItem) (d : DemandRec) : DemandRec :=
  if l = [] then d
  else { d with entries := d.entries.set f (some (itemsEntry blk l ((d.entries.get f).getD fresh))), dirty := true }

theorem tab_set_set {α : Type} {n : Nat} (u : Tab α n) (i : Fin n) (a b : α) : (u.set i a).set i b = u.set i b := by
  ext j
  simp only [get_set]
  split <;> rfl

theorem recordAfter_cons (f : Feed) (fresh : Entry) (i : BatchItem) (l : List BatchItem) (d : DemandRec) :
    recordAfter f blk fresh (i :: l) d = recordAfter f blk fresh l { d with
      entries := d.entries.set f (some (itemEntry blk ((d.entries.get f).getD fresh) i)), dirty := true } := by
  cases l with
  | nil => rfl
  | cons j l =>
    simp only [recordAfter, if_neg (List.cons_ne_nil _ _), get_set_self, tab_set_set, Option.getD_some, itemsEntry_cons]

/-- What the writes of a list of items make of a state. -/
structure ItemsWritten (f : Feed) (blk : Word16) (l : List BatchItem) (s t : State) : Prop where
  frame : t = { s with demand := t.demand, report := { s.report with keys := t.report.keys } }
  demand : ∀ c, t.demand.get c = recordAfter f blk (freshEntry s c) (itemsOf c l) (s.demand.get c)
  keys : KeysAsked (fun k => ∃ i ∈ l, k = .channel i.chan) s t

theorem itemsWritten (f : Feed) (l : List BatchItem) (s : State) :
    ItemsWritten f blk l s (forEach l (writeItem f blk) s) := by
  induction l generalizing s with
  | nil => exact ⟨rfl, fun _ => rfl, keysAsked_congr (keysAsked_refl s) (by simp)⟩
  | cons i l ih =>
    have hrest := ih (writeItem f blk i s)
    rw [forEach_cons]
    generalize forEach l (writeItem f blk) (writeItem f blk i s) = t at hrest ⊢
    rw [writeItem_eq] at hrest
    obtain ⟨hframe, hdemand, hkeys⟩ := hrest
    refine ⟨hframe, fun c => ?_,
      keysAsked_trans (keysAsked_ask (.channel i.chan) (withEntry f _ i.chan s)) hkeys (by simp)⟩
    rw [hdemand c]
    change recordAfter f blk (freshEntry s c) (itemsOf c l) ((s.demand.set i.chan _).get c) = _
    rw [get_set]
    by_cases hc : c = i.chan
    · subst hc
      rw [if_pos rfl, show itemsOf i.chan (i :: l) = i :: itemsOf i.chan l from List.filter_cons_of_pos (by simp),
        recordAfter_cons]
      rfl
    · rw [if_neg hc, show itemsOf c (i :: l) = itemsOf c l from
        List.filter_cons_of_neg (by simpa using fun h : i.chan = c => hc h.symm)]

section ItemsWritten

variable {f : Feed} {l : List BatchItem} {c : Chan}

theorem ItemsWritten.unnamed (h : ItemsWritten f blk l s t) (hc : ∀ i ∈ l, i.chan ≠ c) :
    t.demand.get c = s.demand.get c := by
  have hnone : itemsOf c l = [] := List.filter_eq_nil_iff.mpr fun i hi => by simpa using hc i hi
  rw [h.demand, hnone, recordAfter, if_pos rfl]

theorem ItemsWritten.named (h : ItemsWritten f blk l s t) (hc : itemsOf c l ≠ []) : t.demand.get c =
    { s.demand.get c with
      entries := (s.demand.get c).entries.set f
        (some (itemsEntry blk (itemsOf c l) ((s.entry c f).getD (freshEntry s c))))
      dirty := true } := by
  rw [h.demand, recordAfter, if_neg hc]
  rfl

end ItemsWritten

/-! ## The end of the batch -/

theorem dropBatch_asks (g : BatchFlag) (s : State) : KeysAsked (· = .box) s (dropBatch g s) :=
  keysAsked_trans (keysAsked_ask .box { s with batch.record := .idle }) (keysAsked_ask .box _) (by simp)

/-- R157: the batch is gone, COMMITTED is set, and the items are written. -/
theorem writeBatch_frame (b : BatchBody) (blk : Word16) (s : State) :
    let t := writeBatch b blk s
    t = { s with
      demand := t.demand, batch := ⟨.idle, s.batch.flags ||| 1#4⟩, report := { s.report with keys := t.report.keys }
      link := { s.link with pair := t.link.pair } } := by
  have hframe := (itemsWritten (blk := blk) b.feed b.items s).frame
  unfold writeBatch
  generalize forEach b.items (writeItem b.feed blk) s = r at hframe ⊢
  generalize r.demand = d, r.report.keys = k at hframe
  subst hframe
  rfl

theorem writeBatch_asks (b : BatchBody) (blk : Word16) (s : State) :
    KeysAsked (fun k => k = .box ∨ ∃ i ∈ b.items, k = .channel i.chan) s (writeBatch b blk s) :=
  keysAsked_trans (itemsWritten b.feed b.items s).keys (dropBatch_asks .committed _) fun _ => or_comm

/-- R159, R164: the batch is gone, TIMED OUT is set, and the owner's outcome says so. -/
theorem timeOut_frame (b : BatchBody) (s : State) :
    let t := timeOut b s
    t = { s with
      batch := ⟨.idle, s.batch.flags ||| 4#4⟩
      report := { s.report with
        slots := s.report.slots.set b.owner (some (plain 10 .timedOut b.tag)), keys := t.report.keys }
      link := { s.link with pair := t.link.pair } } := rfl

theorem timeOut_keys (b : BatchBody) (s : State) :
    Key.reply b.owner ∈ (timeOut b s).report.keys ∧ Key.box ∈ (timeOut b s).report.keys :=
  ⟨(mem_ask _ _).mpr (.inr rfl), (mem_ask _ _).mpr (.inl ((mem_ask .box .box).mpr (.inr rfl)))⟩

/-! ## The work of a block start -/

theorem batchAtBlock_idle (h : s.batch.record = .idle) : batchAtBlock s = s := by
  rw [batchAtBlock, h]

theorem batchAtBlock_committing {b : BatchBody} (h : s.batch.record = .committing b) :
    batchAtBlock s = writeBatch b s.timing.counter s := by
  rw [batchAtBlock, h]

theorem batchAtBlock_loading {b : BatchBody} {age : Nat} (h : s.batch.record = .loading b age) : batchAtBlock s
    = if age < 99 then { s with batch := { s.batch with record := .loading b (age + 1) } } else timeOut b s := by
  rw [batchAtBlock, h]
  exact if_congr (by omega) rfl rfl

theorem batchWrite_committing {b : BatchBody} (hrun : s.running = true) (h : s.batch.record = .committing b) :
    batchWrite s = writeBatch b (s.timing.counter + 1) s := by
  rw [batchWrite, if_pos hrun, h]

theorem batchTimeout_loading {b : BatchBody} {age : Nat} (hrun : s.running = true)
    (h : s.batch.record = .loading b age) (hage : 99 ≤ age) : batchTimeout s = timeOut b s := by
  rw [batchTimeout, if_pos hrun, h]
  exact if_neg (by omega)

/-- Log entry 16: the free value decides between the two orders only. -/
theorem stationsAndBatch_orders (s : State) : let r := { s with seed := s.seed + 1 }
    stationsAndBatch s = ageStations (batchAtBlock r) ∨ stationsAndBatch s = batchAtBlock (ageStations r) := by
  unfold stationsAndBatch
  dsimp only
  split
  · exact .inr rfl
  · exact .inl rfl

theorem lossMeetsBatch_of_owner (h : ∀ b, s.batch.record.body = some b →
    s.link.stations.get b.owner ≠ .present .desk 199) : lossMeetsBatch s = false := by
  unfold lossMeetsBatch
  split
  · rfl
  · next b age hb => simp [h b (by rw [hb]; rfl)]
  · next b hb => simp [h b (by rw [hb]; rfl)]

theorem stationsAndBatch_of_owner (h : ∀ b, s.batch.record.body = some b →
    s.link.stations.get b.owner ≠ .present .desk 199) :
    stationsAndBatch s = ageStations (batchAtBlock { s with seed := s.seed + 1 }) := by
  rw [stationsAndBatch, lossMeetsBatch_of_owner h]
  rfl

/-- Settles O53: the writes and the timeout are those of the batch buffer's two outcomes, each met at a block start and
just before it. -/
theorem batchAtItsBlockStart : Obligations.BatchAtItsBlockStart := by
  unfold Obligations.BatchAtItsBlockStart
  intro writes timesOut
  have hwrites : ∀ b blk s, writes b blk s (writeBatch b blk s) := by
    intro b blk s
    have hitems := itemsWritten (blk := blk) b.feed b.items s
    have hasks := writeBatch_asks b blk s
    have hdemand : (writeBatch b blk s).demand = (forEach b.items (writeItem b.feed blk) s).demand := rfl
    refine ⟨writeBatch_frame b blk s, (hasks.2 _).mpr (.inr (.inl rfl)), fun c hc => hitems.unnamed hc, hasks,
      fun c hc => ?_⟩
    obtain ⟨i, hi, hic⟩ := hc
    have hsome : itemsOf c b.items ≠ [] := List.ne_nil_of_mem (mem_itemsOf.mpr ⟨hi, hic⟩)
    have hnamed := hitems.named hsome
    rw [← hdemand] at hnamed
    generalize writeBatch b blk s = t at hnamed ⊢
    refine ⟨by rw [hnamed], by rw [hnamed], fun g hg => ?_,
      itemsEntry blk (itemsOf c b.items) ((s.entry c b.feed).getD (freshEntry s c)), ?_,
      itemsEntry_last (.inl hsome), itemsEntry_phantom _ _, ?_, ?_, ?_, ?_⟩
    · rw [State.entry, hnamed, get_set_of_ne _ _ hg]
      rfl
    · rw [State.entry, hnamed, get_set_self]
    · intro before i after n hsplit hi hgain hafter
      rw [hsplit, itemsOf_append_cons hi]
      obtain ⟨hlast, hclamped⟩ := itemsEntry_gain_last (blk := blk) (before := itemsOf c before) hgain
        (forall_mem_itemsOf.mpr hafter) ((s.entry c b.feed).getD (freshEntry s c))
      rw [hclamped, hlast]
      exact ⟨rfl, rfl⟩
    · intro hnone
      exact itemsEntry_gain_none (forall_mem_itemsOf.mpr hnone) _
    · intro before i after hsplit hi hafter
      rw [hsplit, itemsOf_append_cons hi,
        itemsEntry_mute_last i (forall_mem_itemsOf.mpr hafter)]
      exact ⟨fun hon => by rw [hon]; rfl, fun hoff => by rw [hoff]; rfl⟩
    · intro hkeep
      exact itemsEntry_mute_keep (forall_mem_itemsOf.mpr hkeep) _
  have htimesOut : ∀ b s, timesOut b s (timeOut b s) := fun b s => ⟨timeOut_frame b s, timeOut_keys b s⟩
  refine ⟨fun s b hrun hb => ⟨_, congrArg Host.Outcome.next (batchWrite_committing hrun hb), hwrites b _ s⟩,
    fun s b age hrun hb hage => ⟨_, congrArg Host.Outcome.next (batchTimeout_loading hrun hb hage), htimesOut b s⟩,
    fun s => ⟨batchAtBlock_idle, fun b hb => ?_, fun b age hb => ⟨fun hage => ?_, fun hage => ?_⟩,
      stationsAndBatch_orders s, stationsAndBatch_of_owner⟩⟩
  · rw [batchAtBlock_committing hb]
    exact hwrites b _ s
  · rw [batchAtBlock_loading hb, if_pos hage]
  · rw [batchAtBlock_loading hb, if_neg (by omega)]
    exact htimesOut b s

end Sys2Proof.Proofs
end

section
/-! The link table (R75 to R79): its law, which speaks of the configuration, the table and LINK TABLE FULL alone, and
what a LINK CANDIDATE makes of it. Most commands leave all three alone; the table changes where an announcement is
stored, where entries are removed, and where their ages advance. -/

namespace Sys2Proof.Proofs

open Sys2Proof.Machine Sys2Proof.Laws

variable {s : State}

/-! ## The law -/

/-- Everything that the link law speaks of. -/
def linkView (s : State) := (s.config, s.gain.table, s.gain.full)

/-- The pair that an entry speaks for (section 5.7). -/
def pairOf (x : LinkEntry) : Group × Station := (x.group, x.source)

/-- The link law, but for the entries that meet a condition, which may be too old: those that a block start removes. -/
structure LinksOrderedBut (p : LinkEntry → Bool) (s : State) : Prop where
  room : s.gain.table.length ≤ 32
  pairs : (s.gain.table.map pairOf).Nodup
  young : ∀ x ∈ s.gain.table, p x = false → x.age < 50
  used : ∀ x ∈ s.gain.table, s.used x.group = true
  full : s.gain.full = true → s.gain.table.length = 32

abbrev LinksOrdered (s : State) : Prop := LinksOrderedBut (fun _ => false) s

theorem linkLaw_iff : LinkLaw s ↔ LinksOrdered s := by
  constructor
  · rintro ⟨hroom, hpairs, hentries, hfull⟩
    exact ⟨hroom, hpairs, fun x hx _ => (hentries x hx).1, fun x hx => (hentries x hx).2, hfull⟩
  · rintro ⟨hroom, hpairs, hyoung, hused, hfull⟩
    exact ⟨hroom, hpairs, fun x hx => ⟨hyoung x hx rfl, hused x hx⟩, hfull⟩

theorem LinksOrdered.same {t : State} (hs : LinksOrdered s) (h : linkView t = linkView s) : LinksOrdered t := by
  simp only [linkView, Prod.mk.injEq] at h
  obtain ⟨hconfig, htable, hfull⟩ := h
  constructor <;> simp only [htable, hfull, used_congr hconfig]
  exacts [hs.room, hs.pairs, fun x hx _ => hs.young x hx rfl, hs.used, hs.full]

/-- The table as a start leaves it (R82). -/
theorem linksOrdered_start {t : State} (h : t.gain = .start) : LinksOrdered t := by
  constructor <;> simp [h, GainResolver.start]

theorem linksOrdered_forEach {α : Type} {l : List α} {g : α → State → State}
    (hg : ∀ a t, LinksOrdered t → LinksOrdered (g a t)) (hs : LinksOrdered s) : LinksOrdered (forEach l g s) :=
  forEach_induct (fun a _ => hg a) hs

/-! ## Entries that leave -/

/-- R76 to R79: the removal of the entries that may be too old leaves the table in order, with room where any left. -/
theorem LinksOrderedBut.removed {p : LinkEntry → Bool} (hs : LinksOrderedBut p s) :
    LinksOrdered (removeLinks p s) := by
  have hconfig : (removeLinks p s).config = s.config := by simp
  obtain ⟨hgain, -, -⟩ := removeLinks_removes p s
  constructor <;> simp only [hgain, used_congr hconfig]
  case room => exact (List.length_filter_le _ _).trans hs.room
  case pairs => exact hs.pairs.sublist (List.filter_sublist.map _)
  case young =>
    intro x hx _
    obtain ⟨hmem, hkept⟩ := List.mem_filter.mp hx
    exact hs.young x hmem (by simpa using hkept)
  case used => exact fun x hx => hs.used x (List.mem_of_mem_filter hx)
  case full =>
    intro hfull
    obtain ⟨hnone, hfull⟩ : s.gain.table.any p = false ∧ s.gain.full = true := by
      cases h : s.gain.table.any p <;> simp_all
    have hall : s.gain.table.filter (fun x => !p x) = s.gain.table := List.filter_eq_self.mpr (by simpa using hnone)
    rw [hall]
    exact hs.full hfull

theorem linksOrdered_removeLinks (p : LinkEntry → Bool) (hs : LinksOrdered s) : LinksOrdered (removeLinks p s) :=
  LinksOrderedBut.removed { hs with young := fun x hx _ => hs.young x hx rfl }

/-- R77: an entry that the advance brings to age 50 is removed. -/
theorem linksOrdered_ageLinks (hs : LinksOrdered s) : LinksOrdered (ageLinks s) := by
  refine LinksOrderedBut.removed ⟨?_, ?_, fun x _ hyoung => by simpa using hyoung, fun x hx => ?_, ?_⟩
  · simpa using hs.room
  · have hpairs : pairOf ∘ (fun x : LinkEntry => { x with age := x.age + 1 }) = pairOf := rfl
    dsimp only
    rw [List.map_map, hpairs]
    exact hs.pairs
  · obtain ⟨y, hy, rfl⟩ := List.mem_map.mp hx
    exact hs.used y hy
  · simpa using hs.full

/-- LINK TABLE FULL may be cleared at any table. -/
theorem linksOrdered_freeRoom (hs : LinksOrdered s) : LinksOrdered (freeRoom s) := by
  have hcleared : LinksOrdered { s with gain := { s.gain with full := false } } := { hs with full := nofun }
  exact hcleared.same (by rw [linkView, linkView, freeRoom_gain]; simp)

/-! ## Entries that are stored -/

theorem sameAs_iff {x y : LinkEntry} : x.sameAs y = true ↔ pairOf x = pairOf y := by
  simp [LinkEntry.sameAs, pairOf]

/-- R75, R76: an announcement replaces that of its pair, or is added where there is room. -/
theorem linksOrdered_storeLink {x : LinkEntry} (hage : x.age < 50) (hused : s.used x.group = true)
    (hs : LinksOrdered s) : LinksOrdered (storeLink x s) := by
  have hreplaced : LinksOrdered { s with
      gain := { s.gain with table := s.gain.table.map fun y => if y.sameAs x then x else y } } := by
    have hmem {y : LinkEntry} (hy : y ∈ s.gain.table.map fun y => if y.sameAs x then x else y) :
        y = x ∨ y ∈ s.gain.table := by
      obtain ⟨z, hz, rfl⟩ := List.mem_map.mp hy
      split
      exacts [.inl rfl, .inr hz]
    have hpairs : (pairOf ∘ fun y => if y.sameAs x then x else y) = pairOf := by
      funext y
      dsimp only [Function.comp_apply]
      split
      · next h => exact (sameAs_iff.mp h).symm
      · rfl
    refine ⟨by simpa using hs.room, ?_, fun y hy _ => ?_, fun y hy => ?_, by simpa using hs.full⟩
    · dsimp only
      rw [List.map_map, hpairs]
      exact hs.pairs
    · rcases hmem hy with rfl | hy
      exacts [hage, hs.young y hy rfl]
    · rcases hmem hy with rfl | hy
      exacts [hused, hs.used y hy]
  unfold storeLink
  split
  · split
    exacts [hreplaced, hreplaced.same rfl]
  · next hnone =>
    have hnew : pairOf x ∉ s.gain.table.map pairOf := fun h => by
      obtain ⟨y, hy, hpair⟩ := List.mem_map.mp h
      exact List.find?_eq_none.mp hnone y hy (sameAs_iff.mpr hpair)
    split
    · next hroom =>
      have hadded : LinksOrdered { s with gain := { s.gain with table := s.gain.table ++ [x] } } := by
        refine ⟨by simpa using hroom, ?_, fun y hy _ => ?_, fun y hy => ?_, fun h => ?_⟩
        · simpa [List.nodup_append] using ⟨hs.pairs, by simpa using hnew⟩
        · rcases List.mem_append.mp hy with hy | hy
          exacts [hs.young y hy rfl, List.mem_singleton.mp hy ▸ hage]
        · rcases List.mem_append.mp hy with hy | hy
          exacts [hs.used y hy, List.mem_singleton.mp hy ▸ hused]
        · exact absurd (hs.full h) (by omega)
      exact hadded.same rfl
    · next hroom =>
      split
      · exact hs
      · have hfull : LinksOrdered { s with gain := { s.gain with full := true } } :=
          { hs with full := fun _ => le_antisymm hs.room (not_lt.mp hroom) }
        exact hfull.same rfl

/-- R75: what is stored speaks for the group and source of the message, and is new. -/
theorem linkEntryOf_fresh {g : Group} {source : Station} {flags candidate locked backoff : Byte} {x : LinkEntry}
    (h : linkEntryOf g source flags candidate locked backoff = some x) : x.group = g ∧ x.age = 0 := by
  obtain ⟨-, ⟨⟩⟩ := Option.ite_none_right_eq_some.mp h
  exact ⟨rfl, rfl⟩

theorem linksOrdered_takeLink (source : Station) (group flags candidate locked backoff : Byte) (hs : LinksOrdered s) :
    LinksOrdered (takeLink source group flags candidate locked backoff s) := by
  unfold takeLink
  (repeat' split)
  · next hused _ x hx =>
    obtain ⟨hgroup, hage⟩ := linkEntryOf_fresh hx
    exact linksOrdered_storeLink (by omega) (by rw [hgroup]; exact hused) hs
  all_goals exact hs

/-! ## What leaves the link table alone -/

theorem whileRunning_linkView {f : State → State} (hf : ∀ u, linkView (f u) = linkView u) (s : State) :
    linkView (whileRunning f s) = linkView s := by
  unfold whileRunning
  split
  exacts [hf s, rfl]

theorem hear_linkView {st : Station} {role : Role} {k : State → State} (hk : ∀ u, linkView (k u) = linkView u)
    (s : State) : linkView (hear st role k s) = linkView s := by
  unfold hear
  (repeat' split)
  · rfl
  · exact (hk _).trans (by simp [linkView])
  · rfl

theorem request_linkView {e : Envelope} {k : State → State} (hk : ∀ u, linkView (k u) = linkView u) (s : State) :
    linkView (request e k s) = linkView s :=
  hear_linkView (fun u => by split; exacts [hk u, rfl]) s

theorem holderRequest_linkView {e : Envelope} {kind feed : Byte} {k : Feed → State → State}
    (hk : ∀ f u, linkView (k f u) = linkView u) (s : State) :
    linkView (request e (withHolder e kind feed k) s) = linkView s := by
  refine request_linkView (fun u => ?_) s
  unfold withHolder
  (repeat' split)
  exacts [hk _ u, rfl, rfl]

theorem lockPass_linkView (e : Envelope) (kind : Byte) (f : Feed) (unlocking : Bool) (cs : List Chan)
    {k : Chan → State → State} (hk : ∀ c u, linkView (k c u) = linkView u) (s : State) :
    linkView (lockPass e kind f unlocking cs k s) = linkView s := by
  unfold lockPass
  split
  · rfl
  · exact forEach_keeps linkView hk s

theorem markEvent_linkView (tick : Nat) (s : State) : linkView (markEvent tick s) = linkView s :=
  whileRunning_linkView (fun u => by simp [linkView]) s

theorem declareMissing_linkView (s : State) : linkView (declareMissing s) = linkView s :=
  whileRunning_linkView (fun u => by split <;> simp [linkView]) s

theorem enterHoldoverBy_linkView (cause : BadMark) (s : State) : linkView (enterHoldoverBy cause s) = linkView s := by
  unfold enterHoldoverBy
  dsimp only
  (repeat' split)
  exacts [markEvent_linkView _ s, rfl, declareMissing_linkView s, rfl]

/-- The commands that may change the link table, LINK TABLE FULL or the configuration. -/
def touchesLinks : Instr → Bool
  | .powerOn _ | .resetLine _ | .resetLineHeld | .startUpEnd _ _ _ _ | .blockStart _ | .linkCandidate _ _ _ _ _ _
  | .boxReset _ _ | .stationLoss _ | .linkEntryExpiry _ _ => true
  | _ => false

theorem exec_linkView {c : Instr} {s t : State} (hc : touchesLinks c = false) (h : exec c s = .next t) :
    linkView t = linkView s := by
  have next {u : State} (h : Host.Outcome.next (φ := Fault) (ρ := Refusal) u = .next t)
      (hu : linkView u = linkView s) : linkView t = linkView s := Host.Outcome.next.inj h ▸ hu
  cases c with
  | presence e => exact next h (hear_linkView (fun _ => rfl) s)
  | reply e => exact next h (hear_linkView (fun _ => rfl) s)
  | channelState e => exact next h (hear_linkView (fun _ => rfl) s)
  | boxState e => exact next h (hear_linkView (fun _ => rfl) s)
  | invalidMessage st kind => exact next h (hear_linkView (fun u => by rfl) s)
  | claim e f =>
    exact next h (request_linkView (fun u => by unfold takeClaim; (repeat' split) <;> simp [linkView]) s)
  | release e f => exact next h (holderRequest_linkView (fun f u => by simp [linkView]) s)
  | setDemand e f a b fl g =>
    exact next h (holderRequest_linkView (fun f u => by (repeat' split) <;> simp [linkView, setDemandDone]) s)
  | clearDemand e f a b => exact next h (holderRequest_linkView (fun f u => by split <;> simp [linkView]) s)
  | lock e f a b m =>
    refine next h (holderRequest_linkView (fun f u => ?_) s)
    (repeat' split)
    exacts [lockPass_linkView _ _ _ _ _ (fun c v => by simp [linkView]) u, rfl, rfl]
  | unlock e f a b =>
    refine next h (holderRequest_linkView (fun f u => ?_) s)
    split
    exacts [lockPass_linkView _ _ _ _ _ (fun c v => by simp [linkView]) u, rfl]
  | headroomReset e f a b => exact next h (holderRequest_linkView (fun f u => by split <;> simp [linkView]) s)
  | tone e f a b st => exact next h (holderRequest_linkView (fun f u => by (repeat' split) <;> rfl) s)
  | batchOpen e f n =>
    exact next h (holderRequest_linkView (fun f u => by unfold decideOpen; (repeat' split) <;> rfl) s)
  | batchEntry e f c fl g =>
    exact next h (request_linkView (fun u => by unfold takeEntry botchEntry; (repeat' split) <;> rfl) s)
  | batchCommit e => exact next h (request_linkView (fun u => by unfold takeCommit; (repeat' split) <;> rfl) s)
  | batchCancel e => exact next h (request_linkView (fun u => by unfold takeCancel; (repeat' split) <;> rfl) s)
  | receptionDiscarded cause => exact next h (by unfold receptionDiscarded; split <;> rfl)
  | transmissionAttempt =>
    exact next h (by unfold transmissionAttempt beginAttempt; (repeat' split) <;> rfl)
  | lostAttempt bytes => exact next h (whileRunning_linkView (fun u => by split <;> rfl) s)
  | transmissionFault => exact next h (whileRunning_linkView (fun u => by split <;> rfl) s)
  | messageSent => exact next h (whileRunning_linkView (fun u => by split <;> simp [linkView]) s)
  | pairIdle => exact next h (by unfold pairIdle; (repeat' split) <;> rfl)
  | batchWrite => exact next h (by unfold batchWrite; (repeat' split) <;> simp [linkView])
  | batchTimeout => exact next h (by unfold batchTimeout; (repeat' split) <;> rfl)
  | samplePeriod frame => exact next h (by unfold samplePeriod; split <;> simp [linkView])
  | compensation c => exact next h (by unfold compensation; (repeat' split) <;> simp [linkView])
  | retryWrite c code => exact next h (by unfold retryWrite; (repeat' split) <;> simp [linkView])
  | windowClose => exact next h (by unfold windowClose; split <;> simp [linkView])
  | markEvent tick => exact next h (markEvent_linkView tick s)
  | enterLocked tick =>
    exact next h (by unfold enterLockedAt; dsimp only; split; exacts [markEvent_linkView tick s, rfl])
  | enterHoldover cause => exact next h (enterHoldoverBy_linkView cause s)
  | missingMark => exact next h (declareMissing_linkView s)
  | quietCountExpiry => exact next h (whileRunning_linkView (fun u => by split <;> simp [linkView]) s)
  | markLineRelease => exact next h (whileRunning_linkView (fun u => by split <;> simp [linkView]) s)
  | settleEnd c => exact next h (whileRunning_linkView (fun u => by (repeat' split) <;> simp [linkView]) s)
  | shortTrip c =>
    exact next h (whileRunning_linkView (fun u => by dsimp only; split <;> simp [linkView, settlesAhead]) s)
  | shedLoad => exact next h (whileRunning_linkView (fun u => by split <;> simp [linkView, settlesAhead]) s)
  | bankChange => exact next h (whileRunning_linkView (fun u => by split <;> simp [linkView, settlesAhead]) s)
  | powerGoodChange mg ag => exact next h (by unfold powerGoodChange; split <;> rfl)
  | portLineChange f up =>
    exact next h (whileRunning_linkView
      (fun u => by unfold lineChange; dsimp only; (repeat' split) <;> simp [linkView]) s)
  | feedBlockSent f => exact next h (whileRunning_linkView (fun u => by rfl) s)
  | powerOn | resetLine | resetLineHeld | startUpEnd | blockStart | linkCandidate | boxReset | stationLoss
  | linkEntryExpiry => exact absurd hc nofun

/-! ## What may change the link table -/

theorem linksOrdered_hear {st : Station} {role : Role} {k : State → State}
    (hk : ∀ t, LinksOrdered t → LinksOrdered (k t)) (hs : LinksOrdered s) : LinksOrdered (hear st role k s) := by
  have hended : LinksOrdered (messageEnded s) := hs.same rfl
  unfold hear
  (repeat' split)
  exacts [hs.same rfl, hk _ (hended.same (by simp [linkView])), hs]

theorem linksOrdered_whileRunning {f : State → State} (hf : LinksOrdered (f s)) (hs : LinksOrdered s) :
    LinksOrdered (whileRunning f s) := by
  unfold whileRunning
  split
  exacts [hf, hs]

/-- R78: the loss of a box takes its announcements. -/
theorem linksOrdered_loseStation (st : Station) (role : Role) (hs : LinksOrdered s) :
    LinksOrdered (loseStation st role s) := by
  unfold loseStation
  cases role with
  | desk => exact hs.same (by simp [linkView])
  | box => exact linksOrdered_removeLinks _ (hs.same rfl)

theorem linksOrdered_ageStation (st : Station) (hs : LinksOrdered s) : LinksOrdered (ageStation st s) := by
  unfold ageStation
  (repeat' split)
  exacts [hs.same rfl, linksOrdered_loseStation st _ hs, hs, hs, hs]

theorem linksOrdered_stationsAndBatch (hs : LinksOrdered s) : LinksOrdered (stationsAndBatch s) := by
  have hages {t : State} : LinksOrdered t → LinksOrdered (ageStations t) :=
    linksOrdered_forEach fun st _ => linksOrdered_ageStation st
  have hbatch {t : State} (ht : LinksOrdered t) : LinksOrdered (batchAtBlock t) := ht.same (by simp [linkView])
  unfold stationsAndBatch
  dsimp only
  split
  · exact hbatch (hages (hs.same rfl))
  · exact hages (hbatch (hs.same rfl))

theorem linksOrdered_blockTasks (i : BlockInputs) (hs : LinksOrdered s) : LinksOrdered (blockTasks i s) := by
  have hdriven : LinksOrdered (driveMark i.markLine s) := hs.same (by simp [linkView])
  have hlinks := linksOrdered_ageLinks (linksOrdered_stationsAndBatch hdriven)
  unfold blockTasks
  exact hlinks.same (by simp [linkView])

theorem linksOrdered_blockStart (i : BlockInputs) (hs : LinksOrdered s) : LinksOrdered (blockStart i s) := by
  have hbegun : LinksOrdered (beginBlock (endBlock s)) := hs.same (by simp [linkView])
  unfold blockStart whileRunning blockWork
  split
  · exact (linksOrdered_blockTasks (inputsAt i s.timing) hbegun).same (by simp [linkView])
  · exact hs

theorem linksOrdered_startUpEnd (mainGood auxGood : Bool) (lines : Tab Bool 6) (i : BlockInputs)
    (hs : LinksOrdered s) : LinksOrdered (startUpEnd mainGood auxGood lines i s) := by
  have hrunning : LinksOrdered (startRunning mainGood auxGood lines s) := hs.same rfl
  unfold startUpEnd
  split
  · exact (linksOrdered_blockTasks i hrunning).same (by simp [linkView])
  · exact hs

/-- R79, R177: a box reset empties the table. -/
theorem linksOrdered_takeBoxReset (e : Envelope) (rb : Readback) (hs : LinksOrdered s) :
    LinksOrdered (takeBoxReset e rb s) := by
  unfold takeBoxReset resetBlocks
  split
  · have hforgot {u : State} (hu : linkView u = linkView s) :
        LinksOrdered (freeRoom (removeLinks (fun _ => true) u)) :=
      linksOrdered_freeRoom (linksOrdered_removeLinks _ (hs.same hu))
    refine LinksOrdered.same (hforgot (u := setFeeds (s.feeds.map (orphan fun _ => true))
      { resetReport s with link.stations := s.link.stations.map Presence.forget }) ?_) ?_
    · simp [linkView]
    · simp [linkView]
  · exact hs.same rfl

/-! ## Every command -/

theorem exec_linksOrdered (c : Instr) {s t : State} (hs : LinksOrdered s) (h : exec c s = .next t) :
    LinksOrdered t := by
  have next {u : State} (h : Host.Outcome.next (φ := Fault) (ρ := Refusal) u = .next t) (hu : LinksOrdered u) :
      LinksOrdered t := Host.Outcome.next.inj h ▸ hu
  cases hc : touchesLinks c with
  | false => exact hs.same (exec_linkView hc h)
  | true =>
    cases c with
    | powerOn i => exact next h (linksOrdered_start rfl)
    | resetLine i => exact next h (linksOrdered_start rfl)
    | resetLineHeld => exact next h (linksOrdered_start rfl)
    | startUpEnd mg ag lines i => exact next h (linksOrdered_startUpEnd mg ag lines i hs)
    | blockStart i => exact next h (linksOrdered_blockStart i hs)
    | linkCandidate e g fl ca lo ba =>
      exact next h (linksOrdered_hear (fun _ => linksOrdered_takeLink e.source g fl ca lo ba) hs)
    | boxReset e rb =>
      refine next h (linksOrdered_hear (fun u hu => ?_) hs)
      split
      exacts [linksOrdered_takeBoxReset e rb hu, hu]
    | stationLoss st =>
      refine next h (linksOrdered_whileRunning ?_ hs)
      (repeat' split)
      exacts [hs, linksOrdered_loseStation st _ hs, hs, hs, hs]
    | linkEntryExpiry g source => exact next h (linksOrdered_whileRunning (linksOrdered_removeLinks _ hs) hs)
    | _ => exact absurd hc nofun

/-- Settles O12: a step on an empty queue idles, and any other runs one command. -/
theorem stepKeepsLinkLaw : Obligations.StepKeepsLinkLaw := by
  intro s t hs h
  rw [linkLaw_iff] at hs ⊢
  unfold step at h
  split at h
  · exact Host.Outcome.next.inj h ▸ hs
  · next c rest _ =>
    have hrest : LinksOrdered { s with pending := rest } := hs.same rfl
    exact exec_linksOrdered c hrest h

end Sys2Proof.Proofs
end

section
/-! LINK CANDIDATE (R75, R76, R79): the check of its fields, and what the table makes of a checked announcement: added
where there is room, refused where there is none, renewed where its pair stands already. -/

namespace Sys2Proof.Proofs

open Sys2Proof.Machine Sys2Proof.Laws

variable {s : State}

/-! ## The check of the fields -/

theorem wholeGain_iff {b : Byte} : wholeGain b = true ↔ WholeDb b.toInt := by
  simp [wholeGain, and_assoc]

theorem validBackoff_iff {b : Byte} : validBackoff b = true ↔ BackoffValue b.toInt := by
  simp [validBackoff, and_assoc]

/-- R75, R180: the values are in their ranges; a byte whose flag marks it absent is not checked. -/
abbrev GoodFields (flags candidate locked backoff : Byte) : Prop :=
  (flags.getLsbD 0 = true → WholeDb candidate.toInt) ∧ (flags.getLsbD 1 = true → WholeDb locked.toInt)
    ∧ BackoffValue backoff.toInt

/-- The entry that a message brings (section 5.7). -/
def announced (g : Group) (source : Station) (flags candidate locked backoff : Byte) : LinkEntry :=
  ⟨g, source, if flags.getLsbD 0 then some candidate.toInt else none,
    if flags.getLsbD 1 then some locked.toInt else none, backoff.toInt, 0⟩

section Fields

variable {g : Group} {source : Station} {group flags candidate locked backoff : Byte}

theorem fieldsPass_iff : ((!flags.getLsbD 0 || wholeGain candidate) && (!flags.getLsbD 1 || wholeGain locked)
    && validBackoff backoff) = true ↔ GoodFields flags candidate locked backoff := by
  simp only [Bool.and_eq_true, Bool.or_eq_true, Bool.not_eq_true', wholeGain_iff, validBackoff_iff, and_assoc,
    GoodFields, ← Bool.not_eq_true, ← imp_iff_not_or]

theorem linkEntryOf_good (h : GoodFields flags candidate locked backoff) :
    linkEntryOf g source flags candidate locked backoff = some (announced g source flags candidate locked backoff) :=
  if_pos (fieldsPass_iff.mpr h)

theorem linkEntryOf_bad (h : ¬ GoodFields flags candidate locked backoff) :
    linkEntryOf g source flags candidate locked backoff = none :=
  if_neg fun hpass => h (fieldsPass_iff.mp hpass)

theorem takeLink_ignored (h : groupOf group = none ∨ ¬ GoodFields flags candidate locked backoff
    ∨ ∃ g, groupOf group = some g ∧ s.used g = false) :
    takeLink source group flags candidate locked backoff s = s := by
  rcases h with h | h | ⟨g, hg, hu⟩
  · simp [takeLink, h]
  · simp only [takeLink, linkEntryOf_bad h]
    (repeat' split) <;> rfl
  · simp [takeLink, hg, hu]

theorem takeLink_stored (hg : groupOf group = some g) (hu : s.used g = true)
    (hgood : GoodFields flags candidate locked backoff) : takeLink source group flags candidate locked backoff s
      = storeLink (announced g source flags candidate locked backoff) s := by
  simp [takeLink, hg, hu, linkEntryOf_good hgood]

end Fields

/-! ## What the table makes of an announcement -/

section Store

variable {x y : LinkEntry}

/-- R79: the demand table with the members of a group dirty. -/
def dirtied (g : Group) (s : State) : Tab DemandRec 32 :=
  Tab.gen fun c => if s.group c = g then { s.demand.get c with dirty := true } else s.demand.get c

theorem markGroups_one (g : Group) : markGroups [g] s = { s with demand := dirtied g s } := by
  simp [markGroups, dirtied]

theorem not_sameAs (h : ¬ (y.group = x.group ∧ y.source = x.source)) : y.sameAs x = false := by
  simpa [LinkEntry.sameAs] using h

theorem find_new (hnew : ∀ y ∈ s.gain.table, ¬ (y.group = x.group ∧ y.source = x.source)) :
    s.gain.table.find? (fun y => y.sameAs x) = none :=
  List.find?_eq_none.mpr fun y hy => by simp [not_sameAs (hnew y hy)]

theorem storeLink_added (hnew : ∀ y ∈ s.gain.table, ¬ (y.group = x.group ∧ y.source = x.source))
    (hroom : s.gain.table.length < 32) : storeLink x s
      = { s with gain := { s.gain with table := s.gain.table ++ [x] }, demand := dirtied x.group s } := by
  rw [storeLink, find_new hnew]
  dsimp only
  rw [if_pos hroom, markGroups_one]
  rfl

/-- R76: LINK TABLE FULL is set where it was not, and BOX says so. -/
theorem storeLink_refused (hnew : ∀ y ∈ s.gain.table, ¬ (y.group = x.group ∧ y.source = x.source))
    (hfull : 32 ≤ s.gain.table.length) : storeLink x s = { s with
        gain := { s.gain with full := true }, report := { s.report with keys := (storeLink x s).report.keys } }
      ∧ (s.gain.full = false → Key.box ∈ (storeLink x s).report.keys) := by
  have hstored : storeLink x s
      = if s.gain.full then s else ask .box { s with gain := { s.gain with full := true } } := by
    rw [storeLink, find_new hnew]
    exact if_neg (not_lt.mpr hfull)
  rw [hstored]
  split
  · next h => exact ⟨by conv_rhs => rw [← h], fun hno => absurd h (by simp [hno])⟩
  · exact ⟨rfl, fun _ => (mem_ask .box .box).mpr (.inr rfl)⟩

/-- R79: entries of one pair with the same values differ at most in their age. -/
theorem sameValues_iff (hgroup : y.group = x.group) (hsource : y.source = x.source) :
    y.sameValues x = true ↔ y = { x with age := y.age } := by
  cases x
  cases y
  simp_all [LinkEntry.sameValues, and_assoc]

/-- R75, R79: the entry of the pair gives way to the new one, and only a change of its values makes the group dirty. -/
theorem storeLink_renewed {before after : List LinkEntry} (htable : s.gain.table = before ++ y :: after)
    (hgroup : y.group = x.group) (hsource : y.source = x.source)
    (hothers : ∀ z ∈ before ++ after, ¬ (z.group = x.group ∧ z.source = x.source)) :
    storeLink x s = { s with
      gain := { s.gain with table := before ++ x :: after }
      demand := if y = { x with age := y.age } then s.demand else dirtied x.group s } := by
  have hy : y.sameAs x = true := by simp [LinkEntry.sameAs, hgroup, hsource]
  have hother : ∀ z ∈ before ++ after, z.sameAs x = false := fun z hz => not_sameAs (hothers z hz)
  have hstands {l : List LinkEntry} (hl : l ⊆ before ++ after) :
      l.map (fun z => if z.sameAs x then x else z) = l :=
    (List.map_congr_left fun z hz => by simp [hother z (hl hz)]).trans l.map_id
  have hbefore := List.subset_append_left before after
  have hfind : s.gain.table.find? (fun z => z.sameAs x) = some y := by
    rw [htable, List.find?_append, List.find?_eq_none.mpr fun z hz => by simp [hother z (hbefore hz)],
      Option.none_or]
    exact List.find?_cons_of_pos hy
  have hmap : s.gain.table.map (fun z => if z.sameAs x then x else z) = before ++ x :: after := by
    rw [htable, List.map_append, List.map_cons, hstands hbefore, hstands (List.subset_append_right before after),
      if_pos hy]
  rw [storeLink, hfind]
  dsimp only
  rw [hmap, markGroups_one]
  by_cases h : y = { x with age := y.age }
  · rw [if_pos ((sameValues_iff hgroup hsource).mpr h), if_pos h]
  · rw [if_neg (mt (sameValues_iff hgroup hsource).mp h), if_neg h]
    rfl

end Store

/-! ## The message -/

theorem exec_linkCandidate {e : Envelope} (group flags candidate locked backoff : Byte) (hc : s.canHear = true)
    (hne : e.source ≠ s.own) : exec (.linkCandidate e group flags candidate locked backoff) s
      = .next (takeLink e.source group flags candidate locked backoff
          (withPresent e.source .box (messageEnded s))) := by
  refine congrArg Host.Outcome.next ?_
  rw [hear_other .box _ hc hne, recordHearing_no_arrival (by simp)]

/-- Settles O41: the message is heard, and its entry taken by the case of the table. -/
theorem linkCandidateIsStored : Obligations.LinkCandidateIsStored := by
  intro e group flags candidate locked backoff s hc hne
  have hexec := exec_linkCandidate group flags candidate locked backoff hc hne
  refine ⟨fun h => hexec.trans (congrArg Host.Outcome.next (takeLink_ignored h)), fun g hg hused hgood => ?_⟩
  have hstored := hexec.trans (congrArg Host.Outcome.next (takeLink_stored hg hused hgood))
  refine ⟨fun hnew hroom => ?_, fun hnew hfull => ⟨_, hstored, storeLink_refused hnew hfull⟩,
    fun before after y htable hgroup hsource hothers => ?_⟩
  · exact hstored.trans (congrArg Host.Outcome.next (storeLink_added hnew hroom))
  · exact hstored.trans (congrArg Host.Outcome.next (storeLink_renewed htable hgroup hsource hothers))

end Sys2Proof.Proofs
end

section
/-! The candidate of a request set (R66): the least and the greatest of a list, and what the gain chosen from them
satisfies. -/

namespace Sys2Proof.Proofs

open Sys2Proof.Machine Sys2Proof.Laws

/-! ## Least and greatest -/

theorem least_eq_min? (l : List Int) : least l = l.min? := by cases l <;> rfl

theorem greatest_eq_max? (l : List Int) : greatest l = l.max? := by cases l <;> rfl

theorem least_eq_some_iff {l : List Int} {a : Int} : least l = some a ↔ a ∈ l ∧ ∀ b ∈ l, a ≤ b := by
  rw [least_eq_min?]
  exact List.min?_eq_some_iff

theorem greatest_eq_some_iff {l : List Int} {a : Int} : greatest l = some a ↔ a ∈ l ∧ ∀ b ∈ l, b ≤ a := by
  rw [greatest_eq_max?]
  exact List.max?_eq_some_iff

theorem least_eq_none_iff {l : List Int} : least l = none ↔ l = [] := by
  rw [least_eq_min?]
  exact List.min?_eq_none_iff

/-! ## The chosen gain -/

theorem candidate_of_bounds {l : List Int} {lo hi : Int} (hlo : lo ∈ l) (hhi : hi ∈ l)
    (hall : ∀ r ∈ l, lo ≤ r ∧ r ≤ hi) : candidate l = some (chooseGain lo hi) := by
  have hleast : least l = some lo := least_eq_some_iff.mpr ⟨hlo, fun r hr => (hall r hr).1⟩
  have hgreatest : greatest l = some hi := greatest_eq_some_iff.mpr ⟨hhi, fun r hr => (hall r hr).2⟩
  simp only [candidate, hleast, hgreatest]

/-- R66, step 3: rounding down gives the even count next below. -/
theorem wholeDown_eq {lo n : Int} (heven : n % 2 = 0) (hle : n ≤ lo) (hlt : lo < n + 2) : wholeDown lo = n := by
  unfold wholeDown
  omega

/-- R66, step 4: rounding up gives the even count next above. -/
theorem wholeUp_bounds (n : Int) : wholeUp n % 2 = 0 ∧ n ≤ wholeUp n ∧ wholeUp n < n + 2 := by
  unfold wholeUp
  omega

/-- Settles O42: steps 1 and 2 take the least and the greatest request, and the span from A0 decides step 4. -/
theorem candidateRule : Obligations.CandidateRule := by
  refine ⟨rfl, ?_⟩
  rintro l lo hi a₀ hlo hhi hall hlow hhigh ⟨n, heven, hle, hlt, rfl⟩
  have hcandidate := candidate_of_bounds hlo hhi hall
  rw [chooseGain, wholeDown_eq heven hle hlt] at hcandidate
  refine ⟨fun hspan => ?_, fun hspan => ?_⟩
  · rw [if_neg (not_lt.mpr hspan)] at hcandidate
    exact ⟨hcandidate, by omega⟩
  · rw [if_pos hspan] at hcandidate
    obtain ⟨hwhole, habove, hnext⟩ := wholeUp_bounds (hi - 48)
    exact ⟨_, hcandidate, hwhole, habove, hnext, by omega, by omega, by omega⟩

end Sys2Proof.Proofs
end

section
/-! The resolution (R65, R67 to R71, R73, R74, R80): what the request sets, backoffs, locked values and candidates of a
group are made of, which channels a block start resolves, and what that makes of their records and of the announce
records of their groups. -/

namespace Sys2Proof.Proofs

open Sys2Proof.Machine Sys2Proof.Laws

variable {s : State}

/-! ## Members and requests -/

theorem mem_members {g : Group} {c : Chan} : c ∈ s.members g ↔ s.group c = g := by
  simp [State.members, mem_channels]

/-- R65: the requested gains feed by feed. -/
theorem requestsOf_eq (s : State) (c : Chan) : requestsOf s c
    = (List.finRange 6).filterMap fun f => ((s.demand.get c).view.get f).map fun x => x.gain := by
  rw [requestsOf, list_eq_map_get, List.filterMap_map]
  rfl

theorem mem_requestsOf {c : Chan} {r : Int} :
    r ∈ requestsOf s c ↔ ∃ f x, (s.demand.get c).view.get f = some x ∧ x.gain = r := by
  simp [requestsOf_eq]

theorem groupRequests_eq (s : State) (g : Group) :
    groupRequests s g = channels.flatMap fun d => if s.group d = g then requestsOf s d else [] := by
  rw [groupRequests, State.members]
  induction channels with
  | nil => rfl
  | cons c l ih => by_cases h : s.group c = g <;> simp [h, ih]

/-! ## The fresh set and the values of a group -/

theorem mem_freshSet_iff {g : Group} {x : LinkEntry} : x ∈ freshSet s g ↔ x ∈ s.gain.table ∧ x.group = g := by
  simp [freshSet]

/-- The greatest of a list and a seed bounds all of them and is one of them. -/
theorem foldl_max_spec (l : List Int) (b : Int) :
    b ≤ l.foldl max b ∧ (∀ a ∈ l, a ≤ l.foldl max b) ∧ (l.foldl max b = b ∨ l.foldl max b ∈ l) := by
  obtain ⟨hmem, hbound⟩ := List.max?_eq_some_iff.mp (List.max?_cons' (x := b) (xs := l))
  exact ⟨hbound b List.mem_cons_self, fun a ha => hbound a (List.mem_cons_of_mem b ha), List.mem_cons.mp hmem⟩

/-- R80: the own group backoff is the greatest of the members', of which there is one. -/
theorem groupBackoff_spec {g : Group} {c : Chan} (hc : s.group c = g) (hb : 0 ≤ (s.head.recs.get c).backoff) :
    (∀ d, s.group d = g → (s.head.recs.get d).backoff ≤ groupBackoff s g)
      ∧ ∃ d, s.group d = g ∧ groupBackoff s g = (s.head.recs.get d).backoff := by
  obtain ⟨-, hbound, hone⟩ := foldl_max_spec ((s.members g).map fun c => (s.head.recs.get c).backoff) 0
  have hle (d : Chan) (hd : s.group d = g) : (s.head.recs.get d).backoff ≤ groupBackoff s g :=
    hbound _ (List.mem_map_of_mem (mem_members.mpr hd))
  refine ⟨hle, hone.elim (fun hzero => ⟨c, hc, le_antisymm (hzero.trans_le hb) (hle c hc)⟩) fun hmem => ?_⟩
  obtain ⟨d, hd, hbackoff⟩ := List.mem_map.mp hmem
  exact ⟨d, mem_members.mp hd, hbackoff.symm⟩

theorem effectiveBackoff_unlinked {c : Chan} (h : s.group c = 0) :
    effectiveBackoff s c = (s.head.recs.get c).backoff := if_pos h

/-- R67: the effective backoff of a linked channel is the greatest of its group's, here and in the link table. -/
theorem effectiveBackoff_linked {c : Chan} (h : s.group c ≠ 0) (hb : 0 ≤ (s.head.recs.get c).backoff) :
    (∀ d, s.group d = s.group c → (s.head.recs.get d).backoff ≤ effectiveBackoff s c)
      ∧ (∀ x ∈ s.gain.table, x.group = s.group c → x.backoff ≤ effectiveBackoff s c)
      ∧ ((∃ d, s.group d = s.group c ∧ effectiveBackoff s c = (s.head.recs.get d).backoff)
        ∨ ∃ x ∈ s.gain.table, x.group = s.group c ∧ effectiveBackoff s c = x.backoff) := by
  obtain ⟨hown, d, hd, hone⟩ := groupBackoff_spec rfl hb
  obtain ⟨hseed, hlinks, hmax⟩ :=
    foldl_max_spec ((freshSet s (s.group c)).map fun x => x.backoff) (groupBackoff s (s.group c))
  rw [effectiveBackoff, if_neg h]
  refine ⟨fun d hd => (hown d hd).trans hseed,
    fun x hx hg => hlinks _ (List.mem_map_of_mem (mem_freshSet_iff.mpr ⟨hx, hg⟩)),
    hmax.imp (fun heq => ⟨d, hd, heq.trans hone⟩) fun hmem => ?_⟩
  obtain ⟨x, hx, hbackoff⟩ := List.mem_map.mp hmem
  obtain ⟨hx, hg⟩ := mem_freshSet_iff.mp hx
  exact ⟨x, hx, hg, hbackoff.symm⟩

theorem mem_lockedMembers {g : Group} {n : Int} :
    n ∈ lockedMembers s g ↔ ∃ d, s.group d = g ∧ (s.gain.recs.get d).lock.frozen = some n := by
  simp [lockedMembers, mem_members]

/-- R69, case 1. -/
theorem mem_lockedValues {g : Group} {n : Int} : n ∈ lockedValues s g
    ↔ (∃ d, s.group d = g ∧ (s.gain.recs.get d).lock.frozen = some n)
      ∨ ∃ x ∈ s.gain.table, x.group = g ∧ x.locked = some n := by
  simp [lockedValues, mem_lockedMembers, mem_freshSet_iff, and_assoc]

/-- R69, case 2. -/
theorem mem_groupCandidates {g : Group} {n : Int} : n ∈ groupCandidates s g
    ↔ candidate (groupRequests s g) = some n ∨ ∃ x ∈ s.gain.table, x.group = g ∧ x.candidate = some n := by
  simp [groupCandidates, mem_freshSet_iff, and_assoc]

/-! ## Targets and trims -/

theorem frozen_eq_none_iff {l : Lock} : l.frozen = none ↔ l = .opened := by cases l <;> simp [Lock.frozen]

theorem targetOf_locked {c : Chan} {beff n : Int} (h : (s.gain.recs.get c).lock.frozen = some n) :
    targetOf s c beff = n := by
  rw [targetOf, h]

theorem targetOf_unlinked {c : Chan} (beff : Int) (h : (s.gain.recs.get c).lock = .opened) (hg : s.group c = 0) :
    targetOf s c beff
      = match candidate (requestsOf s c) with | some a => max 0 (a - beff) | none => s.settled c := by
  rw [targetOf, frozen_eq_none_iff.mpr h]
  exact if_pos hg

theorem targetOf_linked {c : Chan} (beff : Int) (h : (s.gain.recs.get c).lock = .opened) (hg : s.group c ≠ 0) :
    targetOf s c beff = groupTarget s c beff := by
  rw [targetOf, frozen_eq_none_iff.mpr h]
  exact if_neg hg

/-- R69: the least locked value; failing that the least candidate less the backoff; failing that the settled gain. -/
theorem groupTarget_spec (c : Chan) (beff : Int) :
    let g := s.group c
    let locks := fun n => (∃ d, s.group d = g ∧ (s.gain.recs.get d).lock.frozen = some n)
      ∨ ∃ x ∈ s.gain.table, x.group = g ∧ x.locked = some n
    let cands := fun n => candidate (channels.flatMap fun d => if s.group d = g then requestsOf s d else []) = some n
      ∨ ∃ x ∈ s.gain.table, x.group = g ∧ x.candidate = some n
    (∀ n, locks n → (∀ m, locks m → n ≤ m) → groupTarget s c beff = n)
      ∧ ((∀ n, ¬ locks n) → ∀ n, cands n → (∀ m, cands m → n ≤ m) →
        groupTarget s c beff = max 0 (n - beff))
      ∧ ((∀ n, ¬ locks n) → (∀ n, ¬ cands n) → groupTarget s c beff = s.settled c) := by
  simp only [← groupRequests_eq, ← mem_lockedValues, ← mem_groupCandidates]
  unfold groupTarget
  refine ⟨fun n hn hleast => ?_, fun hnone n hn hleast => ?_, fun hnone hno => ?_⟩
  · rw [least_eq_some_iff.mpr ⟨hn, hleast⟩]
  · rw [least_eq_none_iff.mpr (List.eq_nil_iff_forall_not_mem.mpr hnone), least_eq_some_iff.mpr ⟨hn, hleast⟩]
  · rw [least_eq_none_iff.mpr (List.eq_nil_iff_forall_not_mem.mpr hnone),
      least_eq_none_iff.mpr (List.eq_nil_iff_forall_not_mem.mpr hno)]

/-- R71. -/
theorem trimsOf_get (beff a : Int) (view : Entries) (f : Feed) : (trimsOf beff a view).get f = match view.get f with
    | none => ⟨0, false⟩
    | some x =>
      let n := x.gain - beff - a
      ⟨max (-48) (min 48 n), decide (n < -48 ∨ 48 < n)⟩ := by
  rw [trimsOf, get_map]
  cases view.get f <;> simp [trimOf, limitTrim]

/-! ## Which channels are resolved -/

/-- R73: a channel is resolved where it, or for a linked channel a member of its group, is dirty. -/
theorem toResolve_iff {c : Chan} : toResolve s c = true ↔ if s.group c = 0 then (s.demand.get c).dirty = true
    else ∃ d, s.group d = s.group c ∧ (s.demand.get d).dirty = true := by
  unfold toResolve
  split
  · rfl
  · simp [mem_members]

/-- R73: a link group with a dirty member is resolved. -/
def GroupDue (s : State) (g : Group) : Prop := g ≠ 0 ∧ ∃ d, s.group d = g ∧ (s.demand.get d).dirty = true

theorem mem_groupsResolved {g : Group} : g ∈ linkGroups.filter (groupResolved s) ↔ GroupDue s g := by
  have hgroup (hg : g ≠ 0) : groupResolved s g = true ↔ ∃ d, s.group d = g ∧ (s.demand.get d).dirty = true := by
    simp only [groupResolved, List.any_eq_true, mem_members, toResolve_iff]
    refine ⟨?_, ?_⟩
    · rintro ⟨c, rfl, h⟩
      simpa [hg] using h
    · rintro ⟨d, rfl, h⟩
      exact ⟨d, rfl, by simpa [hg] using ⟨d, rfl, h⟩⟩
  simp only [linkGroups, List.mem_filter, List.mem_finRange, true_and, bne_iff_ne, GroupDue]
  exact and_congr_right hgroup

/-! ## The announce records -/

/-- What an announce record is worked out from: the group's members, their views, locks and backoffs (R80). -/
theorem announceOf_congr {t : State} {g : Group} (hconfig : t.config = s.config)
    (hview : ∀ c, (t.demand.get c).view = (s.demand.get c).view)
    (hlock : ∀ c, (t.gain.recs.get c).lock = (s.gain.recs.get c).lock) (hhead : t.head = s.head) :
    announceOf t g = announceOf s g := by
  have hmembers : t.members g = s.members g := by simp [State.members, State.group, hconfig]
  have hrequests : requestsOf t = requestsOf s := funext fun c => by rw [requestsOf, requestsOf, hview]
  simp only [announceOf, groupRequests, lockedMembers, groupBackoff, hmembers, hrequests, hlock, hhead]

theorem updateAnnounce_announce (g h : Group) (s : State) : (updateAnnounce g s).gain.announce.get h
    = if h = g then announceOf s g else s.gain.announce.get h := by
  unfold updateAnnounce
  split
  · next hsame =>
    split
    · next e => rw [e, hsame]
    · rfl
  · exact get_set _ _ _ _

theorem updateAnnounce_keysAsked (g : Group) (s : State) :
    KeysAsked (fun k => announceOf s g ≠ s.gain.announce.get g ∧ k = .link g) s (updateAnnounce g s) := by
  unfold updateAnnounce
  split
  · next h => exact keysAsked_congr (keysAsked_refl s) (by simp [h])
  · next h =>
    have hasked : KeysAsked (· = .link g) s
        (ask (.link g) { s with gain := { s.gain with announce := s.gain.announce.set g (announceOf s g) } }) :=
      keysAsked_ask _ _
    exact keysAsked_congr hasked (by simp [h])

theorem announceOf_updateAnnounce (g h : Group) (s : State) : announceOf (updateAnnounce h s) g = announceOf s g :=
  announceOf_congr (by simp) (by simp) (by simp) (by simp)

theorem announceRounds_announce (l : List Group) (g : Group) (s : State) :
    (forEach l updateAnnounce s).gain.announce.get g
      = if g ∈ l then announceOf s g else s.gain.announce.get g := by
  induction l generalizing s with
  | nil => rfl
  | cons h l ih =>
    rw [forEach_cons, ih, announceOf_updateAnnounce, updateAnnounce_announce]
    by_cases hl : g ∈ l <;> by_cases hg : g = h <;> simp [hl, hg]

theorem announceRounds_keysAsked {l : List Group} (hl : l.Nodup) (s : State) :
    KeysAsked (fun k => ∃ g ∈ l, announceOf s g ≠ s.gain.announce.get g ∧ k = .link g) s
      (forEach l updateAnnounce s) :=
  forEach_keysAsked (due := fun g t => announceOf t g ≠ t.gain.announce.get g) hl updateAnnounce_keysAsked
    (fun a b t hne => by rw [announceOf_updateAnnounce, updateAnnounce_announce, if_neg hne]) s

/-! ## The resolution as a whole -/

/-- The records of the channels resolved are written and CHANNEL is asked for; the announce records are next (R74). -/
def channelsResolved (s : State) : State :=
  forEach (channels.filter (changedBy s (writeResolved s))) (fun c => ask (.channel c)) (writeResolved s)

theorem resolveAll_eq (s : State) :
    resolveAll s = forEach (linkGroups.filter (groupResolved s)) updateAnnounce (channelsResolved s) := rfl

theorem announceOf_channelsResolved (g : Group) (s : State) :
    announceOf (channelsResolved s) g = announceOf s g := by
  refine announceOf_congr (by simp [channelsResolved]) (fun c => ?_) (fun c => ?_) (by simp [channelsResolved])
  · have hdemand : (channelsResolved s).demand = (resolveAll s).demand := by simp [resolveAll_eq]
    rw [hdemand, resolveAll_demand]
  · have hrecs : (channelsResolved s).gain.recs = (resolveAll s).gain.recs := by simp [resolveAll_eq]
    rw [hrecs, resolveAll_lock]

theorem channelsResolved_announce (s : State) : (channelsResolved s).gain.announce = s.gain.announce := by
  simp [channelsResolved]

theorem resolveAll_announce_due {g : Group} (h : GroupDue s g) :
    (resolveAll s).gain.announce.get g = announceOf s g := by
  rw [resolveAll_eq, announceRounds_announce, if_pos (mem_groupsResolved.mpr h), announceOf_channelsResolved]

theorem resolveAll_announce_stands {g : Group} (h : ¬ GroupDue s g) :
    (resolveAll s).gain.announce.get g = s.gain.announce.get g := by
  rw [resolveAll_eq, announceRounds_announce, if_neg (mt mem_groupsResolved.mp h), channelsResolved_announce]

/-- R74: CHANNEL for each record that changed. -/
theorem mem_channelsResolved (k : Key) : k ∈ (channelsResolved s).report.keys ↔ k ∈ s.report.keys
    ∨ ∃ c, (resolveAll s).gain.recs.get c ≠ s.gain.recs.get c ∧ k = .channel c := by
  have hrecs : (resolveAll s).gain.recs = (writeResolved s).gain.recs := by simp [resolveAll]
  simp [channelsResolved, mem_forEach_ask, mem_channels, changedBy, hrecs, eq_comm (a := s.gain.recs.get _)]

/-- R74, R80: the keys that a resolution asks for. -/
theorem mem_resolveAll (k : Key) : k ∈ (resolveAll s).report.keys ↔ k ∈ s.report.keys
    ∨ (∃ c, (resolveAll s).gain.recs.get c ≠ s.gain.recs.get c ∧ k = .channel c)
    ∨ ∃ g, GroupDue s g ∧ announceOf s g ≠ s.gain.announce.get g ∧ k = .link g := by
  have hgroups : (linkGroups.filter (groupResolved s)).Nodup := ((List.nodup_finRange 16).filter _).filter _
  have hasked := (announceRounds_keysAsked hgroups (channelsResolved s)).2 k
  simp only [mem_groupsResolved, announceOf_channelsResolved, channelsResolved_announce, mem_channelsResolved,
    or_assoc] at hasked
  exact hasked

theorem link_mem_resolveAll {g : Group} : Key.link g ∈ (resolveAll s).report.keys ↔ Key.link g ∈ s.report.keys
    ∨ (resolveAll s).gain.announce.get g ≠ s.gain.announce.get g := by
  rw [mem_resolveAll]
  by_cases h : GroupDue s g
  · simp [resolveAll_announce_due h, h]
  · simp [resolveAll_announce_stands h, h]

theorem channel_mem_resolveAll {c : Chan} : Key.channel c ∈ (resolveAll s).report.keys
    ↔ Key.channel c ∈ s.report.keys ∨ (resolveAll s).gain.recs.get c ≠ s.gain.recs.get c := by
  simp [mem_resolveAll]

theorem resolveAll_frame (s : State) : resolveAll s = { s with
    demand := (resolveAll s).demand
    gain := { s.gain with recs := (resolveAll s).gain.recs, announce := (resolveAll s).gain.announce }
    report := { s.report with keys := (resolveAll s).report.keys } } := by
  have hkeeps := resolveAll_keeps s
  generalize resolveAll s = t at hkeeps ⊢
  apply state_ext
  case hgain => apply gain_ext <;> simp [hkeeps]
  case hreport => apply report_ext <;> simp [hkeeps]
  all_goals simp [hkeeps]

/-- R80: what an announce record worked out afresh says of a group with a member. -/
theorem announceOf_spec {g : Group} {c : Chan} (hc : s.group c = g) :
    (announceOf s g).candidate
        = candidate (channels.flatMap fun d => if s.group d = g then requestsOf s d else [])
      ∧ (∀ n, (announceOf s g).locked = some n
        ↔ (∃ d, s.group d = g ∧ (s.gain.recs.get d).lock.frozen = some n)
          ∧ ∀ m, (∃ d, s.group d = g ∧ (s.gain.recs.get d).lock.frozen = some m) → n ≤ m)
      ∧ ((∀ d, BackoffValue (s.head.recs.get d).backoff) →
        (∀ d, s.group d = g → (s.head.recs.get d).backoff ≤ (announceOf s g).backoff)
        ∧ ∃ d, s.group d = g ∧ (announceOf s g).backoff = (s.head.recs.get d).backoff) := by
  refine ⟨by rw [← groupRequests_eq]; rfl, fun n => ?_, fun hb => groupBackoff_spec hc (hb c).1⟩
  simp only [← mem_lockedMembers]
  exact least_eq_some_iff

/-- R73: a channel that is not resolved keeps its record, and has no dirty mark to clear. -/
theorem resolveAll_stands {c : Chan} (h : ¬ toResolve s c = true) :
    (resolveAll s).gain.recs.get c = s.gain.recs.get c ∧ (resolveAll s).demand.get c = s.demand.get c := by
  have hclean : (s.demand.get c).dirty = false := Bool.eq_false_iff.mpr (mt toResolve_of_dirty h)
  refine ⟨by rw [resolveAll_recs, if_neg h], ?_⟩
  rw [resolveAll_demand, ← hclean]

/-- Settles O43: the announce record of a group, and then the record of a channel, is one worked out afresh where it is
due, and stands elsewhere. -/
theorem resolutionGivesBackoffTargetAndTrims : Obligations.ResolutionGivesBackoffTargetAndTrims := by
  refine ⟨fun s c => ⟨requestsOf_eq s c, fun r => mem_requestsOf⟩, fun s g => ?_, fun s c => ?_⟩
  · refine ⟨resolveAll_announce_stands, fun hdue => ?_, link_mem_resolveAll, fun c => channel_mem_resolveAll,
      resolveAll_frame s⟩
    obtain ⟨-, d, hd, -⟩ := id hdue
    rw [resolveAll_announce_due hdue]
    exact announceOf_spec hd
  · intro g due b r own
    have hdue : toResolve s c = true ↔ due := toResolve_iff
    refine ⟨fun hno => ?_, fun hyes => ?_⟩
    · exact resolveAll_stands (mt hdue.mp hno)
    · have hr : r = resolved s c := (resolveAll_recs s c).trans (if_pos (hdue.mpr hyes))
      refine ⟨resolveAll_demand s c, resolveAll_lock s c, ?_⟩
      clear_value r
      subst hr
      refine ⟨effectiveBackoff_unlinked, fun hg hb => effectiveBackoff_linked hg hb.1, fun n => targetOf_locked,
        fun hopen hg => targetOf_unlinked _ hopen hg, fun hopen hg => ?_, fun f => trimsOf_get _ _ _ f⟩
      have htarget : (resolved s c).target = groupTarget s c (resolved s c).beff := targetOf_linked _ hopen hg
      obtain ⟨hlocks, hcands, hsettled⟩ := groupTarget_spec c (resolved s c).beff
      rw [htarget]
      exact ⟨hlocks, hcands, hsettled⟩

end Sys2Proof.Proofs
end

section
/-! The step controller's exchanges (R85 to R88, R90, R94 to R97): each decision of a block start is named by the
exchange that it makes, an exchange by the record that it leaves, and a block start makes each channel's decision on
that channel's own records. Then the compensation and the retry write, commanded by themselves. -/

namespace Sys2Proof.Proofs

open Sys2Proof.Machine Sys2Proof.Laws

variable {s : State}

/-! ## Reading back -/

theorem readMatches_of_eq {rb : Readback} {c : Chan} {gain : Int} (h : readsBack rb c (gain / 2) = gain / 2) :
    readMatches rb c gain = true := beq_iff_eq.mpr h

theorem readMatches_of_ne {rb : Readback} {c : Chan} {gain : Int} (h : readsBack rb c (gain / 2) ≠ gain / 2) :
    ¬ readMatches rb c gain = true := mt beq_iff_eq.mp h

/-- One code read back matches where it is the code of the gain (R88, R97). -/
theorem readMatches_one (c : Chan) (code : Byte) (gain : Int) :
    readMatches [(c, code)] c gain = true ↔ (code.toNat : Int) = gain / 2 := by
  simp [readMatches, readsBack, codeOf]

/-! ## What an exchange leaves -/

/-- Writing a record asks for CHANNEL at most. -/
theorem changeStep_frame (c : Chan) (r : StepRec) (s : State) : changeStep c r s = { s with
    steps := s.steps.set c r
    report := { s.report with keys := (changeStep c r s).report.keys } } := by
  apply state_ext
  case hsteps => exact changeStep_steps c r s
  case hreport => apply report_ext <;> simp
  all_goals simp

theorem changeStep_get (c : Chan) (r : StepRec) (s : State) : (changeStep c r s).steps.get c = r := by
  rw [changeStep_steps, get_set_self]

theorem changeStep_other {c d : Chan} (hd : d ≠ c) (r : StepRec) (s : State) :
    (changeStep c r s).steps.get d = s.steps.get d := by
  rw [changeStep_steps, get_set_of_ne _ _ hd]

/-- CHANNEL is asked for where the front-end state changes (R100). -/
theorem channel_mem_changeStep {c : Chan} {r : StepRec} (h : r.front.isFault ≠ (s.steps.get c).front.isFault) :
    Key.channel c ∈ (changeStep c r s).report.keys := by
  unfold changeStep
  rw [if_neg fun ⟨_, _, hfront⟩ => h hfront.symm]
  exact (mem_ask _ _).mpr (.inr rfl)

/-- Entering FAULT writes its record, sets the event bit and asks for CHANNEL (R95, R166). -/
theorem enterFault_enters (c : Chan) (r : StepRec) (s : State) :
    (enterFault c r s).steps.get c = { r with moving := false, mismatch := 0, front := .fault 0 }
      ∧ ((enterFault c r s).report.events.get c).getLsbD 8 = true
      ∧ Key.channel c ∈ (enterFault c r s).report.keys := by
  refine ⟨changeStep_get c _ s, ?_, ?_⟩
  · rw [enterFault, setEvent_events, if_pos rfl]
    simp [Event.mask, Event.index]
  · rw [enterFault, setEvent_keys, mem_ask]
    exact .inr rfl

theorem mismatched_first {c : Chan} {r : StepRec} (h : r.mismatch = 0) :
    mismatched c r s = changeStep c { r with mismatch := 1 } s := if_pos h

theorem mismatched_again {c : Chan} {r : StepRec} (h : r.mismatch ≠ 0) : mismatched c r s = enterFault c r s :=
  if_neg h

/-- A step exchange that matches issues the step; the first mismatch is counted, the second is a fault (R88, R94,
R95). -/
theorem stepExchange_decides (rb : Readback) (c : Chan) (target : Int) (r : StepRec) (s : State) :
    let next := stepToward r.applied target
    let t := stepExchange rb c target r s
    (readsBack rb c (next / 2) = next / 2 → t.steps.get c = { r with
        pending := some ⟨next, s.config.latency, true⟩, age := 0, mismatch := 0, moving := true, code := next / 2 })
      ∧ (readsBack rb c (next / 2) ≠ next / 2 → r.mismatch = 0 →
        t.steps.get c = { r with mismatch := 1, code := next / 2 })
      ∧ (readsBack rb c (next / 2) ≠ next / 2 → r.mismatch = 1 →
        t.steps.get c = { r with mismatch := 0, code := next / 2, moving := false, front := .fault 0 }
        ∧ (t.report.events.get c).getLsbD 8 = true ∧ Key.channel c ∈ t.report.keys) := by
  intro next t
  have hmiss (h : readsBack rb c (next / 2) ≠ next / 2) : t = mismatched c { r with code := codeOf next } s :=
    if_neg (readMatches_of_ne h)
  refine ⟨fun h => ?_, fun h hm => ?_, fun h hm => ?_⟩
  · exact (congrArg (fun u : State => u.steps.get c) (if_pos (readMatches_of_eq h))).trans (changeStep_get c _ s)
  · rw [hmiss h, mismatched_first (r := { r with code := codeOf next }) hm]
    exact changeStep_get c _ s
  · rw [hmiss h, mismatched_again (r := { r with code := codeOf next }) (ne_of_eq_of_ne hm one_ne_zero)]
    exact enterFault_enters c _ s

/-- A restore write that matches ends the mismatch; one that mismatches is the second (R94, R95). -/
theorem restoreWrite_decides (rb : Readback) (c : Chan) {r : StepRec} (s : State) (hm : r.mismatch = 1) :
    let held := r.applied / 2
    let t := restoreWrite rb c r s
    (readsBack rb c held = held → t.steps.get c = { r with mismatch := 0, code := held })
      ∧ (readsBack rb c held ≠ held →
        t.steps.get c = { r with mismatch := 0, code := held, moving := false, front := .fault 0 }
        ∧ (t.report.events.get c).getLsbD 8 = true) := by
  intro held t
  refine ⟨fun h => ?_, fun h => ?_⟩
  · exact (congrArg (fun u : State => u.steps.get c) (if_pos (readMatches_of_eq h))).trans (changeStep_get c _ s)
  · have hmiss : t = mismatched c { r with code := held } s := if_neg (readMatches_of_ne h)
    obtain ⟨hrec, hbit, -⟩ := enterFault_enters c { r with code := held } s
    rw [hmiss, mismatched_again (r := { r with code := held }) (ne_of_eq_of_ne hm one_ne_zero)]
    exact ⟨hrec, hbit⟩

theorem retryExchange_matches {rb : Readback} {c : Chan} {r : StepRec} (h : readMatches rb c r.applied = true) :
    retryExchange rb c r s = changeStep c { r with code := codeOf r.applied, front := .good, mismatch := 0 } s :=
  if_pos h

theorem retryExchange_fails {rb : Readback} {c : Chan} {r : StepRec} (h : ¬ readMatches rb c r.applied = true) :
    retryExchange rb c r s = changeStep c { r with code := codeOf r.applied, front := .fault 0 } s := if_neg h

/-! ## The decision of a block start -/

section Decision

variable {rb : Readback} {c : Chan} {target : Int} {r : StepRec}

/-- R87: no exchange is made while a step is pending. -/
theorem decideStep_pending (h : r.pending.isSome = true) : decideStep rb c target r s = changeStep c r s := if_pos h

/-- R86, R87: none is made at the target, or before the step interval has passed. -/
theorem decideStep_waits (hp : r.pending = none) (hm : r.mismatch = 0)
    (h : r.applied = target ∨ r.age < stepInterval s.config) : decideStep rb c target r s = changeStep c r s := by
  unfold decideStep
  rw [if_neg (by simp [hp]), if_pos hm, if_pos h]

/-- R87, R94: a step exchange is made when the interval has passed, or at once after a mismatch. -/
theorem decideStep_exchanges (hp : r.pending = none) (hne : r.applied ≠ target)
    (h : r.mismatch = 0 ∧ stepInterval s.config ≤ r.age ∨ r.mismatch = 1) :
    decideStep rb c target r s = stepExchange rb c target r s := by
  unfold decideStep
  rw [if_neg (by simp [hp])]
  rcases h with ⟨hm, hage⟩ | hm
  · rw [if_pos hm, if_neg (not_or.mpr ⟨hne, not_lt.mpr hage⟩)]
  · rw [if_neg (by rw [hm]; decide), if_neg hne]

/-- R94: at the target a mismatch is followed by a restore write. -/
theorem decideStep_restores (hp : r.pending = none) (heq : r.applied = target) (hm : r.mismatch ≠ 0) :
    decideStep rb c target r s = restoreWrite rb c r s := by
  unfold decideStep
  rw [if_neg (by simp [hp]), if_neg hm, if_pos heq]

end Decision

/-- The record of a GOOD channel with the step age and the move state of this block start (R85, R86). -/
def advanced (target : Int) (r : StepRec) : StepRec :=
  { r with age := min 8 (r.age + 1), moving := decide (r.applied ≠ target) || r.pending.isSome }

section BlockStart

variable {rb : Readback} {c : Chan}

/-- Where the retry was made ahead, only the step age advances (log entry 1). -/
theorem stepAtBlock_retried (h : Ahead.retry c ∈ s.ahead) : stepAtBlock rb c s
    = { s with steps := s.steps.set c { s.steps.get c with age := min 8 ((s.steps.get c).age + 1) } } :=
  (if_pos h).trans (putStep_eq _ _ _)

theorem stepAtBlock_good (h : Ahead.retry c ∉ s.ahead) (hf : (s.steps.get c).front = .good) : stepAtBlock rb c s
    = decideStep rb c (s.gain.recs.get c).target (advanced (s.gain.recs.get c).target (s.steps.get c)) s := by
  unfold stepAtBlock
  dsimp only
  rw [if_neg h]
  split
  · rfl
  · next n hn => exact absurd (hf.symm.trans hn) nofun

/-- R96: below 100 the retry age is counted. -/
theorem stepAtBlock_ages {n : Nat} (h : Ahead.retry c ∉ s.ahead) (hf : (s.steps.get c).front = .fault n)
    (hn : n + 1 < 100) : stepAtBlock rb c s = { s with
      steps := s.steps.set c
        { s.steps.get c with age := min 8 ((s.steps.get c).age + 1), front := .fault (n + 1) } } := by
  unfold stepAtBlock
  dsimp only
  rw [if_neg h, hf]
  exact (if_pos hn).trans (putStep_eq _ _ _)

/-- R97: at 100 the retry write is made. -/
theorem stepAtBlock_retries {n : Nat} (h : Ahead.retry c ∉ s.ahead) (hf : (s.steps.get c).front = .fault n)
    (hn : 99 ≤ n) : stepAtBlock rb c s
      = retryExchange rb c { s.steps.get c with age := min 8 ((s.steps.get c).age + 1) } s := by
  unfold stepAtBlock
  dsimp only
  rw [if_neg h, hf]
  exact if_neg (by omega)

end BlockStart

/-! ## Each channel on its own records -/

theorem mismatched_congr (c : Chan) (r : StepRec) (s t : State) :
    (mismatched c r s).steps.get c = (mismatched c r t).steps.get c := by
  unfold mismatched enterFault
  split <;> simp [changeStep_steps]

theorem mismatched_other {c d : Chan} (hd : d ≠ c) (r : StepRec) (s : State) :
    (mismatched c r s).steps.get d = s.steps.get d := by
  unfold mismatched enterFault
  split <;> simp [changeStep_steps, get_set_of_ne _ _ hd]

theorem changeStep_congr (c : Chan) (r : StepRec) (s t : State) :
    (changeStep c r s).steps.get c = (changeStep c r t).steps.get c := by
  rw [changeStep_get, changeStep_get]

theorem decideStep_congr (rb : Readback) (c : Chan) (target : Int) (r : StepRec) {s t : State}
    (h : s.config = t.config) :
    (decideStep rb c target r s).steps.get c = (decideStep rb c target r t).steps.get c := by
  have hstays := changeStep_congr c r s t
  have hexchange : (stepExchange rb c target r s).steps.get c = (stepExchange rb c target r t).steps.get c := by
    unfold stepExchange
    dsimp only
    rw [h]
    split
    exacts [changeStep_congr c _ s t, mismatched_congr c _ s t]
  have hrestore : (restoreWrite rb c r s).steps.get c = (restoreWrite rb c r t).steps.get c := by
    unfold restoreWrite
    dsimp only
    split
    exacts [changeStep_congr c _ s t, mismatched_congr c _ s t]
  unfold decideStep
  rw [h]
  (repeat' split)
  exacts [hstays, hstays, hexchange, hrestore, hexchange]

theorem decideStep_other (rb : Readback) {c d : Chan} (hd : d ≠ c) (target : Int) (r : StepRec) (s : State) :
    (decideStep rb c target r s).steps.get d = s.steps.get d := by
  have hstays := changeStep_other hd r s
  have hexchange : (stepExchange rb c target r s).steps.get d = s.steps.get d := by
    unfold stepExchange
    dsimp only
    split
    exacts [changeStep_other hd _ s, mismatched_other hd _ s]
  have hrestore : (restoreWrite rb c r s).steps.get d = s.steps.get d := by
    unfold restoreWrite
    dsimp only
    split
    exacts [changeStep_other hd _ s, mismatched_other hd _ s]
  unfold decideStep
  (repeat' split)
  exacts [hstays, hstays, hexchange, hrestore, hexchange]

/-- What a channel's decision reads: its record, its target, the configuration and the retries made ahead. -/
def deciderView (c : Chan) (s : State) : StepRec × Int × Configuration × List Ahead :=
  (s.steps.get c, (s.gain.recs.get c).target, s.config, s.ahead)

theorem stepAtBlock_congr (rb : Readback) {c : Chan} {s t : State} (h : deciderView c s = deciderView c t) :
    (stepAtBlock rb c s).steps.get c = (stepAtBlock rb c t).steps.get c := by
  simp only [deciderView, Prod.mk.injEq] at h
  obtain ⟨hrec, htarget, hconfig, hahead⟩ := h
  unfold stepAtBlock retryExchange
  dsimp only
  rw [hrec, htarget, hahead]
  (repeat' split)
  · simp
  · exact decideStep_congr rb c _ _ hconfig
  · simp
  · exact changeStep_congr c _ s t
  · exact changeStep_congr c _ s t

/-- A channel's decision writes its own record and no other. -/
theorem stepAtBlock_other (rb : Readback) {c d : Chan} (hd : d ≠ c) (s : State) :
    (stepAtBlock rb c s).steps.get d = s.steps.get d := by
  unfold stepAtBlock retryExchange
  dsimp only
  (repeat' split)
  · simp [get_set_of_ne _ _ hd]
  · exact decideStep_other rb hd _ _ s
  · simp [get_set_of_ne _ _ hd]
  · exact changeStep_other hd _ s
  · exact changeStep_other hd _ s

/-- A block start makes of each channel's record what the channel's decision alone makes of it. -/
theorem stepAll_steps (rb : Readback) (s : State) (c : Chan) :
    (stepAll rb s).steps.get c = (stepAtBlock rb c s).steps.get c := by
  have hother (b : Chan) (t : State) (hb : b ≠ c) : deciderView c (stepAtBlock rb b t) = deciderView c t := by
    rw [deciderView, stepAtBlock_other rb hb.symm]
    simp [deciderView]
  obtain ⟨u, hview, hend⟩ := forEach_at (deciderView c) channels_nodup (mem_channels c) hother s
  obtain ⟨hrec, -⟩ := Prod.mk.inj hend
  rw [stepAll, hrec]
  exact stepAtBlock_congr rb hview

theorem stepAtBlock_frame (rb : Readback) (c : Chan) (s : State) : stepAtBlock rb c s = { s with
    steps := (stepAtBlock rb c s).steps
    report := (stepAtBlock rb c s).report
    link := { s.link with pair := (stepAtBlock rb c s).link.pair } } := by
  apply state_ext
  case hlink => apply link_ext <;> simp
  all_goals simp

/-! ## The decision by case -/

/-- Settles O44: the decision is named by its exchange, case by case. -/
theorem stepControllerDecides : Obligations.StepControllerDecides := by
  refine ⟨fun rb s => ⟨rfl, stepAll_steps rb s, fun c => stepAtBlock_retried⟩, fun rb c s hahead => ?_⟩
  intro r target age next moving t still
  have hgood (hf : r.front = .good) : t = decideStep rb c target still s := stepAtBlock_good hahead hf
  refine ⟨fun d hd => stepAtBlock_other rb hd s, fun hf hm h => ?_, fun hf hm hp => ?_, fun hf hp hne h => ?_,
    fun hf hp heq hm => ?_, fun n hf => ?_, stepAtBlock_frame rb c s⟩
  · rw [hgood hf]
    cases hp : r.pending with
    | some p => rw [decideStep_pending (r := still) (Option.isSome_of_eq_some hp), changeStep_get]
    | none =>
      have hwait : r.applied = target ∨ age < stepInterval s.config := by simpa [hp] using h
      rw [decideStep_waits (r := still) hp hm hwait, changeStep_get]
  · rw [hgood hf, decideStep_pending (r := still) hp, changeStep_get]
  · rw [hgood hf, decideStep_exchanges (r := still) hp hne h]
    exact stepExchange_decides rb c target still s
  · rw [hgood hf, decideStep_restores (r := still) hp heq (ne_of_eq_of_ne hm one_ne_zero)]
    exact restoreWrite_decides rb c (r := still) s hm
  · refine ⟨fun hn => ?_, fun hn hmatch => ?_, fun hn hmiss => ?_⟩
    · rw [show t = _ from stepAtBlock_ages hahead hf hn, get_set_self]
    · rw [show t = _ from stepAtBlock_retries hahead hf hn, retryExchange_matches (r := { r with age := age })
        (readMatches_of_eq hmatch)]
      exact changeStep_get c _ s
    · rw [show t = _ from stepAtBlock_retries hahead hf hn, retryExchange_fails (r := { r with age := age })
        (readMatches_of_ne hmiss)]
      exact changeStep_get c _ s

/-! ## The compensation and the retry write by themselves -/

/-- R89, R90: a step that comes to 0 at the coming sample period of a block that goes on is compensated. -/
theorem compensation_due {c : Chan} {p : PendingStep} (hrun : s.running = true) (hslip : s.timing.slip = false)
    (hbegun : s.timing.begun < 48) (hp : (s.steps.get c).pending = some p) (hdue : p.coming = 0) :
    compensation c s = compensate c s := by
  have hover : s.timing.blockOver = false := by simp [Timing.blockOver, hslip, hbegun]
  unfold compensation
  rw [hrun, hover, hp]
  exact if_pos hdue

/-- R97: a retry age that comes to 100 at the coming block start makes the retry write, which is noted. -/
theorem retryWrite_due {c : Chan} {n : Nat} (code : Byte) (hrun : s.running = true)
    (hfault : (s.steps.get c).front = .fault n) (hdue : 99 ≤ n) : retryWrite c code s
      = retryExchange [(c, code)] c (s.steps.get c) { s with ahead := .retry c :: s.ahead } := by
  unfold retryWrite
  rw [if_pos hrun, hfault]
  exact if_neg (by omega)

theorem coming_eq_zero {p : PendingStep} (h : if p.atIssue then p.countdown = 0 else p.countdown ≤ 1) :
    p.coming = 0 := by
  unfold PendingStep.coming
  split at h <;> simp_all

/-- Settles O45: the compensation by what it changes, then the retry write by whether its code matches. -/
theorem compensationAndRetry : Obligations.CompensationAndRetry := by
  refine ⟨fun c s p hrun hslip hbegun hp hcoming => ?_, fun c code s n hrun hfault hdue => ?_⟩
  · have hdone : compensation c s = compensate c s := compensation_due hrun hslip hbegun hp (coming_eq_zero hcoming)
    rw [compensate_eq hp] at hdone
    refine ⟨compensation c s, rfl, ?_, fun f => ?_, ?_⟩ <;> rw [hdone]
    · simp [ask, Tab.modify]
    · rw [ask_gain, get_modify, if_pos rfl]
      exact trimsOf_get _ _ _ f
    · exact (mem_ask _ _).mpr (.inr rfl)
  · intro held
    refine ⟨retryWrite c code s, rfl, ?_⟩
    rw [retryWrite_due code hrun hfault hdue]
    by_cases hmatch : (code.toNat : Int) = held
    · rw [retryExchange_matches ((readMatches_one c code _).mpr hmatch), if_pos hmatch]
      refine ⟨changeStep_frame _ _ _, fun _ => channel_mem_changeStep ?_⟩
      dsimp only
      rw [hfault]
      exact Bool.false_ne_true
    · rw [retryExchange_fails (mt (readMatches_one c code _).mp hmatch), if_neg hmatch]
      exact ⟨changeStep_frame _ _ _, fun h => absurd h hmatch⟩

end Sys2Proof.Proofs
end

section
/-! The applied gain and the locks (R84, R90, R116, R118, R119): between two states a step runs on, as it stood or
compensated, unless a block start issues one; a lock is taken at the settled gain, which no compensation moves; and what
a block start resolves has its frozen gain for target, so that it issues no step there. -/

namespace Sys2Proof.Proofs

open Sys2Proof.Machine Sys2Proof.Laws

variable {s t : State}

/-! ## Steps that run on -/

/-- The value of the pending step, without its countdown. -/
def stepValue (r : StepRec) : Option Int := r.pending.map PendingStep.value

/-- A and the pending step are as they were, its countdown apart. -/
def Stands (r r' : StepRec) : Prop := r'.applied = r.applied ∧ stepValue r' = stepValue r

/-- The pending step has been compensated: A has its value (R90). -/
def Completes (r r' : StepRec) : Prop := ∃ p, r.pending = some p ∧ r'.applied = p.value ∧ r'.pending = none

/-- No step has been issued. -/
def RunsOn (r r' : StepRec) : Prop := Stands r r' ∨ Completes r r'

theorem runsOn_refl (r : StepRec) : RunsOn r r := .inl ⟨rfl, rfl⟩

theorem stepValue_eq_some {r : StepRec} {g : Int} (h : stepValue r = some g) :
    ∃ p, r.pending = some p ∧ p.value = g := Option.map_eq_some_iff.mp h

theorem stepValue_eq_none {r : StepRec} : stepValue r = none ↔ r.pending = none := Option.map_eq_none_iff

theorem runsOn_trans {a b c : StepRec} (h₁ : RunsOn a b) (h₂ : RunsOn b c) : RunsOn a c := by
  rcases h₁ with ⟨happlied, hvalue⟩ | ⟨p, hp, happlied, hnone⟩
  · rcases h₂ with ⟨happlied', hvalue'⟩ | ⟨q, hq, hend, hnone⟩
    · exact .inl ⟨happlied'.trans happlied, hvalue'.trans hvalue⟩
    · have hstep : stepValue a = some q.value := by rw [← hvalue, stepValue, hq]; rfl
      obtain ⟨p, hp, hpq⟩ := stepValue_eq_some hstep
      exact .inr ⟨p, hp, hend.trans hpq.symm, hnone⟩
  · rcases h₂ with ⟨happlied', hvalue'⟩ | ⟨q, hq, -⟩
    · have hnone' : c.pending = none := stepValue_eq_none.mp (hvalue'.trans (stepValue_eq_none.mpr hnone))
      exact .inr ⟨p, hp, happlied'.trans happlied, hnone'⟩
    · rw [hnone] at hq
      cases hq

theorem settled_eq (r : StepRec) : r.settled = (stepValue r).getD r.applied := by
  unfold StepRec.settled stepValue
  cases r.pending <;> rfl

/-- A step that runs on leaves the settled analog gain (R84). -/
theorem settled_of_runsOn {r r' : StepRec} (h : RunsOn r r') : r'.settled = r.settled := by
  rcases h with ⟨happlied, hvalue⟩ | ⟨p, hp, happlied, hnone⟩
  · rw [settled_eq, settled_eq, happlied, hvalue]
  · simp [StepRec.settled, hp, happlied, hnone]

/-! ## Steps and locks between two states -/

/-- No step is issued, and the locks stand at their settled gains where they did. -/
structure KeepsLocks (s t : State) : Prop where
  runs : ∀ c, RunsOn (s.steps.get c) (t.steps.get c)
  law : LockLaw s → LockLaw t

theorem keepsLocks_refl (s : State) : KeepsLocks s s := ⟨fun _ => runsOn_refl _, id⟩

theorem KeepsLocks.trans {u : State} (h₁ : KeepsLocks s t) (h₂ : KeepsLocks t u) : KeepsLocks s u :=
  ⟨fun c => runsOn_trans (h₁.runs c) (h₂.runs c), fun h => h₂.law (h₁.law h)⟩

/-- Where steps run on, locks and targets stand, and no dirty mark goes, the law stands. -/
theorem keepsLocks_of_records (hruns : ∀ c, RunsOn (s.steps.get c) (t.steps.get c))
    (hlock : ∀ c, (t.gain.recs.get c).lock = (s.gain.recs.get c).lock)
    (htarget : ∀ c, (t.gain.recs.get c).target = (s.gain.recs.get c).target)
    (hdirty : ∀ c, (s.demand.get c).dirty = true → (t.demand.get c).dirty = true) : KeepsLocks s t := by
  refine ⟨hruns, fun hlaw c g hg => ?_⟩
  rw [hlock] at hg
  obtain ⟨hsettled, hdue⟩ := hlaw c g hg
  exact ⟨(settled_of_runsOn (hruns c)).trans hsettled, hdue.imp (hdirty c) (htarget c).trans⟩

theorem keepsLocks_of_dirty (hsteps : t.steps = s.steps) (hrecs : t.gain.recs = s.gain.recs)
    (hdirty : ∀ c, (s.demand.get c).dirty = true → (t.demand.get c).dirty = true) : KeepsLocks s t :=
  keepsLocks_of_records (fun c => hsteps ▸ runsOn_refl _) (fun c => by rw [hrecs]) (fun c => by rw [hrecs]) hdirty

/-- The records that the lock law speaks of. -/
def lockRecords (s : State) := (s.steps, s.gain.recs, s.demand)

theorem keepsLocks_of_same (h : lockRecords t = lockRecords s) : KeepsLocks s t := by
  simp only [lockRecords, Prod.mk.injEq] at h
  obtain ⟨hsteps, hrecs, hdemand⟩ := h
  exact keepsLocks_of_dirty hsteps hrecs fun c => by rw [hdemand]; exact id

theorem KeepsLocks.same {u : State} (hs : KeepsLocks s t) (h : lockRecords u = lockRecords t) : KeepsLocks s u :=
  hs.trans (keepsLocks_of_same h)

theorem keepsLocks_after {u : State} (ht : KeepsLocks t u) (h : lockRecords t = lockRecords s) : KeepsLocks s u :=
  (keepsLocks_of_same h).trans ht

theorem keepsLocks_forEach {α : Type} {l : List α} {g : α → State → State} (hg : ∀ a t, KeepsLocks t (g a t))
    (s : State) : KeepsLocks s (forEach l g s) :=
  forEach_induct (fun a _ t ht => ht.trans (hg a t)) (keepsLocks_refl s)

/-! ## Dirty marks -/

theorem keepsLocks_markDirty (c : Chan) (s : State) : KeepsLocks s (markDirty c s) := by
  refine keepsLocks_of_dirty rfl rfl fun d hd => ?_
  rw [markDirty, get_modify]
  split
  exacts [rfl, hd]

theorem keepsLocks_markGroups (gs : List Group) (s : State) : KeepsLocks s (markGroups gs s) :=
  keepsLocks_of_dirty rfl rfl fun c hc => by simp [markGroups_demand, hc]

/-- R52: a channel whose entry is replaced becomes dirty. -/
theorem keepsLocks_putEntry (f : Feed) (o : Option Entry) (c : Chan) (s : State) : KeepsLocks s (putEntry f o c s) := by
  refine keepsLocks_of_dirty (by simp) (by simp) fun d hd => ?_
  rw [putEntry_demand, withEntry, get_set]
  split
  exacts [rfl, hd]

theorem keepsLocks_removeEntry (f : Feed) (c : Chan) (s : State) : KeepsLocks s (removeEntry f c s) := by
  unfold removeEntry
  split
  exacts [keepsLocks_putEntry f none c s, keepsLocks_refl s]

theorem keepsLocks_removeLinks (p : LinkEntry → Bool) (s : State) : KeepsLocks s (removeLinks p s) := by
  obtain ⟨hgain, hdemand, -⟩ := removeLinks_removes p s
  exact keepsLocks_of_dirty (by simp) (by rw [hgain]) fun c hc => by simp [hdemand, hc]

theorem keepsLocks_storeLink (x : LinkEntry) (s : State) : KeepsLocks s (storeLink x s) := by
  have hmark (gs : List Group) (table : List LinkEntry) :
      KeepsLocks s (markGroups gs { s with gain := { s.gain with table := table } }) :=
    keepsLocks_after (keepsLocks_markGroups gs _) rfl
  unfold storeLink
  (repeat' split)
  exacts [keepsLocks_of_same rfl, hmark _ _, hmark _ _, keepsLocks_refl s, keepsLocks_of_same rfl]

theorem keepsLocks_takeLink (source : Station) (group flags candidate locked backoff : Byte) (s : State) :
    KeepsLocks s (takeLink source group flags candidate locked backoff s) := by
  unfold takeLink
  (repeat' split)
  exacts [keepsLocks_storeLink _ s, keepsLocks_refl s, keepsLocks_refl s, keepsLocks_refl s]

theorem keepsLocks_loseStation (st : Station) (role : Role) (s : State) : KeepsLocks s (loseStation st role s) := by
  cases role with
  | desk => exact keepsLocks_of_same (by simp [loseStation, lockRecords])
  | box => exact keepsLocks_after (keepsLocks_removeLinks _ (withLost st .box s)) rfl

theorem keepsLocks_ageStation (st : Station) (s : State) : KeepsLocks s (ageStation st s) := by
  unfold ageStation
  (repeat' split)
  exacts [keepsLocks_of_same rfl, keepsLocks_loseStation st _ s, keepsLocks_refl s, keepsLocks_refl s,
    keepsLocks_refl s]

/-! ## Headroom -/

theorem keepsLocks_clearBackoff (c : Chan) (s : State) : KeepsLocks s (clearBackoff c s) :=
  keepsLocks_after (keepsLocks_markDirty c _) rfl

theorem keepsLocks_resetHead (c : Chan) (s : State) : KeepsLocks s (resetHead c s) := by
  unfold resetHead
  dsimp only
  split
  exacts [keepsLocks_of_same rfl, keepsLocks_after (keepsLocks_markDirty c _) rfl]

theorem keepsLocks_raiseBackoff (c : Chan) (s : State) : KeepsLocks s (raiseBackoff c s) := by
  unfold raiseBackoff
  dsimp only
  split
  exacts [keepsLocks_after (keepsLocks_markDirty c _) rfl, keepsLocks_of_same rfl]

theorem keepsLocks_judgeWindow (c : Chan) (s : State) : KeepsLocks s (judgeWindow c s) := by
  unfold judgeWindow episode
  (repeat' split)
  exacts [keepsLocks_after (keepsLocks_raiseBackoff c _) rfl, keepsLocks_of_same rfl, keepsLocks_refl s]

theorem keepsLocks_closeWindow (s : State) : KeepsLocks s (closeWindow s) := by
  have hrounds : KeepsLocks s (forEach channels judgeWindow s) := keepsLocks_forEach keepsLocks_judgeWindow s
  unfold closeWindow
  generalize forEach channels judgeWindow s = t at hrounds ⊢
  exact hrounds.same rfl

theorem keepsLocks_windowAtBlock (s : State) : KeepsLocks s (windowAtBlock s) := by
  unfold windowAtBlock
  (repeat' split)
  exacts [keepsLocks_refl s, keepsLocks_of_same rfl, keepsLocks_closeWindow s]

/-! ## Locks -/

/-- R116, R119: a lock whose frozen gain is the settled gain keeps the law: the channel becomes dirty. -/
theorem keepsLocks_setLock {c : Chan} {l : Lock} (hl : LockLaw s → ∀ g, l.frozen = some g → s.settled c = g) :
    KeepsLocks s (setLock c l s) := by
  rw [setLock_eq]
  split
  · refine ⟨fun d => runsOn_refl _, fun hlaw d g hg => ?_⟩
    by_cases hd : d = c
    · subst hd
      have hlock : l.frozen = some g := by simpa [changeLock, get_modify] using hg
      exact ⟨hl hlaw g hlock, .inl (by simp [changeLock, markDirty, get_modify])⟩
    · simp only [changeLock, markDirty, setEvent_gain, setEvent_demand, get_modify, if_neg hd] at hg ⊢
      exact hlaw d g hg
  · exact keepsLocks_refl s

theorem keepsLocks_open (c : Chan) (s : State) : KeepsLocks s (setLock c .opened s) := keepsLocks_setLock fun _ => nofun

/-- R118: a lock is taken at the settled gain, or stays frozen where it was. -/
theorem keepsLocks_lockChannel (f : Feed) (fix : Bool) (c : Chan) (s : State) :
    KeepsLocks s (lockChannel f fix c s) := by
  refine keepsLocks_setLock fun hlaw g hg => ?_
  cases hl : (s.gain.recs.get c).lock with
  | opened =>
    rw [hl] at hg
    cases fix <;> exact Option.some.inj hg
  | held h n =>
    have hsettled := (hlaw c n (by rw [hl]; rfl)).1
    rw [hl] at hg
    cases fix <;> exact hsettled.trans (Option.some.inj hg)
  | fixed h n =>
    have hsettled := (hlaw c n (by rw [hl]; rfl)).1
    rw [hl] at hg
    exact hsettled.trans (Option.some.inj hg)

theorem keepsLocks_openHeld (p : Feed → Bool) (c : Chan) (s : State) : KeepsLocks s (openHeld p c s) := by
  rw [openHeld_eq]
  split
  exacts [keepsLocks_open c s, keepsLocks_refl s]

/-! ## Compensations and retries -/

/-- A change of one step record that runs on. -/
theorem runsOn_set {c : Chan} {r : StepRec} (hr : RunsOn (s.steps.get c) r) (d : Chan) :
    RunsOn (s.steps.get d) ((s.steps.set c r).get d) := by
  rw [get_set]
  split
  · next hd => rwa [hd]
  · exact runsOn_refl _

/-- R90. -/
theorem keepsLocks_compensate (c : Chan) (s : State) : KeepsLocks s (compensate c s) := by
  cases hp : (s.steps.get c).pending with
  | none =>
    unfold compensate
    dsimp only
    rw [hp]
    exact keepsLocks_refl s
  | some p =>
    rw [compensate_eq hp]
    refine keepsLocks_of_records (runsOn_set (.inr ⟨p, hp, rfl, rfl⟩)) (fun d => ?_) (fun d => ?_) fun d => id
    all_goals
      rw [ask_gain, get_modify]
      split <;> rfl

/-- R89. -/
theorem keepsLocks_countDown (c : Chan) (s : State) : KeepsLocks s (countDown c s) := by
  cases hp : (s.steps.get c).pending with
  | none =>
    rw [countDown_idle hp]
    exact keepsLocks_refl s
  | some p =>
    by_cases h : p.coming = 0
    · rw [countDown_due hp h]
      exact keepsLocks_compensate c s
    · rw [countDown_waits hp h]
      exact keepsLocks_of_records (runsOn_set (.inl ⟨rfl, by simp [stepValue, hp]⟩)) (fun _ => rfl)
        (fun _ => rfl) fun _ => id

theorem keepsLocks_changeStep {c : Chan} {r : StepRec} (hr : RunsOn (s.steps.get c) r) :
    KeepsLocks s (changeStep c r s) := by
  refine keepsLocks_of_records (fun d => ?_) (by simp) (by simp) (by simp)
  rw [changeStep_steps]
  exact runsOn_set hr d

/-- R97. -/
theorem keepsLocks_retryExchange (rb : Readback) (c : Chan) (s : State) :
    KeepsLocks s (retryExchange rb c (s.steps.get c) s) := by
  unfold retryExchange
  dsimp only
  split <;> exact keepsLocks_changeStep (.inl ⟨rfl, rfl⟩)

/-- R99. -/
theorem keepsLocks_boxResetRetry (rb : Readback) (c : Chan) (s : State) : KeepsLocks s (boxResetRetry rb c s) := by
  unfold boxResetRetry
  dsimp only
  (repeat' split)
  · exact keepsLocks_changeStep (.inl ⟨rfl, rfl⟩)
  · refine KeepsLocks.same (t := putStep c _ s) ?_ rfl
    rw [putStep_eq]
    exact keepsLocks_of_records (runsOn_set (.inl ⟨rfl, rfl⟩)) (fun _ => rfl) (fun _ => rfl) fun _ => id
  · exact keepsLocks_refl s

/-! ## Sample periods, box reset and requests -/

theorem keepsLocks_samplePeriod (frame : Tab Sample 32) (s : State) : KeepsLocks s (samplePeriod frame s) := by
  have hticks : KeepsLocks s (toSample s) := keepsLocks_of_same (by simp [lockRecords])
  have hcounted : KeepsLocks (toSample s) (stepsCounted s) := by
    unfold stepsCounted
    exact keepsLocks_forEach keepsLocks_countDown _
  have hwork : KeepsLocks s (sampleWork frame s) := by
    rw [sampleWork_eq]
    generalize stepsCounted s = w at hcounted ⊢
    exact (hticks.trans hcounted).same rfl
  unfold samplePeriod
  split
  exacts [hwork, keepsLocks_refl s]

/-- R177. -/
theorem keepsLocks_resetBlocks (rb : Readback) (s : State) : KeepsLocks s (resetBlocks rb s) := by
  have hlinks (t : State) : KeepsLocks t (freeRoom (removeLinks (fun _ => true) t)) :=
    (keepsLocks_removeLinks (fun _ => true) t).same (by simp [lockRecords])
  have hopen (t : State) : KeepsLocks t (forEach channels (openHeld fun _ => true) t) :=
    keepsLocks_forEach (keepsLocks_openHeld _) t
  have hheads (t : State) : KeepsLocks t (forEach channels resetHead t) := keepsLocks_forEach keepsLocks_resetHead t
  have hretry (t : State) : KeepsLocks t (forEach channels (boxResetRetry rb) t) :=
    keepsLocks_forEach (keepsLocks_boxResetRetry rb) t
  have hforgot : KeepsLocks s (setFeeds (s.feeds.map (orphan fun _ => true))
      { resetReport s with link.stations := s.link.stations.map Presence.forget }) :=
    keepsLocks_of_same (by simp [lockRecords])
  have hblocks := (((hforgot.trans (hlinks _)).trans (hopen _)).trans (hheads _)).trans (hretry _)
  exact hblocks.same (by simp [lockRecords, resetBlocks])

theorem keepsLocks_hear {st : Station} {role : Role} {k : State → State} (hk : ∀ t, KeepsLocks t (k t))
    (s : State) : KeepsLocks s (hear st role k s) := by
  unfold hear
  (repeat' split)
  · exact keepsLocks_of_same rfl
  · exact keepsLocks_after (hk _) (by simp [lockRecords])
  · exact keepsLocks_refl s

theorem keepsLocks_request {e : Envelope} {k : State → State} (hk : ∀ t, KeepsLocks t (k t)) (s : State) :
    KeepsLocks s (request e k s) :=
  keepsLocks_hear (fun t => by split; exacts [hk t, keepsLocks_refl t]) s

theorem keepsLocks_holderRequest {e : Envelope} {kind feed : Byte} {k : Feed → State → State}
    (hk : ∀ f t, KeepsLocks t (k f t)) (s : State) : KeepsLocks s (request e (withHolder e kind feed k) s) := by
  refine keepsLocks_request (fun t => ?_) s
  unfold withHolder
  (repeat' split)
  exacts [hk _ t, keepsLocks_of_same rfl, keepsLocks_of_same rfl]

theorem keepsLocks_answer (e : Envelope) (kind : Byte) (code : OutcomeCode) (s : State) :
    KeepsLocks s (answer e kind code s) := keepsLocks_of_same rfl

theorem keepsLocks_lockPass (e : Envelope) (kind : Byte) (f : Feed) (unlocking : Bool) (cs : List Chan)
    {k : Chan → State → State} (hk : ∀ c t, KeepsLocks t (k c t)) (s : State) :
    KeepsLocks s (lockPass e kind f unlocking cs k s) := by
  unfold lockPass
  split
  exacts [keepsLocks_of_same rfl, (keepsLocks_forEach hk s).same rfl]

/-- R39: entries go, channels open, and the rest of a release touches no lock. -/
theorem keepsLocks_releaseFeed (f : Feed) (s : State) : KeepsLocks s (releaseFeed f s) := by
  have hbound : KeepsLocks s (bindFeed f .free s) := keepsLocks_of_same (by simp [lockRecords])
  have hentries (t : State) : KeepsLocks t (removeFeedEntries f t) := by
    unfold removeFeedEntries
    exact keepsLocks_forEach (keepsLocks_removeEntry f) t
  have hopen (t : State) : KeepsLocks t (forEach channels (openHeld fun g => g == f) t) :=
    keepsLocks_forEach (keepsLocks_openHeld _) t
  have hopened := (hbound.trans (hentries _)).trans (hopen _)
  exact hopened.same (by simp [lockRecords, releaseFeed])

theorem keepsLocks_setDemandDone (e : Envelope) (f : Feed) (cs : List Chan) (w : DemandWrite) (s : State) :
    KeepsLocks s (setDemandDone e f cs w s) :=
  (keepsLocks_forEach (l := cs) (g := writeChannel f w s.timing.counter)
    (fun c t => keepsLocks_putEntry f _ c t) s).same (by simp [lockRecords, setDemandDone])

theorem keepsLocks_writeBatch (b : BatchBody) (blk : Word16) (s : State) : KeepsLocks s (writeBatch b blk s) :=
  (keepsLocks_forEach (l := b.items) (g := writeItem b.feed blk)
    (fun i t => keepsLocks_putEntry b.feed _ i.chan t) s).same rfl

/-! ## The commands that begin no block -/

theorem keepsLocks_whileRunning {f : State → State} (hf : KeepsLocks s (f s)) : KeepsLocks s (whileRunning f s) := by
  unfold whileRunning
  split
  exacts [hf, keepsLocks_refl s]

/-- What `f` leaves, `f` while running leaves. -/
theorem whileRunning_keeps {α : Type} (p : State → α) {f : State → State} (hf : ∀ u, p (f u) = p u)
    (s : State) : p (whileRunning f s) = p s := by
  unfold whileRunning
  split
  exacts [hf s, rfl]

theorem markEvent_lockRecords (tick : Nat) (s : State) : lockRecords (markEvent tick s) = lockRecords s :=
  whileRunning_keeps lockRecords (fun u => by simp [lockRecords]) s

theorem declareMissing_lockRecords (s : State) : lockRecords (declareMissing s) = lockRecords s :=
  whileRunning_keeps lockRecords (fun u => by split <;> simp [lockRecords]) s

theorem enterHoldoverBy_lockRecords (cause : BadMark) (s : State) :
    lockRecords (enterHoldoverBy cause s) = lockRecords s := by
  unfold enterHoldoverBy
  dsimp only
  (repeat' split)
  exacts [markEvent_lockRecords _ s, rfl, declareMissing_lockRecords s, rfl]

/-- The commands that change no step, no lock, no target and no dirty mark. -/
theorem exec_lockRecords {m : Instr} {s t : State} (hm : leavesLawRecords m = true) (h : exec m s = .next t) :
    lockRecords t = lockRecords s := by
  have next {u : State} (h : Host.Outcome.next (φ := Fault) (ρ := Refusal) u = .next t)
      (hu : lockRecords u = lockRecords s) : lockRecords t = lockRecords s := Host.Outcome.next.inj h ▸ hu
  cases m with
  | receptionDiscarded cause => exact next h (by unfold receptionDiscarded; split <;> rfl)
  | transmissionAttempt =>
    exact next h (by unfold transmissionAttempt beginAttempt; (repeat' split) <;> rfl)
  | lostAttempt bytes => exact next h (whileRunning_keeps lockRecords (fun u => by split <;> rfl) s)
  | transmissionFault => exact next h (whileRunning_keeps lockRecords (fun u => by split <;> rfl) s)
  | messageSent => exact next h (whileRunning_keeps lockRecords (fun u => by split <;> simp [lockRecords]) s)
  | pairIdle => exact next h (by unfold pairIdle; (repeat' split) <;> rfl)
  | markEvent tick => exact next h (markEvent_lockRecords tick s)
  | enterLocked tick =>
    exact next h (by unfold enterLockedAt; dsimp only; split; exacts [markEvent_lockRecords tick s, rfl])
  | enterHoldover cause => exact next h (enterHoldoverBy_lockRecords cause s)
  | missingMark => exact next h (declareMissing_lockRecords s)
  | quietCountExpiry => exact next h (whileRunning_keeps lockRecords (fun u => by split <;> simp [lockRecords]) s)
  | markLineRelease => exact next h (whileRunning_keeps lockRecords (fun u => by split <;> simp [lockRecords]) s)
  | settleEnd c => exact next h (whileRunning_keeps lockRecords (fun u => by (repeat' split) <;> simp [lockRecords]) s)
  | shortTrip c =>
    exact next h (whileRunning_keeps lockRecords (fun u => by dsimp only; split <;> simp [lockRecords, settlesAhead]) s)
  | shedLoad => exact next h (whileRunning_keeps lockRecords (fun u => by split <;> simp [lockRecords, settlesAhead]) s)
  | bankChange =>
    exact next h (whileRunning_keeps lockRecords (fun u => by split <;> simp [lockRecords, settlesAhead]) s)
  | powerGoodChange mg ag => exact next h (by unfold powerGoodChange; split <;> rfl)
  | portLineChange f up =>
    exact next h (whileRunning_keeps lockRecords
      (fun u => by unfold lineChange; dsimp only; (repeat' split) <;> simp [lockRecords]) s)
  | feedBlockSent f => exact next h (whileRunning_keeps lockRecords (fun u => by rfl) s)
  | _ => exact absurd hm nofun

/-- The commands that do the work of a block, its resolution and its step decisions (R18, R172). -/
def beginsBlock : Instr → Bool
  | .blockStart _ | .startUpEnd _ _ _ _ => true
  | _ => false

theorem exec_keepsLocks {m : Instr} {s t : State} (hstart : m.isStart = false) (hblock : beginsBlock m = false)
    (h : exec m s = .next t) : KeepsLocks s t := by
  have next {u : State} (h : Host.Outcome.next (φ := Fault) (ρ := Refusal) u = .next t) (hu : KeepsLocks s u) :
      KeepsLocks s t := Host.Outcome.next.inj h ▸ hu
  cases hm : leavesLawRecords m with
  | true => exact keepsLocks_of_same (exec_lockRecords hm h)
  | false =>
    cases m with
    | presence e => exact next h (keepsLocks_hear keepsLocks_refl s)
    | reply e => exact next h (keepsLocks_hear keepsLocks_refl s)
    | channelState e => exact next h (keepsLocks_hear keepsLocks_refl s)
    | boxState e => exact next h (keepsLocks_hear keepsLocks_refl s)
    | invalidMessage st kind => exact next h (keepsLocks_hear (fun _ => keepsLocks_of_same (by rfl)) s)
    | linkCandidate e g fl ca lo ba => exact next h (keepsLocks_hear (keepsLocks_takeLink e.source g fl ca lo ba) s)
    | claim e f =>
      refine next h (keepsLocks_request (fun u => keepsLocks_of_same ?_) s)
      unfold takeClaim
      (repeat' split) <;> simp [lockRecords]
    | release e f =>
      exact next h (keepsLocks_holderRequest
        (fun f u => (keepsLocks_releaseFeed f u).trans (keepsLocks_answer e 3 .done _)) s)
    | setDemand e f a b fl g =>
      refine next h (keepsLocks_holderRequest (fun f u => ?_) s)
      (repeat' split)
      exacts [keepsLocks_setDemandDone _ _ _ _ u, keepsLocks_answer _ _ _ u, keepsLocks_answer _ _ _ u]
    | clearDemand e f a b =>
      refine next h (keepsLocks_holderRequest (fun f u => ?_) s)
      split
      · exact (keepsLocks_forEach (l := rangeOf a b) (keepsLocks_removeEntry f) u).same (by simp [lockRecords])
      · exact keepsLocks_answer _ _ _ u
    | lock e f a b mode =>
      refine next h (keepsLocks_holderRequest (fun f u => ?_) s)
      (repeat' split)
      exacts [keepsLocks_lockPass _ _ _ _ _ (keepsLocks_lockChannel f _) u, keepsLocks_answer _ _ _ u,
        keepsLocks_answer _ _ _ u]
    | unlock e f a b =>
      refine next h (keepsLocks_holderRequest (fun f u => ?_) s)
      split
      exacts [keepsLocks_lockPass _ _ _ _ _ keepsLocks_open u, keepsLocks_answer _ _ _ u]
    | headroomReset e f a b =>
      refine next h (keepsLocks_holderRequest (fun f u => ?_) s)
      split
      exacts [(keepsLocks_forEach keepsLocks_clearBackoff u).same rfl, keepsLocks_answer _ _ _ u]
    | tone e f a b st =>
      exact next h (keepsLocks_holderRequest (fun f u => keepsLocks_of_same (by (repeat' split) <;> rfl)) s)
    | batchOpen e f n =>
      exact next h (keepsLocks_holderRequest
        (fun f u => keepsLocks_of_same (by unfold decideOpen; (repeat' split) <;> rfl)) s)
    | batchEntry e f c fl g =>
      exact next h (keepsLocks_request
        (fun u => keepsLocks_of_same (by unfold takeEntry botchEntry; (repeat' split) <;> rfl)) s)
    | batchCommit e =>
      exact next h (keepsLocks_request (fun u => keepsLocks_of_same (by unfold takeCommit; (repeat' split) <;> rfl)) s)
    | batchCancel e =>
      exact next h (keepsLocks_request (fun u => keepsLocks_of_same (by unfold takeCancel; (repeat' split) <;> rfl)) s)
    | boxReset e rb =>
      refine next h (keepsLocks_request (fun u => ?_) s)
      unfold takeBoxReset
      split
      exacts [(keepsLocks_resetBlocks rb u).trans (keepsLocks_answer e 14 .done _), keepsLocks_answer _ _ _ u]
    | batchWrite =>
      refine next h ?_
      unfold batchWrite
      (repeat' split)
      exacts [keepsLocks_writeBatch _ _ s, keepsLocks_refl s, keepsLocks_refl s, keepsLocks_refl s]
    | batchTimeout => exact next h (keepsLocks_of_same (by unfold batchTimeout; (repeat' split) <;> rfl))
    | samplePeriod frame => exact next h (keepsLocks_samplePeriod frame s)
    | compensation c =>
      refine next h ?_
      unfold compensation
      (repeat' split)
      exacts [keepsLocks_compensate c s, keepsLocks_refl s, keepsLocks_refl s, keepsLocks_refl s]
    | retryWrite c code =>
      have hnoted : KeepsLocks s { s with ahead := .retry c :: s.ahead } := keepsLocks_of_same rfl
      refine next h ?_
      unfold retryWrite
      (repeat' split)
      exacts [keepsLocks_refl s, hnoted.trans (keepsLocks_retryExchange _ c _), keepsLocks_refl s, keepsLocks_refl s]
    | windowClose =>
      refine next h ?_
      unfold windowClose
      split
      exacts [keepsLocks_after (keepsLocks_closeWindow _) rfl, keepsLocks_refl s]
    | stationLoss st =>
      refine next h (keepsLocks_whileRunning ?_)
      (repeat' split)
      exacts [keepsLocks_refl s, keepsLocks_loseStation st _ s, keepsLocks_refl s, keepsLocks_refl s,
        keepsLocks_refl s]
    | linkEntryExpiry g source => exact next h (keepsLocks_whileRunning (keepsLocks_removeLinks _ s))
    | powerOn | resetLine | resetLineHeld => exact absurd hstart nofun
    | startUpEnd | blockStart => exact absurd hblock nofun
    | _ => exact absurd hm nofun

/-! ## Block starts -/

/-- The work of a block up to the resolution (R14, R18, R50, R77). -/
def beforeResolution (i : BlockInputs) (s : State) : State :=
  presentView (ageLinks (stationsAndBatch (driveMark i.markLine s)))

theorem keepsLocks_batchAtBlock (s : State) : KeepsLocks s (batchAtBlock s) := by
  unfold batchAtBlock
  (repeat' split)
  exacts [keepsLocks_refl s, keepsLocks_of_same rfl, keepsLocks_of_same rfl, keepsLocks_writeBatch _ _ s]

theorem keepsLocks_stationsAndBatch (s : State) : KeepsLocks s (stationsAndBatch s) := by
  have hages (t : State) : KeepsLocks t (ageStations t) := by
    unfold ageStations
    exact keepsLocks_forEach keepsLocks_ageStation t
  have hseed : KeepsLocks s { s with seed := s.seed + 1 } := keepsLocks_of_same rfl
  unfold stationsAndBatch
  dsimp only
  split
  exacts [(hseed.trans (hages _)).trans (keepsLocks_batchAtBlock _),
    (hseed.trans (keepsLocks_batchAtBlock _)).trans (hages _)]

/-- R50: the view takes the entries; the dirty marks stay. -/
theorem keepsLocks_presentView (s : State) : KeepsLocks s (presentView s) :=
  keepsLocks_of_dirty rfl rfl fun c hc => by rwa [presentView, get_map]

theorem keepsLocks_beforeResolution (i : BlockInputs) (s : State) : KeepsLocks s (beforeResolution i s) := by
  have hdriven : KeepsLocks s (driveMark i.markLine s) := keepsLocks_of_same (by simp [lockRecords])
  have hlinks (t : State) : KeepsLocks t (ageLinks t) := keepsLocks_after (keepsLocks_removeLinks _ _) rfl
  exact ((hdriven.trans (keepsLocks_stationsAndBatch _)).trans (hlinks _)).trans (keepsLocks_presentView _)

/-- R70, R119: once a block start has resolved, the target of a locked channel is its settled analog gain. -/
theorem resolveAll_atTarget (hlaw : LockLaw s) {c : Chan} {g : Int} (hg : (s.gain.recs.get c).lock.frozen = some g) :
    ((resolveAll s).gain.recs.get c).target = (resolveAll s).settled c ∧ (resolveAll s).settled c = g := by
  obtain ⟨hsettled, hdue⟩ := hlaw c g hg
  have hsame : (resolveAll s).settled c = g := by simpa [State.settled] using hsettled
  refine ⟨?_, hsame⟩
  rw [hsame, resolveAll_recs]
  split
  · exact targetOf_locked hg
  · next hno => exact hdue.resolve_left (mt toResolve_of_dirty hno)

/-- An exchange that only restores the code leaves A and the pending step (R94, R95). -/
theorem restoreWrite_stands (rb : Readback) (c : Chan) (r : StepRec) (s : State) :
    Stands r ((restoreWrite rb c r s).steps.get c) := by
  unfold restoreWrite mismatched enterFault
  dsimp only
  (repeat' split) <;> simp [changeStep_get, Stands, stepValue]

theorem stands_trans {a b c : StepRec} (h₁ : Stands a b) (h₂ : Stands b c) : Stands a c :=
  ⟨h₂.1.trans h₁.1, h₂.2.trans h₁.2⟩

/-- R86, R87: a GOOD channel at its target waits, or restores its code after a mismatch. -/
theorem decideStep_stands (rb : Readback) (c : Chan) {target : Int} {r : StepRec} (s : State)
    (h : target = r.settled) : Stands r ((decideStep rb c target r s).steps.get c) := by
  cases hp : r.pending with
  | some p =>
    rw [decideStep_pending (Option.isSome_of_eq_some hp), changeStep_get]
    exact ⟨rfl, rfl⟩
  | none =>
    have hat : r.applied = target := by rw [h, StepRec.settled, hp]
    by_cases hm : r.mismatch = 0
    · rw [decideStep_waits hp hm (.inl hat), changeStep_get]
      exact ⟨rfl, rfl⟩
    · rw [decideStep_restores hp hat hm]
      exact restoreWrite_stands rb c r s

/-- R86, R87, R119: at its target the step controller issues no step. -/
theorem stepAtBlock_stands (rb : Readback) {c : Chan} (h : (s.gain.recs.get c).target = s.settled c) :
    Stands (s.steps.get c) ((stepAtBlock rb c s).steps.get c) := by
  by_cases hahead : Ahead.retry c ∈ s.ahead
  · rw [stepAtBlock_retried hahead, get_set_self]
    exact ⟨rfl, rfl⟩
  cases hf : (s.steps.get c).front with
  | fault n =>
    by_cases hn : n + 1 < 100
    · rw [stepAtBlock_ages hahead hf hn, get_set_self]
      exact ⟨rfl, rfl⟩
    · rw [stepAtBlock_retries hahead hf (by omega)]
      unfold retryExchange
      dsimp only
      split <;> (rw [changeStep_get]; exact ⟨rfl, rfl⟩)
  | good =>
    have hadvanced : Stands (s.steps.get c) (advanced (s.gain.recs.get c).target (s.steps.get c)) := ⟨rfl, rfl⟩
    rw [stepAtBlock_good hahead hf]
    exact stands_trans hadvanced (decideStep_stands rb c s (h.trans (settled_of_runsOn (.inl hadvanced)).symm))

/-! ## Every command -/

/-- What a command that is no start makes of A and of the locks: A moves by a compensation alone, the lock law stands,
and under it no step is issued where a lock stood. -/
structure GainMoves (s t : State) : Prop where
  moves : ∀ c, (t.steps.get c).applied = (s.steps.get c).applied ∨ Completes (s.steps.get c) (t.steps.get c)
  law : LockLaw s → LockLaw t
  locked : LockLaw s → ∀ c g, (s.gain.recs.get c).lock.frozen = some g → RunsOn (s.steps.get c) (t.steps.get c)

theorem KeepsLocks.gainMoves (h : KeepsLocks s t) : GainMoves s t :=
  ⟨fun c => (h.runs c).imp_left And.left, h.law, fun _ c _ _ => h.runs c⟩

theorem GainMoves.same {u : State} (hs : GainMoves s t) (h : lockRecords u = lockRecords t) : GainMoves s u := by
  have hlaw := (keepsLocks_of_same h).law
  simp only [lockRecords, Prod.mk.injEq] at h
  obtain ⟨hsteps, -⟩ := h
  exact ⟨hsteps ▸ hs.moves, fun hl => hlaw (hs.law hl), hsteps ▸ hs.locked⟩

/-- A block start's resolution and step decisions, after work that leaves the steps and the locks: no A moves, and a
locked channel is at its target. -/
theorem gainMoves_stepAll (rb : Readback) {u : State} (hu : KeepsLocks s u) (hsteps : u.steps = s.steps)
    (hlock : ∀ c, (u.gain.recs.get c).lock = (s.gain.recs.get c).lock) : GainMoves s (stepAll rb (resolveAll u)) := by
  have hresolved : (resolveAll u).steps = s.steps := by simp [hsteps]
  have hstands (hlaw : LockLaw s) {c : Chan} {g : Int} (hg : (u.gain.recs.get c).lock.frozen = some g) :
      Stands (s.steps.get c) ((stepAll rb (resolveAll u)).steps.get c) := by
    obtain ⟨htarget, -⟩ := resolveAll_atTarget (hu.law hlaw) hg
    rw [stepAll_steps, ← hresolved]
    exact stepAtBlock_stands rb htarget
  refine ⟨fun c => .inl ?_, fun hlaw c g hg => ?_, fun hlaw c g hg => .inl (hstands hlaw ((hlock c).symm ▸ hg))⟩
  · rw [stepAll_applied, hresolved]
  · have hgain : (stepAll rb (resolveAll u)).gain = (resolveAll u).gain := by simp
    rw [hgain, resolveAll_lock] at hg
    obtain ⟨htarget, hfrozen⟩ := resolveAll_atTarget (hu.law hlaw) hg
    have hsettled : (stepAll rb (resolveAll u)).settled c = (resolveAll u).settled c := by
      rw [State.settled, State.settled, hresolved]
      exact settled_of_runsOn (.inl (hstands hlaw hg))
    exact ⟨hsettled.trans hfrozen, .inr (by rw [hgain, htarget, hfrozen])⟩

theorem keepsLocks_beginBlock (s : State) : KeepsLocks s (beginBlock (endBlock s)) := by
  have hticks : KeepsLocks s (passTicks (ticksLeft s.timing) (ticksLeft s.timing) s) :=
    keepsLocks_of_same (by simp [lockRecords])
  exact (hticks.trans (keepsLocks_windowAtBlock _)).same (by simp [lockRecords, endBlock])

theorem gainMoves_blockStart (i : BlockInputs) (s : State) : GainMoves s (blockStart i s) := by
  unfold blockStart whileRunning
  split
  · have hbegun := keepsLocks_beginBlock s
    have hmoves : GainMoves s (stepAll (inputsAt i s.timing).readback
        (resolveAll (beforeResolution (inputsAt i s.timing) (beginBlock (endBlock s))))) :=
      gainMoves_stepAll _ (hbegun.trans (keepsLocks_beforeResolution _ _)) (by simp [beforeResolution])
        (by simp [beforeResolution])
    exact hmoves.same (by simp [lockRecords, blockWork, blockTasks, beforeResolution])
  · exact (keepsLocks_refl s).gainMoves

theorem gainMoves_startUpEnd (mainGood auxGood : Bool) (lines : Tab Bool 6) (i : BlockInputs) (s : State) :
    GainMoves s (startUpEnd mainGood auxGood lines i s) := by
  have hrunning : lockRecords (startRunning mainGood auxGood lines s) = lockRecords s := rfl
  unfold startUpEnd
  split
  · have hmoves : GainMoves s (stepAll i.readback
        (resolveAll (beforeResolution i (startRunning mainGood auxGood lines s)))) :=
      gainMoves_stepAll _ ((keepsLocks_of_same hrunning).trans (keepsLocks_beforeResolution _ _))
        (by simp [beforeResolution, startRunning]) (by simp [beforeResolution, startRunning])
    exact hmoves.same (by simp [lockRecords, blockTasks, beforeResolution])
  · exact (keepsLocks_refl s).gainMoves

theorem exec_gainMoves {m : Instr} {s t : State} (hstart : m.isStart = false) (h : exec m s = .next t) :
    GainMoves s t := by
  cases hblock : beginsBlock m with
  | false => exact (exec_keepsLocks hstart hblock h).gainMoves
  | true =>
    cases m with
    | blockStart i => exact Host.Outcome.next.inj h ▸ gainMoves_blockStart i s
    | startUpEnd mg ag lines i => exact Host.Outcome.next.inj h ▸ gainMoves_startUpEnd mg ag lines i s
    | _ => exact absurd hblock nofun

/-- R116: a start leaves every channel OPEN. -/
theorem lockLaw_of_start (h : s.gain = .start) : LockLaw s := by
  intro c g hg
  rw [h, GainResolver.start, get_const] at hg
  cases hg

theorem exec_lockLaw {m : Instr} {s t : State} (hs : LockLaw s) (h : exec m s = .next t) : LockLaw t := by
  cases hstart : m.isStart with
  | false => exact (exec_gainMoves hstart h).law hs
  | true =>
    cases m with
    | powerOn i => exact Host.Outcome.next.inj h ▸ lockLaw_of_start rfl
    | resetLine i => exact Host.Outcome.next.inj h ▸ lockLaw_of_start rfl
    | resetLineHeld => exact Host.Outcome.next.inj h ▸ lockLaw_of_start rfl
    | _ => exact absurd hstart nofun

/-- A step that runs on is still pending with its value, or has been completed to it. -/
theorem runsOn_pending {r r' : StepRec} {p : PendingStep} (hp : r.pending = some p) (h : RunsOn r r') :
    (∃ q, r'.pending = some q ∧ q.value = p.value ∧ r'.applied = r.applied)
      ∨ (r'.pending = none ∧ r'.applied = p.value) := by
  rcases h with ⟨happlied, hvalue⟩ | ⟨p', hp', happlied, hnone⟩
  · obtain ⟨q, hq, hqp⟩ := stepValue_eq_some (hvalue.trans (by rw [stepValue, hp]; rfl))
    exact .inl ⟨q, hq, hqp, happlied⟩
  · cases hp.symm.trans hp'
    exact .inr ⟨hnone, happlied⟩

/-- With no step pending, none runs. -/
theorem runsOn_idle {r r' : StepRec} (hp : r.pending = none) (h : RunsOn r r') :
    r'.pending = none ∧ r'.applied = r.applied := by
  rcases h with ⟨happlied, hvalue⟩ | ⟨p, hp', -⟩
  · exact ⟨stepValue_eq_none.mp (hvalue.trans (stepValue_eq_none.mpr hp)), happlied⟩
  · cases hp.symm.trans hp'

/-- Settles O16: a command's moves of A and of the locks, then the locked channel by its pending step. -/
theorem appliedGainMovesByCompensation : Obligations.AppliedGainMovesByCompensation := by
  refine ⟨fun m s t c hstart h => (exec_gainMoves hstart h).moves c, fun s t hlaw h => ?_,
    fun m s t c g hstart hlaw h hg => ?_⟩
  · unfold step at h
    split at h
    · exact Host.Outcome.next.inj h ▸ hlaw
    · next m rest _ =>
      have hrest : LockLaw { s with pending := rest } := hlaw
      exact exec_lockLaw hrest h
  · have hruns := (exec_gainMoves hstart h).locked hlaw c g hg
    refine ⟨fun hp => runsOn_idle hp hruns, fun p hp => ?_⟩
    have hvalue : p.value = g := by
      have hsettled := (hlaw c g hg).1
      rwa [State.settled, StepRec.settled, hp] at hsettled
    rw [← hvalue]
    exact ⟨rfl, runsOn_pending hp hruns⟩

end Sys2Proof.Proofs
end

section
/-! The path law is kept (R101, R111, R112, R114): feed by feed, it speaks of the feed's record and path, of the samples
begun, and of whether the part runs. Most commands leave all four as they were; a change of binding keeps the line and
keeps the feed installed, and the feed processor's own commands change a path as the law asks. -/

namespace Sys2Proof.Proofs

open Sys2Proof.Machine Sys2Proof.Laws

variable {s t : State}

/-! ## The law, feed by feed -/

/-- The law of one feed, by its record, its path, the samples begun, and whether the part runs. -/
structure PathFits (running : Bool) (begun : Nat) (r : FeedRec) (p : FeedPath) : Prop where
  rows : p.rows.length = if r.binding.installed then begun else 0
  whole : ∀ b ∈ p.port, b.rows.length = b.header.count
  silent : r.lineUp = false ∨ running = false → p.port = []
  absent : r.binding.installed = false → r.lineUp = false
  toneless : r.binding.hasHolder = false → p.tone = Tab.const false

/-- The path law, with its parts named. -/
def PathsFit (s : State) : Prop := ∀ f, PathFits s.running s.timing.begun (s.feeds.get f) (s.paths.get f)

theorem pathLaw_iff : PathLaw s ↔ PathsFit s := by
  constructor
  · intro h f
    obtain ⟨hrows, hwhole, hsilent, habsent, htoneless⟩ := h f
    exact ⟨hrows, hwhole, hsilent, habsent, htoneless⟩
  · intro h f
    obtain ⟨hrows, hwhole, hsilent, habsent, htoneless⟩ := h f
    exact ⟨hrows, hwhole, hsilent, habsent, htoneless⟩

/-- Everything that the path law speaks of. -/
def pathView (s : State) := (s.phase, s.timing.begun, s.feeds, s.paths)

theorem pathsFit_of_view {phase : Phase} {begun : Nat} {feeds : Tab FeedRec 6} {paths : Tab FeedPath 6}
    (hview : pathView t = (phase, begun, feeds, paths))
    (h : ∀ f, PathFits (phase == .running) begun (feeds.get f) (paths.get f)) : PathsFit t := by
  simp only [pathView, Prod.mk.injEq] at hview
  obtain ⟨rfl, rfl, rfl, rfl⟩ := hview
  exact h

theorem PathsFit.same (hs : PathsFit s) (h : pathView t = pathView s) : PathsFit t := pathsFit_of_view h hs

/-- A change of a feed record that keeps its line, keeps it installed or ABSENT, and takes no holder away. -/
structure Rebinds (r r' : FeedRec) : Prop where
  line : r'.lineUp = r.lineUp
  installed : r'.binding.installed = r.binding.installed
  holder : r.binding.hasHolder = true → r'.binding.hasHolder = true

theorem Rebinds.refl (r : FeedRec) : Rebinds r r := ⟨rfl, rfl, id⟩

theorem PathFits.rebound {running : Bool} {begun : Nat} {r r' : FeedRec} {p : FeedPath}
    (h : PathFits running begun r p) (hr : Rebinds r r') : PathFits running begun r' p where
  rows := by rw [hr.installed]; exact h.rows
  whole := h.whole
  silent := by rw [hr.line]; exact h.silent
  absent := by rw [hr.installed, hr.line]; exact h.absent
  toneless hno := h.toneless (Bool.eq_false_iff.mpr fun hholder => by simp [hr.holder hholder] at hno)

/-- A state that differs, of all that the law speaks of, in its feed records alone. -/
theorem PathsFit.rebound (hs : PathsFit s) (h : pathView t = pathView { s with feeds := t.feeds })
    (hfeeds : ∀ f, Rebinds (s.feeds.get f) (t.feeds.get f)) : PathsFit t := by
  have hbound : PathsFit { s with feeds := t.feeds } := fun f => (hs f).rebound (hfeeds f)
  exact hbound.same h

/-! ## Bindings -/

/-- R36: a resumed feed keeps its line and its holder. -/
theorem rebinds_resume (st : Station) (r : FeedRec) : Rebinds r (resume st r) := by
  unfold resume
  (repeat' split)
  · next hb _ => exact ⟨rfl, by rw [hb]; rfl, fun _ => rfl⟩
  · exact .refl r
  · exact .refl r

/-- R41, R43: an orphaned feed keeps its line and its holder. -/
theorem rebinds_orphan (p : Station → Bool) (r : FeedRec) : Rebinds r (orphan p r) := by
  unfold orphan
  (repeat' split)
  · next hb _ => exact ⟨rfl, by rw [hb]; rfl, fun _ => rfl⟩
  · exact .refl r
  · exact .refl r

theorem recordHearing_feeds (st : Station) (role : Role) (s : State) :
    (recordHearing st role s).feeds = s.feeds.map (resume st) ∨ (recordHearing st role s).feeds = s.feeds := by
  unfold recordHearing
  dsimp only
  split
  exacts [.inl (setFeeds_feeds _), .inl (setFeeds_feeds _), .inr rfl]

/-- R13, R36: a hearing changes no binding but those that it resumes. -/
theorem pathsFit_recordHearing (st : Station) (role : Role) (hs : PathsFit s) :
    PathsFit (recordHearing st role s) := by
  refine hs.rebound (by simp [pathView]) fun f => ?_
  obtain hfeeds | hfeeds := recordHearing_feeds st role s
  · rw [hfeeds, get_map]
    exact rebinds_resume st _
  · rw [hfeeds]
    exact .refl _

/-- R31, R34: an installed feed is bound. -/
theorem pathsFit_bindFeed {f : Feed} {st : Station} {since : Word16}
    (hf : (s.feeds.get f).binding.installed = true) (hs : PathsFit s) : PathsFit (bindFeed f (.bound st since) s) := by
  refine hs.rebound (by simp [pathView]) fun g => ?_
  rw [bindFeed, setFeeds_feeds, get_modify]
  split
  · next hg => exact ⟨rfl, by rw [hg, hf]; rfl, fun _ => rfl⟩
  · exact .refl _

/-- R14, R41: the loss of a desk orphans its feeds. -/
theorem pathsFit_loseStation (st : Station) (role : Role) (hs : PathsFit s) : PathsFit (loseStation st role s) := by
  refine hs.rebound (by simp [pathView]) fun f => ?_
  cases role with
  | box =>
    rw [show (loseStation st .box s).feeds = s.feeds by simp [loseStation]]
    exact .refl _
  | desk =>
    rw [loseStation_desk_feeds, get_map]
    exact rebinds_orphan _ _

theorem pathsFit_ageStation (st : Station) (hs : PathsFit s) : PathsFit (ageStation st s) := by
  unfold ageStation
  (repeat' split)
  exacts [hs.same rfl, pathsFit_loseStation st _ hs, hs, hs, hs]

/-- A feed with an empty tone set may lose its holder (R111). -/
theorem PathFits.emptied {running : Bool} {begun : Nat} {r r' : FeedRec} {p : FeedPath}
    (h : PathFits running begun r p) (hline : r'.lineUp = r.lineUp)
    (hinstalled : r'.binding.installed = r.binding.installed) : PathFits running begun r' (emptyTone p) where
  rows := by rw [hinstalled]; exact h.rows
  whole := h.whole
  silent := by rw [hline]; exact h.silent
  absent := by rw [hinstalled, hline]; exact h.absent
  toneless _ := rfl

theorem installed_of_holds {f : Feed} {st : Station} (h : holds s f st = true) :
    (s.feeds.get f).binding.installed = true := by
  obtain ⟨since, hb⟩ := holds_iff.mp h
  rw [hb]
  rfl

/-- R39, R40: a release takes the tone set with the binding. -/
theorem pathsFit_releaseFeed {f : Feed} (hf : (s.feeds.get f).binding.installed = true) (hs : PathsFit s) :
    PathsFit (releaseFeed f s) := by
  have hview : pathView (releaseFeed f s) = (s.phase, s.timing.begun,
      s.feeds.set f { s.feeds.get f with binding := .free }, s.paths.set f (emptyTone (s.paths.get f))) := by
    simp [pathView, releaseFeed_feeds, releaseFeed_paths, emptyTone]
  refine pathsFit_of_view hview fun g => ?_
  rw [get_set, get_set]
  split
  · next hg =>
    subst hg
    exact (hs g).emptied rfl hf.symm
  · exact hs g

/-- R177: a box reset orphans every feed and empties every tone set. -/
theorem pathsFit_resetBlocks (rb : Readback) (hs : PathsFit s) : PathsFit (resetBlocks rb s) := by
  have hview : pathView (resetBlocks rb s) = (s.phase, s.timing.begun, s.feeds.map (orphan fun _ => true),
      s.paths.map emptyTone) := by simp [pathView, resetBlocks]
  refine pathsFit_of_view hview fun g => ?_
  have horphan := rebinds_orphan (fun _ => true) (s.feeds.get g)
  rw [get_map, get_map]
  exact (hs g).emptied horphan.line horphan.installed

/-! ## Requests -/

theorem pathsFit_hear {st : Station} {role : Role} {k : State → State} (hk : ∀ u, PathsFit u → PathsFit (k u))
    (hs : PathsFit s) : PathsFit (hear st role k s) := by
  have hended : PathsFit (messageEnded s) := hs.same rfl
  unfold hear
  (repeat' split)
  exacts [hended.same rfl, hk _ (pathsFit_recordHearing st role hended), hs]

theorem pathsFit_request {e : Envelope} {k : State → State} (hk : ∀ u, PathsFit u → PathsFit (k u))
    (hs : PathsFit s) : PathsFit (request e k s) :=
  pathsFit_hear (fun u hu => by split; exacts [hk u hu, hu]) hs

/-- Past the holder check the feed is BOUND to the source (R38). -/
theorem pathsFit_holderRequest {e : Envelope} {kind feed : Byte} {k : Feed → State → State}
    (hk : ∀ f u, holds u f e.source = true → PathsFit u → PathsFit (k f u)) (hs : PathsFit s) :
    PathsFit (request e (withHolder e kind feed k) s) := by
  refine pathsFit_request (fun u hu => ?_) hs
  unfold withHolder
  (repeat' split)
  · next hf => exact hk _ u hf hu
  all_goals exact hu.same rfl

theorem pathsFit_answer (e : Envelope) (kind : Byte) (code : OutcomeCode) (hs : PathsFit s) :
    PathsFit (answer e kind code s) := hs.same rfl

theorem pathsFit_place (st : Station) (a : Answer) (hs : PathsFit s) : PathsFit (place st a s) := hs.same rfl

/-- R34: a claim binds a feed that is FREE or ORPHANED. -/
theorem pathsFit_takeClaim (e : Envelope) (feed : Byte) (before : Tab FeedRec 6) (hs : PathsFit s) :
    PathsFit (takeClaim e feed before s) := by
  unfold takeClaim
  (repeat' split)
  · exact pathsFit_answer e 2 .noFeed hs
  · exact pathsFit_answer e 2 .noFeed hs
  · next hfree => exact pathsFit_answer e 2 .done (pathsFit_bindFeed (by rw [hfree]; rfl) hs)
  · exact pathsFit_place e.source _ hs
  · exact pathsFit_place e.source _ hs
  · next horphaned _ => exact pathsFit_place e.source _ (pathsFit_bindFeed (by rw [horphaned]; rfl) hs)
  · next horphaned _ => exact pathsFit_place e.source _ (pathsFit_bindFeed (by rw [horphaned]; rfl) hs)

/-- R110, R111: the tone set of a feed with a holder changes. -/
theorem pathsFit_setTone {f : Feed} (first last : Byte) (on : Bool)
    (hf : (s.feeds.get f).binding.hasHolder = true) (hs : PathsFit s) :
    PathsFit (modPath f (setTone first last on) s) := by
  intro g
  rw [modPath, get_modify]
  split
  · next hg =>
    subst hg
    exact { hs g with toneless := fun hno => absurd hf (by rw [hno]; exact nofun) }
  · exact hs g

theorem pathsFit_tone (e : Envelope) (feed first last state : Byte) (hs : PathsFit s) :
    PathsFit (request e (takeTone e feed first last state) s) := by
  refine pathsFit_holderRequest (fun f u hf hu => ?_) hs
  (repeat' split)
  · next on _ =>
    exact pathsFit_answer e 9 .done (pathsFit_setTone first last on (hasHolder_of_holds hf) hu)
  all_goals exact pathsFit_answer e 9 .badRange hu

theorem pathsFit_takeBoxReset (e : Envelope) (rb : Readback) (hs : PathsFit s) :
    PathsFit (takeBoxReset e rb s) := by
  unfold takeBoxReset
  split
  exacts [pathsFit_answer e 14 .done (pathsFit_resetBlocks rb hs), pathsFit_answer e 14 .notHolder hs]

theorem pathView_lockPass (e : Envelope) (kind : Byte) (f : Feed) (unlocking : Bool) (cs : List Chan)
    {k : Chan → State → State} (hk : ∀ c u, pathView (k c u) = pathView u) (s : State) :
    pathView (lockPass e kind f unlocking cs k s) = pathView s := by
  unfold lockPass
  split
  · rfl
  · exact forEach_keeps pathView hk s

/-! ## Sample periods, block starts, lines and starts -/

/-- R101, R112: an installed feed takes one row more, and one sample more has begun. -/
theorem pathsFit_withRows (frame : Tab Sample 32) (hs : PathsFit s) : PathsFit (withRows frame s) := by
  intro f
  have hf := hs f
  have hrows := hf.rows
  rw [withRows, get_gen]
  cases hi : (s.feeds.get f).binding.installed with
  | false =>
    rw [buildRow_absent frame hi]
    exact { hf with rows := by simpa [hi] using hrows }
  | true =>
    rw [buildRow_installed frame hi]
    exact { hf with rows := by simpa [hi] using hrows }

theorem pathsFit_samplePeriod (frame : Tab Sample 32) (hs : PathsFit s) : PathsFit (samplePeriod frame s) := by
  have hcounted : PathsFit (stepsCounted s) :=
    hs.same (by rw [stepsCounted_frame, stepsCounted_timing]; rfl)
  unfold samplePeriod
  split
  · rw [sampleWork_eq]
    exact pathsFit_withRows frame hcounted
  · exact hs

/-- R112, R114: the feed block of the block that ends has a row for each sample that began in it, and is held only where
the line is UP. -/
theorem pathsFit_beginBlock (hr : s.running = true) (hs : PathsFit s) : PathsFit (beginBlock (endBlock s)) := by
  have hbegun : (beginBlock (endBlock s)).timing.begun = 0 := by
    obtain ⟨-, hzero, -⟩ := begun_counts (endBlock s).timing
    rw [beginBlock_eq, retime_timing, hzero]
  have hview : pathView (beginBlock (endBlock s)) = (s.phase, 0, s.feeds, (endBlock s).paths) := by
    simp [pathView, hbegun]
  refine pathsFit_of_view hview fun f => ?_
  obtain ⟨hrows, hwhole, hsilent, habsent, htoneless⟩ := hs f
  cases hi : (s.feeds.get f).binding.installed with
  | false =>
    rw [endBlock_path_absent hi]
    exact ⟨by simpa [hi] using hrows, hwhole, hsilent, habsent, htoneless⟩
  | true =>
    rw [endBlock_path_installed hi]
    refine ⟨by simp, fun b hb => ?_, fun hno => ?_, habsent, htoneless⟩
    · dsimp only at hb
      split at hb
      · obtain hold | hnew := List.mem_append.mp hb
        · exact hwhole b hold
        · rw [List.mem_singleton.mp hnew]
          simpa [hi] using hrows
      · exact hwhole b hb
    · have hdown : (s.feeds.get f).lineUp = false := hno.resolve_right fun h => absurd (hr.symm.trans h) nofun
      simpa [hdown] using hsilent (.inl hdown)

theorem pathsFit_stationsAndBatch (hs : PathsFit s) : PathsFit (stationsAndBatch s) := by
  have hages {u : State} (hu : PathsFit u) : PathsFit (ageStations u) :=
    forEach_induct (fun st _ v hv => pathsFit_ageStation st hv) hu
  have hbatch {u : State} (hu : PathsFit u) : PathsFit (batchAtBlock u) := hu.same (by simp [pathView])
  unfold stationsAndBatch
  dsimp only
  split
  · exact hbatch (hages (hs.same rfl))
  · exact hages (hbatch (hs.same rfl))

theorem pathsFit_blockTasks (i : BlockInputs) (hs : PathsFit s) : PathsFit (blockTasks i s) := by
  have hdriven : PathsFit (driveMark i.markLine s) := hs.same (by simp [pathView, driveMark_counts])
  unfold blockTasks
  exact (pathsFit_stationsAndBatch hdriven).same (by simp [pathView])

theorem pathsFit_blockStart (i : BlockInputs) (hs : PathsFit s) : PathsFit (blockStart i s) := by
  unfold blockStart whileRunning blockWork
  split
  · next hr =>
    exact (pathsFit_blockTasks (inputsAt i s.timing) (pathsFit_beginBlock hr hs)).same (by simp [pathView])
  · exact hs

/-- R33, R115: before start-up ends nothing stands on a port, so that the lines may be read as they are. -/
theorem pathsFit_startRunning (mainGood auxGood : Bool) (lines : Tab Bool 6) (hr : s.running = false)
    (hs : PathsFit s) : PathsFit (startRunning mainGood auxGood lines s) := by
  intro f
  obtain ⟨hrows, -, hsilent, -, htoneless⟩ := hs f
  have hport : (s.paths.get f).port = [] := hsilent (.inr hr)
  have hfeed : (startRunning mainGood auxGood lines s).feeds.get f
      = { s.feeds.get f with lineUp := (s.feeds.get f).binding.installed && lines.get f } := get_gen _ f
  rw [hfeed]
  refine ⟨hrows, fun b hb => ?_, fun _ => hport, fun hi => ?_, htoneless⟩
  · exact absurd hb (by simp [startRunning, hport])
  · simpa using fun h => absurd h (by simpa using hi)

theorem pathsFit_clearAhead (hs : PathsFit s) : PathsFit (clearAhead s) := hs.same rfl

theorem pathsFit_startUpEnd (mainGood auxGood : Bool) (lines : Tab Bool 6) (i : BlockInputs) (hs : PathsFit s) :
    PathsFit (startUpEnd mainGood auxGood lines i s) := by
  unfold startUpEnd
  split
  · next hphase =>
    have hr : s.running = false := by simp [State.running, hphase]
    exact pathsFit_clearAhead (pathsFit_blockTasks i (pathsFit_startRunning mainGood auxGood lines hr hs))
  · exact hs

/-- R111, R115: a start leaves every path empty and every line DOWN. -/
theorem pathsFit_start {phase : Phase} {installed : Tab Bool 6}
    (hview : pathView t = (phase, 0, feedsStart installed, Tab.const .start)) : PathsFit t := by
  refine pathsFit_of_view hview fun f => ?_
  rw [feedsStart, get_map, get_const]
  exact ⟨by simp [FeedPath.start], fun b hb => absurd hb List.not_mem_nil, fun _ => rfl, fun _ => rfl, fun _ => rfl⟩

/-- R32, R114: a line that goes DOWN empties its port. -/
theorem PathFits.lineChanged {running : Bool} {begun : Nat} {r : FeedRec} {p : FeedPath} (up : Bool)
    (hi : r.binding.installed = true) (h : PathFits running begun r p) :
    PathFits running begun { r with lineUp := up } (if up then p else lineDown p) := by
  obtain ⟨hrows, hwhole, hsilent, -, htoneless⟩ := h
  have habsent : r.binding.installed = false → up = false := fun h => absurd (hi.symm.trans h) nofun
  cases up with
  | false => exact ⟨hrows, fun b hb => absurd hb List.not_mem_nil, fun _ => rfl, habsent, htoneless⟩
  | true => exact ⟨hrows, hwhole, fun h => hsilent (.inr (h.resolve_left nofun)), habsent, htoneless⟩

theorem pathsFit_lineChange (f : Feed) (up : Bool) (hs : PathsFit s) : PathsFit (lineChange f up s) := by
  cases hi : (s.feeds.get f).binding.installed with
  | false =>
    rw [lineChange_absent up hi]
    exact hs
  | true =>
    have hview : pathView (lineChange f up s) = (s.phase, s.timing.begun,
        s.feeds.set f { s.feeds.get f with lineUp := up },
        s.paths.set f (if up then s.paths.get f else lineDown (s.paths.get f))) := by
      rw [lineChange_installed up hi]
      cases up <;> simp [pathView, lineDown]
    refine pathsFit_of_view hview fun g => ?_
    rw [get_set, get_set]
    split
    · next hg =>
      subst hg
      exact (hs g).lineChanged up hi
    · exact hs g

/-- R114: a port that finishes sending goes on to the next feed block that waits. -/
theorem pathsFit_sent (f : Feed) (hs : PathsFit s) :
    PathsFit (modPath f (fun p => { p with port := p.port.tail }) s) := by
  intro g
  rw [modPath, get_modify]
  split
  · obtain ⟨hrows, hwhole, hsilent, habsent, htoneless⟩ := hs g
    exact ⟨hrows, fun b hb => hwhole b (List.mem_of_mem_tail hb), fun h => by simp [hsilent h], habsent, htoneless⟩
  · exact hs g

theorem pathsFit_whileRunning {f : State → State} (hf : PathsFit (f s)) (hs : PathsFit s) :
    PathsFit (whileRunning f s) := by
  unfold whileRunning
  split
  exacts [hf, hs]

/-! ## What leaves feeds and paths alone -/

theorem afterMark_begun (e : Int) (after : Bool) (w : Timing) : (afterMark e after w).begun = w.begun := by
  unfold afterMark acquiringMark lockedMark holdoverMark placedAt
  (repeat' split) <;> rfl

theorem pathView_retime {w : Timing} (h : w.begun = s.timing.begun) : pathView (retime w s) = pathView s := by
  rw [retime_frame, pathView, h]
  rfl

theorem pathView_passTicks (d checked : Nat) (s : State) : pathView (passTicks d checked s) = pathView s := by
  rw [passTicks_eq]
  exact pathView_retime rfl

theorem pathView_whileRunning {f : State → State} (hf : ∀ u, pathView (f u) = pathView u) (s : State) :
    pathView (whileRunning f s) = pathView s := by
  unfold whileRunning
  split
  exacts [hf s, rfl]

theorem pathView_markEvent (tick : Nat) (s : State) : pathView (markEvent tick s) = pathView s := by
  refine pathView_whileRunning (fun u => ?_) s
  unfold markAt
  dsimp only
  split
  · rfl
  · rw [takeMark_eq]
    exact (pathView_retime (afterMark_begun _ _ _)).trans (pathView_passTicks _ _ u)

theorem pathView_declareMissing (s : State) : pathView (declareMissing s) = pathView s :=
  pathView_whileRunning (fun u => by split; exacts [pathView_passTicks _ _ u, rfl]) s

theorem pathView_enterHoldoverBy (cause : BadMark) (s : State) : pathView (enterHoldoverBy cause s) = pathView s := by
  unfold enterHoldoverBy
  dsimp only
  (repeat' split)
  exacts [pathView_markEvent _ s, rfl, pathView_declareMissing s, rfl]

/-- The commands that leave the phase, the samples begun, the feeds and their paths alone: those of the link
controller's own sending, the timing unit, the step controller, the headroom monitor, the phantom controller and the
batch buffer. -/
def leavesPaths : Instr → Bool
  | .receptionDiscarded _ | .transmissionAttempt | .lostAttempt _ | .transmissionFault | .messageSent | .pairIdle
  | .batchWrite | .batchTimeout | .compensation _ | .retryWrite _ _ | .windowClose | .markEvent _ | .enterLocked _
  | .enterHoldover _ | .missingMark | .quietCountExpiry | .markLineRelease | .linkEntryExpiry _ _ | .settleEnd _
  | .shortTrip _ | .shedLoad | .bankChange | .powerGoodChange _ _ => true
  | _ => false

theorem exec_pathView {c : Instr} {s t : State} (hc : leavesPaths c = true) (h : exec c s = .next t) :
    pathView t = pathView s := by
  have next {u : State} (h : Host.Outcome.next (φ := Fault) (ρ := Refusal) u = .next t)
      (hu : pathView u = pathView s) : pathView t = pathView s := Host.Outcome.next.inj h ▸ hu
  cases c with
  | receptionDiscarded cause => exact next h (by unfold receptionDiscarded; split <;> rfl)
  | transmissionAttempt => exact next h (by unfold transmissionAttempt beginAttempt; (repeat' split) <;> rfl)
  | lostAttempt bytes => exact next h (pathView_whileRunning (fun u => by split <;> rfl) s)
  | transmissionFault => exact next h (pathView_whileRunning (fun u => by split <;> rfl) s)
  | messageSent => exact next h (pathView_whileRunning (fun u => by split <;> simp [pathView]) s)
  | pairIdle => exact next h (by unfold pairIdle; (repeat' split) <;> rfl)
  | batchWrite => exact next h (by unfold batchWrite; (repeat' split) <;> simp [pathView])
  | batchTimeout => exact next h (by unfold batchTimeout; (repeat' split) <;> rfl)
  | compensation c => exact next h (by unfold compensation; (repeat' split) <;> simp [pathView])
  | retryWrite c code => exact next h (by unfold retryWrite; (repeat' split) <;> simp [pathView])
  | windowClose => exact next h (by unfold windowClose; split <;> simp [pathView])
  | markEvent tick => exact next h (pathView_markEvent tick s)
  | enterLocked tick =>
    exact next h (by unfold enterLockedAt; dsimp only; split; exacts [pathView_markEvent tick s, rfl])
  | enterHoldover cause => exact next h (pathView_enterHoldoverBy cause s)
  | missingMark => exact next h (pathView_declareMissing s)
  | quietCountExpiry =>
    refine next h (pathView_whileRunning (fun u => ?_) s)
    split
    · rw [toFree_eq]
      exact pathView_retime rfl
    · rfl
  | markLineRelease =>
    exact next h (pathView_whileRunning (fun u => by split; exacts [pathView_passTicks _ _ u, rfl]) s)
  | linkEntryExpiry g source => exact next h (pathView_whileRunning (fun u => by simp [pathView]) s)
  | settleEnd c => exact next h (pathView_whileRunning (fun u => by (repeat' split) <;> simp [pathView]) s)
  | shortTrip c =>
    exact next h (pathView_whileRunning (fun u => by dsimp only; split <;> simp [pathView, settlesAhead]) s)
  | shedLoad => exact next h (pathView_whileRunning (fun u => by split <;> simp [pathView, settlesAhead]) s)
  | bankChange => exact next h (pathView_whileRunning (fun u => by split <;> simp [pathView, settlesAhead]) s)
  | powerGoodChange mg ag => exact next h (by unfold powerGoodChange; split <;> rfl)
  | _ => exact absurd hc nofun

/-! ## Every command -/

theorem exec_pathsFit (c : Instr) {s t : State} (hs : PathsFit s) (h : exec c s = .next t) : PathsFit t := by
  have next {u : State} (h : Host.Outcome.next (φ := Fault) (ρ := Refusal) u = .next t) (hu : PathsFit u) :
      PathsFit t := Host.Outcome.next.inj h ▸ hu
  cases hc : leavesPaths c with
  | true => exact hs.same (exec_pathView hc h)
  | false =>
    cases c with
    | powerOn i => exact next h (pathsFit_start rfl)
    | resetLine i => exact next h (pathsFit_start rfl)
    | resetLineHeld => exact next h (pathsFit_start rfl)
    | startUpEnd mg ag lines i => exact next h (pathsFit_startUpEnd mg ag lines i hs)
    | blockStart i => exact next h (pathsFit_blockStart i hs)
    | samplePeriod frame => exact next h (pathsFit_samplePeriod frame hs)
    | portLineChange f up => exact next h (pathsFit_whileRunning (pathsFit_lineChange f up hs) hs)
    | feedBlockSent f => exact next h (pathsFit_whileRunning (pathsFit_sent f hs) hs)
    | stationLoss st =>
      refine next h (pathsFit_whileRunning ?_ hs)
      (repeat' split)
      exacts [hs, pathsFit_loseStation st _ hs, hs, hs, hs]
    | presence | reply | channelState | boxState => exact next h (pathsFit_hear (fun _ hu => hu) hs)
    | invalidMessage st kind => exact next h (pathsFit_hear (fun _ hu => hu.same (by rfl)) hs)
    | linkCandidate e g fl ca lo ba =>
      refine next h (pathsFit_hear (fun u hu => hu.same ?_) hs)
      unfold takeLink
      (repeat' split) <;> simp [pathView]
    | claim e f => exact next h (pathsFit_request (fun _ => pathsFit_takeClaim e f s.feeds) hs)
    | release e f =>
      exact next h (pathsFit_holderRequest (fun f u hf hu =>
        pathsFit_answer e 3 .done (pathsFit_releaseFeed (installed_of_holds hf) hu)) hs)
    | setDemand e f a b fl g =>
      refine next h (pathsFit_holderRequest (fun f u _ hu => hu.same ?_) hs)
      (repeat' split) <;> simp [pathView, setDemandDone]
    | clearDemand e f a b =>
      refine next h (pathsFit_holderRequest (fun f u _ hu => hu.same ?_) hs)
      split <;> simp [pathView]
    | lock e f a b m =>
      refine next h (pathsFit_holderRequest (fun f u _ hu => hu.same ?_) hs)
      (repeat' split)
      exacts [pathView_lockPass _ _ _ _ _ (fun c v => by simp [pathView]) u, rfl, rfl]
    | unlock e f a b =>
      refine next h (pathsFit_holderRequest (fun f u _ hu => hu.same ?_) hs)
      split
      exacts [pathView_lockPass _ _ _ _ _ (fun c v => by simp [pathView]) u, rfl]
    | headroomReset e f a b =>
      refine next h (pathsFit_holderRequest (fun f u _ hu => hu.same ?_) hs)
      split <;> simp [pathView]
    | tone e f a b st => exact next h (pathsFit_tone e f a b st hs)
    | batchOpen e f n =>
      refine next h (pathsFit_holderRequest (fun f u _ hu => hu.same ?_) hs)
      unfold decideOpen
      (repeat' split) <;> rfl
    | batchEntry e f c fl g =>
      refine next h (pathsFit_request (fun u hu => hu.same ?_) hs)
      unfold takeEntry botchEntry
      (repeat' split) <;> rfl
    | batchCommit e =>
      refine next h (pathsFit_request (fun u hu => hu.same ?_) hs)
      unfold takeCommit
      (repeat' split) <;> rfl
    | batchCancel e =>
      refine next h (pathsFit_request (fun u hu => hu.same ?_) hs)
      unfold takeCancel
      (repeat' split) <;> rfl
    | boxReset e rb => exact next h (pathsFit_request (fun _ => pathsFit_takeBoxReset e rb) hs)
    | _ => exact absurd hc nofun

/-- Settles O13: a step on an empty queue idles, and any other runs one command. -/
theorem stepKeepsPathLaw : Obligations.StepKeepsPathLaw := by
  intro s t hs h
  rw [pathLaw_iff] at hs ⊢
  unfold step at h
  split at h
  · exact Host.Outcome.next.inj h ▸ hs
  · next c rest _ =>
    have hrest : PathsFit { s with pending := rest } := hs.same rfl
    exact exec_pathsFit c hrest h

end Sys2Proof.Proofs
end

section
/-! The fixed tables (R105, R109, R126). Raised to the 40th power, what makes a coefficient nearest or a threshold an
integer part speaks of integers alone, and is checked number by number. For the tone, twice the square of a sine is one
plus the sine of the doubled angle less a right angle: close bounds on four sines so bound the rest of the first
quadrant closely enough to round them, and the other three quadrants mirror it. -/

namespace Sys2Proof.Proofs

open Sys2Proof.Machine

/-! ## Coefficients and thresholds -/

theorem coefficients_pairwise : coefficients.Pairwise (· < ·) := by decide +kernel

/-- R105: a larger trim has a larger coefficient. -/
theorem coefficient_lt {a b : Int} (ha : -48 ≤ a) (hab : a < b) (hb : b ≤ 48) : coefficient a < coefficient b := by
  have hlen : coefficients.length = 97 := rfl
  unfold coefficient
  rw [List.getD_eq_getElem _ _ (by omega), List.getD_eq_getElem _ _ (by omega)]
  exact List.pairwise_iff_getElem.mp coefficients_pairwise _ _ _ _ (by omega)

theorem coefficient_le {a b : Int} (ha : -48 ≤ a) (hab : a ≤ b) (hb : b ≤ 48) :
    coefficient a ≤ coefficient b := by
  obtain rfl | hlt := hab.eq_or_lt
  · exact le_rfl
  · exact (coefficient_lt ha hlt hb).le

theorem coefficient_zero : coefficient 0 = 1048576 := rfl

/-- R105: the coefficient of `n` lies within half a unit of 2^20 * 10^(n/40), with no tie. -/
theorem coefficient_nearest_up : ∀ n : ℕ, n ≤ 48 → (2 * coefficient n - 1) ^ 40 < 2 ^ 840 * 10 ^ n
    ∧ 2 ^ 840 * 10 ^ n < (2 * coefficient n + 1) ^ 40 := by decide +kernel

/-- R105: the coefficient of `-n` lies within half a unit of 2^20 * 10^(-n/40), with no tie. -/
theorem coefficient_nearest_down : ∀ n : ℕ, n ≤ 48 → (2 * coefficient (-(n : Int)) - 1) ^ 40 * 10 ^ n < 2 ^ 840
    ∧ 2 ^ 840 < (2 * coefficient (-(n : Int)) + 1) ^ 40 * 10 ^ n := by decide +kernel

/-- R126: a threshold is the integer part of 8,388,607 * 10^(-h/40). -/
theorem threshold_floor : ∀ h : ℕ, h ≤ 24 → 1 ≤ h → thresholds.getD (h - 1) 0 ^ 40 * 10 ^ h ≤ 8388607 ^ 40
    ∧ 8388607 ^ 40 < (thresholds.getD (h - 1) 0 + 1) ^ 40 * 10 ^ h := by decide +kernel

/-- R109: the peak of the tone is the integer part of 8,388,607 * 10^(-18/20). -/
theorem tone_peak : 1056063 ^ 20 * 10 ^ 18 < 8388607 ^ 20 ∧ 8388607 ^ 20 < 1056064 ^ 20 * 10 ^ 18 := by decide +kernel

/-! ## Sines of the first quadrant -/

/-- The sine of `k` twelfths of a right angle. -/
noncomputable def sineAt (k : ℤ) : ℝ := Real.sin (k * Real.pi / 24)

theorem sineAt_zero : sineAt 0 = 0 := by simp [sineAt]

theorem sineAt_quarter : sineAt 12 = 1 := by
  rw [sineAt, show ((12 : ℤ) : ℝ) * Real.pi / 24 = Real.pi / 2 by push_cast; ring, Real.sin_pi_div_two]

theorem sineAt_third : sineAt 4 = 1 / 2 := by
  rw [sineAt, show ((4 : ℤ) : ℝ) * Real.pi / 24 = Real.pi / 6 by push_cast; ring, Real.sin_pi_div_six]

theorem sineAt_neg (k : ℤ) : sineAt (-k) = -sineAt k := by
  rw [sineAt, sineAt, ← Real.sin_neg]
  push_cast
  ring_nf

theorem sineAt_mirror (k : ℤ) : sineAt (24 - k) = sineAt k := by
  rw [sineAt, sineAt, ← Real.sin_pi_sub]
  push_cast
  ring_nf

theorem sineAt_opposite (k : ℤ) : sineAt (k + 24) = -sineAt k := by
  rw [sineAt, sineAt, ← Real.sin_add_pi]
  push_cast
  ring_nf

/-- The half-angle formula, with the cosine of the doubled angle as a sine. -/
theorem two_mul_sineAt_sq (k : ℤ) : 2 * sineAt k ^ 2 = 1 + sineAt (2 * k - 12) := by
  have hcos : sineAt (2 * k - 12) = -Real.cos (2 * (k * Real.pi / 24)) := by
    rw [← Real.sin_sub_pi_div_two, sineAt]
    push_cast
    ring_nf
  rw [hcos, sineAt, Real.sin_sq_eq_half_sub]
  ring

theorem sineAt_nonneg {k : ℤ} (h0 : 0 ≤ k) (h24 : k ≤ 24) : 0 ≤ sineAt k := by
  have hk0 : (0 : ℝ) ≤ k := by exact_mod_cast h0
  have hk24 : (k : ℝ) ≤ 24 := by exact_mod_cast h24
  exact Real.sin_nonneg_of_nonneg_of_le_pi (by positivity) (by nlinarith [Real.pi_pos])

/-- The sine lies between `lo / d` and `hi / d`. -/
def SineIn (d k lo hi : ℤ) : Prop := (lo / d : ℝ) < sineAt k ∧ sineAt k < hi / d

/-- Bounds `a` and `b` on the sine of the doubled angle less a right angle, in units of 10^-12, are close enough for the
bounds `lo / d` and `hi / d` on the sine. -/
abbrev BoundsFollow (a b d k lo hi : ℤ) : Prop :=
  (0 ≤ k ∧ k ≤ 24) ∧ 0 < d ∧ 0 ≤ hi ∧ 2 * lo ^ 2 * 10 ^ 12 ≤ d ^ 2 * (10 ^ 12 + a)
    ∧ d ^ 2 * (10 ^ 12 + b) ≤ 2 * hi ^ 2 * 10 ^ 12

theorem sineIn_of_doubled {a b d k lo hi : ℤ} (h : SineIn (10 ^ 12) (2 * k - 12) a b)
    (hb : BoundsFollow a b d k lo hi) : SineIn d k lo hi := by
  obtain ⟨⟨h0, h24⟩, hd, hhi, hlow, hhigh⟩ := hb
  obtain ⟨hlt, hgt⟩ := h
  have hdr : (0 : ℝ) < d := by exact_mod_cast hd
  have hhir : (0 : ℝ) ≤ hi := by exact_mod_cast hhi
  have hlowr : 2 * (lo : ℝ) ^ 2 * 10 ^ 12 ≤ d ^ 2 * (10 ^ 12 + a) := by exact_mod_cast hlow
  have hhighr : (d : ℝ) ^ 2 * (10 ^ 12 + b) ≤ 2 * hi ^ 2 * 10 ^ 12 := by exact_mod_cast hhigh
  have hsq : sineAt k ^ 2 = (1 + sineAt (2 * k - 12)) / 2 := by linarith [two_mul_sineAt_sq k]
  push_cast at hlt hgt
  constructor
  · refine lt_of_pow_lt_pow_left₀ 2 (sineAt_nonneg h0 h24) ?_
    calc (lo / d : ℝ) ^ 2
      _ ≤ (1 + a / 10 ^ 12) / 2 := by rw [div_pow, div_le_iff₀ (by positivity)]; linarith
      _ < sineAt k ^ 2 := by rw [hsq]; linarith
  · refine lt_of_pow_lt_pow_left₀ 2 (by positivity) ?_
    calc sineAt k ^ 2
      _ < (1 + b / 10 ^ 12) / 2 := by rw [hsq]; linarith
      _ ≤ (hi / d : ℝ) ^ 2 := by rw [div_pow, le_div_iff₀ (by positivity)]; linarith

theorem SineIn.neg {d k lo hi : ℤ} (h : SineIn d k lo hi) : SineIn d (-k) (-hi) (-lo) := by
  obtain ⟨hlo, hhi⟩ := h
  rw [SineIn, sineAt_neg]
  push_cast
  rw [neg_div, neg_div]
  exact ⟨neg_lt_neg hhi, neg_lt_neg hlo⟩

/-! The sines that bound the others, in units of 10^-12. -/

theorem sineIn_zero : SineIn (10 ^ 12) 0 (-1) 1 := by
  rw [SineIn, sineAt_zero]
  norm_num

theorem sineIn_four : SineIn (10 ^ 12) 4 499999999999 500000000001 := by
  rw [SineIn, sineAt_third]
  norm_num

theorem sineIn_six : SineIn (10 ^ 12) 6 707106781186 707106781187 := sineIn_of_doubled sineIn_zero (by decide +kernel)

theorem sineIn_eight : SineIn (10 ^ 12) 8 866025403783 866025403786 := sineIn_of_doubled sineIn_four (by decide +kernel)

theorem sineIn_two : SineIn (10 ^ 12) 2 258819045095 258819045110 :=
  sineIn_of_doubled sineIn_eight.neg (by decide +kernel)

theorem sineIn_ten : SineIn (10 ^ 12) 10 965925826280 965925826300 := sineIn_of_doubled sineIn_eight (by decide +kernel)

/-! ## Tone samples -/

theorem toneSample_toInt : ∀ n < 48, (toneSample n).toInt = toneSamples.getD n 0 := by decide +kernel

/-- R109: the value is the integer nearest to the peak times the sine, with no tie. -/
abbrev NearestTone (k r : ℤ) : Prop := SineIn 2112126 k (2 * r - 1) (2 * r + 1)

theorem NearestTone.mirror {k r : ℤ} (h : NearestTone k r) : NearestTone (24 - k) r := by
  rwa [NearestTone, SineIn, sineAt_mirror]

theorem NearestTone.opposite {k r : ℤ} (h : NearestTone k r) : NearestTone (k + 24) (-r) := by
  have hneg := h.neg
  rw [SineIn, sineAt_neg] at hneg
  rw [NearestTone, SineIn, sineAt_opposite, show 2 * -r - 1 = -(2 * r + 1) by ring,
    show 2 * -r + 1 = -(2 * r - 1) by ring]
  exact hneg

/-- The first quadrant, but for the tie at a third of it. -/
theorem nearestTone_first {n : ℕ} (hn : n ≤ 12) (htie : n ≠ 4) : NearestTone n (toneSamples.getD n 0) := by
  interval_cases n
  · rw [NearestTone, SineIn, Nat.cast_zero, sineAt_zero]
    norm_num [toneSamples]
  · exact sineIn_of_doubled sineIn_ten.neg (by decide +kernel)
  · exact sineIn_of_doubled sineIn_eight.neg (by decide +kernel)
  · exact sineIn_of_doubled sineIn_six.neg (by decide +kernel)
  · exact absurd rfl htie
  · exact sineIn_of_doubled sineIn_two.neg (by decide +kernel)
  · exact sineIn_of_doubled sineIn_zero (by decide +kernel)
  · exact sineIn_of_doubled sineIn_two (by decide +kernel)
  · exact sineIn_of_doubled sineIn_four (by decide +kernel)
  · exact sineIn_of_doubled sineIn_six (by decide +kernel)
  · exact sineIn_of_doubled sineIn_eight (by decide +kernel)
  · exact sineIn_of_doubled sineIn_ten (by decide +kernel)
  · rw [NearestTone, SineIn, Nat.cast_ofNat, sineAt_quarter]
    norm_num [toneSamples]

/-- The second quadrant mirrors the first, and the lower half of the period the upper one; the ties stand apart. -/
theorem nearestTone {n : ℕ} (hn : n < 48) (htie : n % 24 ≠ 4 ∧ n % 24 ≠ 20) :
    NearestTone n (toneSamples.getD n 0) := by
  have hmirror : ∀ m ≤ 12, toneSamples.getD (24 - m) 0 = toneSamples.getD m 0 := by decide +kernel
  have hopposite : ∀ m < 24, m ≠ 4 → m ≠ 20 → toneSamples.getD (m + 24) 0 = -toneSamples.getD m 0 := by
    decide +kernel
  have hhalf {m : ℕ} (hm : m ≤ 24) (h4 : m ≠ 4) (h20 : m ≠ 20) : NearestTone m (toneSamples.getD m 0) := by
    by_cases h12 : m ≤ 12
    · exact nearestTone_first h12 h4
    · obtain ⟨l, rfl⟩ : ∃ l, m = 24 - l := ⟨24 - m, by omega⟩
      rw [hmirror l (by omega), Nat.cast_sub (by omega)]
      exact (nearestTone_first (n := l) (by omega) (by omega)).mirror
  by_cases h24 : n < 24
  · exact hhalf h24.le (by omega) (by omega)
  · obtain ⟨m, rfl⟩ : ∃ m, n = m + 24 := ⟨n - 24, by omega⟩
    rw [hopposite m (by omega) (by omega) (by omega), Nat.cast_add]
    exact (hhalf (m := m) (by omega) (by omega) (by omega)).opposite

/-- The sines of the ties, by the symmetries of the sine. -/
theorem sineAt_ties : sineAt 4 = 1 / 2 ∧ sineAt 20 = 1 / 2 ∧ sineAt 28 = -(1 / 2) ∧ sineAt 44 = -(1 / 2) := by
  have h20 : sineAt 20 = 1 / 2 := (sineAt_mirror 4).trans sineAt_third
  exact ⟨sineAt_third, h20, (sineAt_opposite 4).trans (by rw [sineAt_third]),
    (sineAt_opposite 20).trans (by rw [h20])⟩

/-- R109: floor(1,056,063 * sin(2 pi n / 48) + 1/2), ties at the halves of the peak rounded upward. -/
theorem toneSample_floor {n : ℕ} (hn : n < 48) :
    (toneSample n).toInt = ⌊1056063 * Real.sin (2 * Real.pi * n / 48) + 1 / 2⌋ := by
  have hsine : Real.sin (2 * Real.pi * n / 48) = sineAt n := by
    rw [sineAt]
    push_cast
    ring_nf
  rw [toneSample_toInt n hn, hsine, eq_comm, Int.floor_eq_iff]
  by_cases htie : n % 24 ≠ 4 ∧ n % 24 ≠ 20
  · obtain ⟨hlo, hhi⟩ := nearestTone hn htie
    push_cast at hlo hhi
    constructor <;> linarith
  · obtain ⟨h4, h20, h28, h44⟩ := sineAt_ties
    obtain rfl | rfl | rfl | rfl : n = 4 ∨ n = 20 ∨ n = 28 ∨ n = 44 := by omega
    all_goals norm_num [toneSamples, h4, h20, h28, h44]

/-- Settles O47, table by table. -/
theorem fixedTablesFollowTheirFormulas : Obligations.FixedTablesFollowTheirFormulas := by
  refine ⟨rfl, coefficient_zero, fun n hlo hhi => coefficient_lt hlo (lt_add_one n) hhi, coefficient_nearest_up,
    coefficient_nearest_down, fun n => toneSample_floor, tone_peak.1, tone_peak.2, fun cfg h h1 h24 hcfg => ?_⟩
  rw [clipThreshold, hcfg]
  exact threshold_floor h h24 h1

end Sys2Proof.Proofs
end

section
/-! The trimmed sample (R106): the product with the coefficient of the trim, scaled, rounded half upward and limited.
What is known of it rests on the bounds of the coefficients: none exceeds that of +24.0 dB, and none of a trim of 0 dB
or less exceeds 2^20. -/

namespace Sys2Proof.Proofs

open Sys2Proof.Machine

theorem coefficient_le_top {t : Int} (hlo : -48 ≤ t) (hhi : t ≤ 48) : coefficient t ≤ 16618810 :=
  coefficient_le hlo hhi le_rfl

/-- R106: the product fits in 48 bits. -/
theorem product_fits {x : Int} {k : Nat} (hx : -8388608 ≤ x ∧ x < 8388608) (hk : k ≤ 16618810) :
    -(2 ^ 47) ≤ x * k ∧ x * k < 2 ^ 47 := by
  constructor <;> nlinarith

theorem sample_bounds (x : Sample) : -8388608 ≤ x.toInt ∧ x.toInt < 8388608 := ⟨x.le_toInt, x.toInt_lt⟩

/-- R106: the scaled and rounded product, limited to 24 bits. -/
theorem trimmed_toInt (x : Sample) (t : Int) : (trimmed x t).toInt
    = max (-8388608) (min 8388607 ((x.toInt * coefficient t + 524288) / 1048576)) :=
  BitVec.toInt_ofInt_eq_self (by decide) (by omega) (by omega)

/-- R106: at 0 dB the sample is unchanged. -/
theorem trimmed_zero (x : Sample) : trimmed x 0 = x := by
  have hx := sample_bounds x
  refine BitVec.eq_of_toInt_eq ?_
  rw [trimmed_toInt, coefficient_zero]
  omega

/-- A coefficient of at most 2^20 scales no value to a larger one. -/
theorem rounded_natAbs_le (x : Int) {k : Nat} (hk : k ≤ 1048576) :
    ((x * k + 524288) / 1048576).natAbs ≤ x.natAbs := by
  obtain hx | hx := le_total 0 x
  · have h0 : 0 ≤ x * k := by positivity
    have h1 : x * k ≤ x * 1048576 := mul_le_mul_of_nonneg_left (by exact_mod_cast hk) hx
    omega
  · have h0 : x * k ≤ 0 := mul_nonpos_of_nonpos_of_nonneg hx (by positivity)
    have h1 : x * 1048576 ≤ x * k := mul_le_mul_of_nonpos_left (by exact_mod_cast hk) hx
    omega

/-- R106: a trim of 0 dB or less makes no sample larger. -/
theorem trimmed_natAbs_le (x : Sample) {t : Int} (hlo : -48 ≤ t) (ht : t ≤ 0) :
    (trimmed x t).toInt.natAbs ≤ x.toInt.natAbs := by
  have hx := sample_bounds x
  have hk : coefficient t ≤ 1048576 := coefficient_zero ▸ coefficient_le hlo ht (by omega)
  have hscaled := rounded_natAbs_le x.toInt hk
  rw [trimmed_toInt]
  omega

/-- Settles O46, part by part. -/
theorem trimmedSampleRule : Obligations.TrimmedSampleRule := by
  intro x t hlo hhi p q
  refine ⟨product_fits (sample_bounds x) (coefficient_le_top hlo hhi), ?_, ?_, trimmed_natAbs_le x hlo⟩
  · rw [trimmed_toInt]
    have hq : q = (x.toInt * coefficient t + 524288) / 1048576 := rfl
    rw [← hq]
    (repeat' split) <;> omega
  · rintro rfl
    exact trimmed_zero x

end Sys2Proof.Proofs
end

section
/-! LOCK and UNLOCK (R116 to R118, R120): the channel pass either names the first channel that refuses, or the locks
of the whole range are given, each on its own channel's records, and then the outcome is placed. -/

namespace Sys2Proof.Proofs

open Sys2Proof.Machine Sys2Proof.Laws

variable {s : State}

/-! ## The channel pass -/

theorem refusal_eq_none_iff {f : Feed} {unlocking : Bool} {l : Lock} :
    refusal f unlocking l = none ↔ LockPasses f unlocking l := by
  cases l with
  | opened => simp [refusal, LockPasses]
  | held g n => simp [refusal, LockPasses]
  | fixed g n => simp [refusal, LockPasses, and_comm]

/-- R118, R120: a lock HELD by another feed refuses LOCKED. -/
theorem refusal_held {f g : Feed} (hg : g ≠ f) (unlocking : Bool) (n : Int) :
    refusal f unlocking (.held g n) = some .locked := if_neg hg

theorem refusal_fixed {f g : Feed} (hg : g ≠ f) (unlocking : Bool) (n : Int) :
    refusal f unlocking (.fixed g n) = some .fixed := if_neg fun h => hg h.1

/-- R120, R121: a FIXED lock refuses every UNLOCK. -/
theorem refusal_unlock_fixed (f g : Feed) (n : Int) : refusal f true (.fixed g n) = some .fixed :=
  if_neg fun h => Bool.false_ne_true h.2

theorem firstRefused_eq_none_iff {f : Feed} {unlocking : Bool} {l : List Chan} :
    firstRefused f unlocking s l = none ↔ ∀ c ∈ l, LockPasses f unlocking (s.gain.recs.get c).lock := by
  induction l with
  | nil => simp [firstRefused]
  | cons c l ih =>
    rw [List.forall_mem_cons, ← ih, ← refusal_eq_none_iff, firstRefused]
    cases refusal f unlocking (s.gain.recs.get c).lock <;> simp

/-- R117, R120: in a list in channel order, the first channel that refuses is the one before which all pass. -/
theorem firstRefused_of_first {f : Feed} {unlocking : Bool} {l : List Chan} {c : Chan} {code : OutcomeCode}
    (hl : l.Pairwise (· < ·)) (hc : c ∈ l)
    (hbefore : ∀ d ∈ l, d < c → LockPasses f unlocking (s.gain.recs.get d).lock)
    (hcode : refusal f unlocking (s.gain.recs.get c).lock = some code) :
    firstRefused f unlocking s l = some (c, code) := by
  induction l with
  | nil => exact absurd hc List.not_mem_nil
  | cons b l ih =>
    obtain ⟨hlt, htail⟩ := List.pairwise_cons.mp hl
    rcases List.mem_cons.mp hc with rfl | hmem
    · rw [firstRefused, hcode]
    · rw [firstRefused, refusal_eq_none_iff.mpr (hbefore b List.mem_cons_self (hlt c hmem))]
      exact ih htail hmem fun d hd => hbefore d (List.mem_cons_of_mem b hd)

theorem rangeOf_sorted (first last : Byte) : (rangeOf first last).Pairwise (· < ·) :=
  (List.pairwise_lt_finRange 32).filter _

/-- A range that every channel accepts is carried out. -/
theorem lockPass_accepted {f : Feed} {unlocking : Bool} {cs : List Chan} (e : Envelope) (kind : Byte)
    (k : Chan → State → State) (h : ∀ c ∈ cs, LockPasses f unlocking (s.gain.recs.get c).lock) :
    lockPass e kind f unlocking cs k s = answer e kind .done (forEach cs k s) := by
  rw [lockPass, firstRefused_eq_none_iff.mpr h]

/-- The first channel of a range that refuses is named in the outcome, and nothing changes. -/
theorem lockPass_refused {f : Feed} {unlocking : Bool} {first last : Byte} {c : Chan} {code : OutcomeCode}
    (e : Envelope) (kind : Byte) (k : Chan → State → State) (hs : NotSending s) (hc : Machine.InRange first last c)
    (hbefore : ∀ d, Machine.InRange first last d → d < c → LockPasses f unlocking (s.gain.recs.get d).lock)
    (hcode : refusal f unlocking (s.gain.recs.get c).lock = some code) :
    lockPass e kind f unlocking (rangeOf first last) k s
      = answered e.source { plain kind code e.tag with value := chanByte c } s := by
  have hfirst := firstRefused_of_first (rangeOf_sorted first last) (mem_rangeOf.mpr hc)
    (fun d hd => hbefore d (mem_rangeOf.mp hd)) hcode
  rw [lockPass, hfirst]
  exact place_eq_answered hs _ _

theorem exec_lock {e : Envelope} {feed first last mode : Byte} {f : Feed} {fix : Bool} (ht : Takes e s)
    (hheld : HeldBy e feed f (heard e s)) (hrange : RangeOk first last) (hfix : fixOf mode = some fix) :
    exec (.lock e feed first last mode) s
      = .next (lockPass e 6 f false (rangeOf first last) (lockChannel f fix) (heard e s)) := by
  refine congrArg Host.Outcome.next ((request_of_holder _ ht hheld).trans ?_)
  rw [if_pos (rangeOk_iff.mpr hrange), hfix]

theorem exec_unlock {e : Envelope} {feed first last : Byte} {f : Feed} (ht : Takes e s)
    (hheld : HeldBy e feed f (heard e s)) (hrange : RangeOk first last) :
    exec (.unlock e feed first last) s
      = .next (lockPass e 7 f true (rangeOf first last) unlockChannel (heard e s)) := by
  refine congrArg Host.Outcome.next ((request_of_holder _ ht hheld).trans ?_)
  rw [if_pos (rangeOk_iff.mpr hrange)]

/-- R179: the two modes are HOLD and FIX. -/
theorem fixOf_mode {mode : Byte} (h : mode = 0 ∨ mode = 1) : fixOf mode = some (decide (mode = 1)) := by
  rcases h with rfl | rfl <;> rfl

/-! ## Giving locks -/

/-- Each channel of a list is given its new lock. -/
def setLocks (new : Chan → Lock) (l : List Chan) (s : State) : State := forEach l (fun c => setLock c (new c)) s

theorem chanView_setLock_own (c : Chan) (l : Lock) (s : State) :
    chanView (setLock c l s) c = viewLocked l (chanView s c) := (setLock_acts l c c s).trans (if_pos rfl)

theorem chanView_setLock_other {c d : Chan} (h : d ≠ c) (l : Lock) (s : State) :
    chanView (setLock c l s) d = chanView s d := (setLock_acts l c d s).trans (if_neg h)

theorem lock_setLock_other {c d : Chan} (h : d ≠ c) (l : Lock) (s : State) :
    ((setLock c l s).gain.recs.get d).lock = (s.gain.recs.get d).lock :=
  congrArg (fun v : ChanView => v.res.lock) (chanView_setLock_other h l s)

theorem chanView_setLocks (new : Chan → Lock) {l : List Chan} (hl : l.Nodup) (c : Chan) (s : State) :
    chanView (setLocks new l s) c = if c ∈ l then viewLocked (new c) (chanView s c) else chanView s c := by
  split
  · next hc =>
    obtain ⟨u, hu, hend⟩ := forEach_at (fun t => chanView t c) (f := fun d => setLock d (new d)) hl hc
      (fun d t hd => chanView_setLock_other hd.symm (new d) t) s
    exact (hend.trans (chanView_setLock_own c (new c) u)).trans (congrArg (viewLocked (new c)) hu)
  · next hc =>
    exact forEach_induct (P := fun t => chanView t c = chanView s c)
      (fun d hd t ht => (chanView_setLock_other (ne_of_mem_of_not_mem hd hc).symm (new d) t).trans ht) rfl

/-- R116, R165: CHANNEL is asked for where the lock changes. -/
theorem setLocks_asks (new : Chan → Lock) {l : List Chan} (hl : l.Nodup) (s : State) :
    KeysAsked (fun k => ∃ c ∈ l, (s.gain.recs.get c).lock ≠ new c ∧ k = .channel c) s (setLocks new l s) :=
  forEach_keysAsked (key := Key.channel) (due := fun c t => (t.gain.recs.get c).lock ≠ new c) hl
    (fun c t => keysAsked_congr (setLock_asks c (new c) t) fun _ => and_comm)
    (fun c d t hne => by rw [lock_setLock_other hne]) s

theorem setLocks_link (new : Chan → Lock) (l : List Chan) (hs : NotSending s) : (setLocks new l s).link = s.link :=
  forEach_link (fun c _ ht => setLock_link c (new c) ht) l hs

/-- Locks that stand already are given with no change (R116). -/
theorem setLocks_same {new : Chan → Lock} {l : List Chan} (h : ∀ c ∈ l, (s.gain.recs.get c).lock = new c) :
    setLocks new l s = s :=
  forEach_induct (P := fun t => t = s) (fun c hc t ht => by rw [ht]; exact if_pos (h c hc)) rfl

/-- R116: giving locks changes only demand table, lock records and report queue, and no outcome. -/
theorem setLocks_frame (new : Chan → Lock) (l : List Chan) (hs : NotSending s) :
    setLocks new l s = { s with
        demand := (setLocks new l s).demand
        gain := { s.gain with recs := (setLocks new l s).gain.recs }
        report := (setLocks new l s).report }
      ∧ (setLocks new l s).report.slots = s.report.slots := by
  have hlink := setLocks_link new l hs
  have hkeeps := forEach_keeps (fun t : State => (t.phase, t.own, t.config, t.timing, t.feeds, t.gain.table,
    t.gain.full, t.gain.announce, t.steps, t.paths, t.head, t.phantom, t.batch, t.report.slots, t.ahead, t.seed,
    t.pending)) (l := l) (f := fun c => setLock c (new c)) (fun _ _ => by simp) s
  rw [← setLocks] at hkeeps
  generalize setLocks new l s = t at hlink hkeeps ⊢
  simp only [Prod.mk.injEq] at hkeeps
  obtain ⟨hphase, hown, hconfig, htiming, hfeeds, htable, hfull, hannounce, hsteps, hpaths, hhead, hphantom, hbatch,
    hslots, hahead, hseed, hpending⟩ := hkeeps
  exact ⟨state_ext hphase hown hconfig hlink htiming hfeeds rfl (gain_ext rfl htable hfull hannounce) hsteps hpaths
    hhead hphantom hbatch rfl hahead hseed hpending, hslots⟩

/-- A new lock by what it changes; the lock that stands changes nothing. -/
theorem viewLocked_eq (l : Lock) (v : ChanView) : viewLocked l v
    = { v with
        res := { v.res with lock := l }
        demand := { v.demand with dirty := v.demand.dirty || decide (v.res.lock ≠ l) }
        events := if v.res.lock = l then v.events else v.events ||| 8 } := by
  unfold viewLocked
  split
  · next h => simp [h]
  · next h =>
    have hsame : v.res.lock = l := not_not.mp h
    simp [← hsame]

/-- A LOCK or UNLOCK carried out: the locks, and the outcome placed. -/
structure LocksGiven (new : Chan → Lock) (st : Station) (a : Answer) (s t : State) : Prop where
  frame : t = { s with demand := t.demand, gain := { s.gain with recs := t.gain.recs }, report := t.report }
  become : LocksBecome new s t
  replied : Replied st a s t

theorem locksGiven_setLocks (new : Chan → Lock) {l : List Chan} (hl : l.Nodup) (st : Station) (a : Answer)
    (hs : NotSending s) :
    LocksGiven (fun c => if c ∈ l then new c else (s.gain.recs.get c).lock) st a s
      (answered st a (setLocks new l s)) := by
  obtain ⟨hframe, hslots⟩ := setLocks_frame new l hs
  have hasked := setLocks_asks new hl s
  have hview (c : Chan) : chanView (setLocks new l s) c
      = viewLocked (if c ∈ l then new c else (s.gain.recs.get c).lock) (chanView s c) := by
    rw [chanView_setLocks new hl]
    split
    · rfl
    · simp [viewLocked, chanView]
  generalize setLocks new l s = u at hframe hslots hasked hview ⊢
  have hreply := answered_asks st a u
  refine ⟨(congrArg (answered st a) hframe).trans rfl, fun c => ?_,
    congrArg (fun slots => Tab.set slots st (some a)) hslots, (hreply.2 _).mpr (.inr rfl)⟩
  have hc := (hview c).trans (viewLocked_eq _ _)
  refine ⟨congrArg ChanView.res hc, congrArg ChanView.demand hc, congrArg ChanView.events hc, fun hne => ?_⟩
  by_cases hmem : c ∈ l
  · rw [if_pos hmem] at hne
    exact hreply.1.subset ((hasked.2 _).mpr (.inr ⟨c, hmem, hne, rfl⟩))
  · exact absurd (if_neg hmem).symm hne

/-! ## The two requests -/

/-- R118: each LOCK of one channel is settled by the lock and the settled gain that stood. -/
theorem forEach_lockChannel_eq (f : Feed) (fix : Bool) {l : List Chan} (hl : l.Nodup) (s : State) :
    forEach l (lockChannel f fix) s
      = setLocks (fun c => lockedBy f fix (s.settled c) (s.gain.recs.get c).lock) l s :=
  forEach_settled (fun c t => (t.settled c, (t.gain.recs.get c).lock))
    (fun c x => setLock c (lockedBy f fix x.1 x.2)) (fun _ _ => rfl)
    (fun c d t hne => Prod.ext (by simp [State.settled]) (lock_setLock_other hne _ t)) hl s

/-- A pass that every channel accepts, as locks given. -/
theorem locksGiven_lockPass {f : Feed} {unlocking : Bool} {first last kind : Byte} (e : Envelope)
    {k : Chan → State → State} {new : Chan → Lock} (hs : NotSending s)
    (hk : forEach (rangeOf first last) k s = setLocks new (rangeOf first last) s)
    (hpass : ∀ c, Machine.InRange first last c → LockPasses f unlocking (s.gain.recs.get c).lock) :
    LocksGiven (fun c => if Machine.InRange first last c then new c else (s.gain.recs.get c).lock) e.source
      (plain kind .done e.tag) s (lockPass e kind f unlocking (rangeOf first last) k s) := by
  have hgiven := locksGiven_setLocks new (rangeOf_nodup first last) e.source (plain kind .done e.tag) hs
  have hquiet := notSending_congr (setLocks_link new (rangeOf first last) hs) hs
  simp only [mem_rangeOf] at hgiven
  rw [lockPass_accepted e kind k fun c hc => hpass c (mem_rangeOf.mp hc), hk, answer, place_eq_answered hquiet]
  exact hgiven

/-- Settles O34: the pass accepted gives the locks, and the first channel that refuses is named. -/
theorem lockIsDecidedWhole : Obligations.LockIsDecidedWhole := by
  intro e feed first last mode f s ht hheld hrange hmode h
  have hquiet : NotSending h := heard_notSending e s
  have hexec : exec (.lock e feed first last mode) s = .next _ := exec_lock ht hheld hrange (fixOf_mode hmode)
  rw [hexec]
  refine ⟨fun hpass => ?_, fun c g n hc hg hbefore => ⟨fun hlock => congrArg Host.Outcome.next ?_,
    fun hlock => congrArg Host.Outcome.next ?_⟩⟩
  · obtain ⟨hframe, hbecome, hreplied⟩ := locksGiven_lockPass (kind := 6) e hquiet
      (forEach_lockChannel_eq f (decide (mode = 1)) (rangeOf_nodup first last) h) hpass
    refine ⟨_, rfl, hframe, ?_, hreplied⟩
    convert hbecome using 3 with c
    cases (h.gain.recs.get c).lock <;> simp [lockedBy]
  · exact lockPass_refused e 6 _ hquiet hc hbefore (hlock ▸ refusal_held hg false n)
  · exact lockPass_refused e 6 _ hquiet hc hbefore (hlock ▸ refusal_fixed hg false n)

/-- Settles O35: as a LOCK, but that a FIXED channel refuses whatever feed fixed it. -/
theorem unlockIsDecidedWhole : Obligations.UnlockIsDecidedWhole := by
  intro e feed first last f s ht hheld hrange h
  have hquiet : NotSending h := heard_notSending e s
  have hexec : exec (.unlock e feed first last) s = .next _ := exec_unlock ht hheld hrange
  rw [hexec]
  refine ⟨fun hpass => ?_, fun c g n hc hbefore => ⟨fun hg hlock => congrArg Host.Outcome.next ?_,
    fun hlock => congrArg Host.Outcome.next ?_⟩⟩
  · obtain ⟨hframe, hbecome, hreplied⟩ := locksGiven_lockPass (k := unlockChannel) (kind := 7)
      (new := fun _ => .opened) e hquiet rfl hpass
    exact ⟨_, rfl, hframe, hbecome, hreplied⟩
  · exact lockPass_refused e 7 _ hquiet hc hbefore (hlock ▸ refusal_held hg true n)
  · exact lockPass_refused e 7 _ hquiet hc hbefore (hlock ▸ refusal_unlock_fixed f g n)

end Sys2Proof.Proofs
end

section
/-! FIXED locks (R121): LOCK leaves one as it stands, UNLOCK refuses it, a release and a box reset open HELD locks
alone, the resolution and the compensations write other fields, and nothing else but a start writes the lock records. -/

namespace Sys2Proof.Proofs

open Sys2Proof.Machine Sys2Proof.Laws

variable {s t : State}

/-! ## Locks that remain -/

/-- Every FIXED lock is FIXED still, with its feed and its frozen gain. -/
structure KeepsFixed (s t : State) : Prop where
  remains : ∀ c f g, (s.gain.recs.get c).lock = .fixed f g → (t.gain.recs.get c).lock = .fixed f g

theorem keepsFixed_refl (s : State) : KeepsFixed s s := ⟨fun _ _ _ => id⟩

theorem KeepsFixed.trans {u : State} (h₁ : KeepsFixed s t) (h₂ : KeepsFixed t u) : KeepsFixed s u :=
  ⟨fun c f g h => h₂.remains c f g (h₁.remains c f g h)⟩

theorem keepsFixed_of_locks (h : ∀ c, (t.gain.recs.get c).lock = (s.gain.recs.get c).lock) : KeepsFixed s t :=
  ⟨fun c _ _ hfixed => (h c).trans hfixed⟩

theorem keepsFixed_of_recs (h : t.gain.recs = s.gain.recs) : KeepsFixed s t :=
  keepsFixed_of_locks fun _ => by rw [h]

theorem keepsFixed_forEach {α : Type} {l : List α} {g : α → State → State} (hg : ∀ a t, KeepsFixed t (g a t))
    (s : State) : KeepsFixed s (forEach l g s) :=
  forEach_induct (fun a _ t ht => ht.trans (hg a t)) (keepsFixed_refl s)

/-! ## Lock records -/

theorem keepsFixed_setLock {c : Chan} {l : Lock} (hl : ∀ f g, (s.gain.recs.get c).lock = .fixed f g → l = .fixed f g) :
    KeepsFixed s (setLock c l s) := by
  refine ⟨fun d f g hfixed => ?_⟩
  by_cases hd : d = c
  · subst hd
    have hsame : setLock d l s = s := if_pos (hfixed.trans (hl f g hfixed).symm)
    rw [hsame, hfixed]
  · rw [lock_setLock_other hd, hfixed]

/-- R118: a LOCK that passes leaves a FIXED lock as it stands. -/
theorem keepsFixed_lockChannel (f : Feed) (fix : Bool) (c : Chan) (s : State) :
    KeepsFixed s (lockChannel f fix c s) :=
  keepsFixed_setLock fun _ _ h => by rw [h, lockedBy]

/-- R122, R123: only HELD locks open so. -/
theorem keepsFixed_openHeld (p : Feed → Bool) (c : Chan) (s : State) : KeepsFixed s (openHeld p c s) := by
  rw [openHeld_eq]
  split
  · next hheld => exact keepsFixed_setLock fun f g h => absurd hheld (by rw [h]; exact Bool.false_ne_true)
  · exact keepsFixed_refl s

/-- R120: where every channel of a list lets an UNLOCK pass, none of them is FIXED. -/
theorem keepsFixed_unlockChannels {f : Feed} {cs : List Chan}
    (hpass : ∀ c ∈ cs, LockPasses f true (s.gain.recs.get c).lock) : KeepsFixed s (forEach cs unlockChannel s) := by
  refine ⟨fun c g n hfixed => ?_⟩
  have hnot : c ∉ cs := fun hc => by
    have hnone := refusal_eq_none_iff.mpr (hpass c hc)
    rw [hfixed, refusal_unlock_fixed] at hnone
    cases hnone
  exact forEach_induct (P := fun t => (t.gain.recs.get c).lock = .fixed g n)
    (fun d hd t ht => (lock_setLock_other (ne_of_mem_of_not_mem hd hnot).symm .opened t).trans ht) hfixed

theorem keepsFixed_lockPass (e : Envelope) (kind : Byte) {f : Feed} {unlocking : Bool} {cs : List Chan}
    {k : Chan → State → State}
    (hk : (∀ c ∈ cs, LockPasses f unlocking (s.gain.recs.get c).lock) → KeepsFixed s (forEach cs k s)) :
    KeepsFixed s (lockPass e kind f unlocking cs k s) := by
  unfold lockPass
  split
  · exact keepsFixed_of_recs rfl
  · next hnone => exact (hk (firstRefused_eq_none_iff.mp hnone)).trans (keepsFixed_of_recs rfl)

/-! ## Releases and the box reset -/

theorem keepsFixed_releaseFeed (f : Feed) (s : State) : KeepsFixed s (releaseFeed f s) := by
  refine ⟨fun c g n hfixed => ?_⟩
  have hview := (chanView_releaseFeed f c s).trans (viewReleased_eq f _)
  generalize releaseFeed f s = u at hview ⊢
  have hlock : (u.gain.recs.get c).lock
      = if heldFor (fun g => g == f) (s.gain.recs.get c).lock then .opened else (s.gain.recs.get c).lock :=
    congrArg (fun v : ChanView => v.res.lock) hview
  rw [hlock, hfixed]
  rfl

/-- R177. -/
theorem keepsFixed_resetBlocks (rb : Readback) (s : State) : KeepsFixed s (resetBlocks rb s) := by
  have hforgot : KeepsFixed s (freeRoom (removeLinks (fun _ => true) (setFeeds (s.feeds.map (orphan fun _ => true))
      { resetReport s with link.stations := s.link.stations.map Presence.forget }))) :=
    keepsFixed_of_recs (by simp)
  have hopened (t : State) : KeepsFixed t (forEach channels (openHeld fun _ => true) t) :=
    keepsFixed_forEach (keepsFixed_openHeld _) t
  exact (hforgot.trans (hopened _)).trans (keepsFixed_of_recs (by simp [resetBlocks]))

/-! ## Compensations and resolutions -/

/-- R90: a compensation works the trims out anew. -/
theorem compensate_lock (c d : Chan) (s : State) :
    ((compensate c s).gain.recs.get d).lock = (s.gain.recs.get d).lock := by
  cases hp : (s.steps.get c).pending with
  | none =>
    unfold compensate
    dsimp only
    rw [hp]
  | some p =>
    rw [compensate_eq hp, ask_gain, get_modify]
    split <;> rfl

theorem countDown_lock (c d : Chan) (s : State) :
    ((countDown c s).gain.recs.get d).lock = (s.gain.recs.get d).lock := by
  cases hp : (s.steps.get c).pending with
  | none => rw [countDown_idle hp]
  | some p =>
    by_cases h : p.coming = 0
    · rw [countDown_due hp h, compensate_lock]
    · rw [countDown_waits hp h]

theorem samplePeriod_lock (frame : Tab Sample 32) (c : Chan) (s : State) :
    ((samplePeriod frame s).gain.recs.get c).lock = (s.gain.recs.get c).lock := by
  unfold samplePeriod
  split
  · have hcounted : ((stepsCounted s).gain.recs.get c).lock = ((toSample s).gain.recs.get c).lock := by
      unfold stepsCounted
      exact forEach_keeps (fun t => (t.gain.recs.get c).lock) (fun d t => countDown_lock d c t) _
    have hticks : (toSample s).gain.recs = s.gain.recs := by simp
    have hrows (u : State) : (withRows frame u).gain = u.gain := rfl
    rw [sampleWork_eq, hrows, hcounted, hticks]
  · rfl

/-- R70: a resolution reads the locks. -/
theorem blockTasks_lock (i : BlockInputs) (c : Chan) (s : State) :
    ((blockTasks i s).gain.recs.get c).lock = (s.gain.recs.get c).lock := by
  simp [blockTasks, resolveAll_lock]

theorem blockStart_lock (i : BlockInputs) (c : Chan) (s : State) :
    ((blockStart i s).gain.recs.get c).lock = (s.gain.recs.get c).lock :=
  whileRunning_keeps (fun t => (t.gain.recs.get c).lock) (fun t => by simp [blockWork, blockTasks_lock, endBlock]) s

theorem startUpEnd_lock (mainGood auxGood : Bool) (lines : Tab Bool 6) (i : BlockInputs) (c : Chan) (s : State) :
    ((startUpEnd mainGood auxGood lines i s).gain.recs.get c).lock = (s.gain.recs.get c).lock := by
  unfold startUpEnd
  split
  · simp [blockTasks_lock, startRunning]
  · rfl

/-! ## Requests -/

theorem keepsFixed_hear {st : Station} {role : Role} {k : State → State} (hk : ∀ t, KeepsFixed t (k t))
    (s : State) : KeepsFixed s (hear st role k s) := by
  have hrecorded : KeepsFixed s (recordHearing st role (messageEnded s)) := keepsFixed_of_recs (by simp)
  unfold hear
  (repeat' split)
  exacts [keepsFixed_of_recs rfl, hrecorded.trans (hk _), keepsFixed_refl s]

theorem keepsFixed_request {e : Envelope} {k : State → State} (hk : ∀ t, KeepsFixed t (k t)) (s : State) :
    KeepsFixed s (request e k s) :=
  keepsFixed_hear (fun t => by split; exacts [hk t, keepsFixed_refl t]) s

theorem keepsFixed_holderRequest {e : Envelope} {kind feed : Byte} {k : Feed → State → State}
    (hk : ∀ f t, KeepsFixed t (k f t)) (s : State) : KeepsFixed s (request e (withHolder e kind feed k) s) := by
  refine keepsFixed_request (fun t => ?_) s
  unfold withHolder
  (repeat' split)
  exacts [hk _ t, keepsFixed_of_recs rfl, keepsFixed_of_recs rfl]

theorem keepsFixed_takeLock (e : Envelope) (feed first last mode : Byte) (s : State) :
    KeepsFixed s (request e (takeLock e feed first last mode) s) := by
  refine keepsFixed_holderRequest (fun f t => ?_) s
  (repeat' split)
  · exact keepsFixed_lockPass e 6 fun _ => keepsFixed_forEach (keepsFixed_lockChannel f _) t
  all_goals exact keepsFixed_of_recs rfl

theorem keepsFixed_takeUnlock (e : Envelope) (feed first last : Byte) (s : State) :
    KeepsFixed s (request e (takeUnlock e feed first last) s) := by
  refine keepsFixed_holderRequest (fun f t => ?_) s
  split
  exacts [keepsFixed_lockPass e 7 keepsFixed_unlockChannels, keepsFixed_of_recs rfl]

/-! ## Every command -/

theorem exec_keepsFixed {m : Instr} (hstart : m.isStart = false) (h : exec m s = .next t) : KeepsFixed s t := by
  have next {u : State} (h : Host.Outcome.next (φ := Fault) (ρ := Refusal) u = .next t) (hu : KeepsFixed s u) :
      KeepsFixed s t := Host.Outcome.next.inj h ▸ hu
  cases hm : leavesLawRecords m with
  | true =>
    have hrecords := exec_lawRecords hm h
    simp only [lawRecords, Prod.mk.injEq] at hrecords
    obtain ⟨-, -, hrecs, -⟩ := hrecords
    exact keepsFixed_of_recs hrecs
  | false =>
    cases m with
    | presence e => exact next h (keepsFixed_hear keepsFixed_refl s)
    | reply e => exact next h (keepsFixed_hear keepsFixed_refl s)
    | channelState e => exact next h (keepsFixed_hear keepsFixed_refl s)
    | boxState e => exact next h (keepsFixed_hear keepsFixed_refl s)
    | invalidMessage st kind => exact next h (keepsFixed_hear (fun _ => keepsFixed_of_recs (by rfl)) s)
    | linkCandidate e g fl ca lo ba =>
      exact next h (keepsFixed_hear
        (fun u => keepsFixed_of_recs (by unfold takeLink; (repeat' split) <;> simp)) s)
    | claim e f =>
      exact next h (keepsFixed_request
        (fun u => keepsFixed_of_recs (by unfold takeClaim; (repeat' split) <;> simp)) s)
    | release e f =>
      exact next h (keepsFixed_holderRequest
        (fun f u => (keepsFixed_releaseFeed f u).trans (keepsFixed_of_recs (by simp))) s)
    | setDemand e f a b fl g =>
      exact next h (keepsFixed_holderRequest
        (fun f u => keepsFixed_of_recs (by (repeat' split) <;> simp [setDemandDone])) s)
    | clearDemand e f a b =>
      exact next h (keepsFixed_holderRequest (fun f u => keepsFixed_of_recs (by split <;> simp)) s)
    | lock e f a b mode => exact next h (keepsFixed_takeLock e f a b mode s)
    | unlock e f a b => exact next h (keepsFixed_takeUnlock e f a b s)
    | headroomReset e f a b =>
      exact next h (keepsFixed_holderRequest (fun f u => keepsFixed_of_recs (by split <;> simp)) s)
    | tone e f a b st =>
      exact next h (keepsFixed_holderRequest (fun f u => keepsFixed_of_recs (by (repeat' split) <;> rfl)) s)
    | batchOpen e f n =>
      exact next h (keepsFixed_holderRequest
        (fun f u => keepsFixed_of_recs (by unfold decideOpen; (repeat' split) <;> rfl)) s)
    | batchEntry e f c fl g =>
      exact next h (keepsFixed_request
        (fun u => keepsFixed_of_recs (by unfold takeEntry botchEntry; (repeat' split) <;> rfl)) s)
    | batchCommit e =>
      exact next h (keepsFixed_request
        (fun u => keepsFixed_of_recs (by unfold takeCommit; (repeat' split) <;> rfl)) s)
    | batchCancel e =>
      exact next h (keepsFixed_request
        (fun u => keepsFixed_of_recs (by unfold takeCancel; (repeat' split) <;> rfl)) s)
    | boxReset e rb =>
      refine next h (keepsFixed_request (fun u => ?_) s)
      unfold takeBoxReset
      split
      exacts [(keepsFixed_resetBlocks rb u).trans (keepsFixed_of_recs (by simp)), keepsFixed_of_recs rfl]
    | batchWrite => exact next h (keepsFixed_of_recs (by unfold batchWrite; (repeat' split) <;> simp))
    | batchTimeout => exact next h (keepsFixed_of_recs (by unfold batchTimeout; (repeat' split) <;> rfl))
    | samplePeriod frame => exact next h (keepsFixed_of_locks fun c => samplePeriod_lock frame c s)
    | compensation c =>
      refine next h (keepsFixed_of_locks fun d => ?_)
      unfold compensation
      (repeat' split)
      exacts [compensate_lock c d s, rfl, rfl, rfl]
    | retryWrite c code => exact next h (keepsFixed_of_recs (by unfold retryWrite; (repeat' split) <;> simp))
    | windowClose => exact next h (keepsFixed_of_recs (by unfold windowClose; split <;> simp))
    | stationLoss st =>
      exact next h (keepsFixed_of_recs
        (whileRunning_keeps (fun u => u.gain.recs) (fun u => by (repeat' split) <;> simp) s))
    | linkEntryExpiry g source =>
      exact next h (keepsFixed_of_recs (whileRunning_keeps (fun u => u.gain.recs) (fun u => by simp) s))
    | blockStart i => exact next h (keepsFixed_of_locks fun c => blockStart_lock i c s)
    | startUpEnd mg ag lines i => exact next h (keepsFixed_of_locks fun c => startUpEnd_lock mg ag lines i c s)
    | powerOn | resetLine | resetLineHeld => exact absurd hstart nofun
    | _ => exact absurd hm nofun

/-! ## LOCK and UNLOCK of the one channel -/

theorem chanOf_eq_some {n : Byte} {c : Chan} (h : chanOf n = some c) : n.toNat = c.val + 1 := by
  unfold chanOf at h
  split at h
  · next hn =>
    have hval := congrArg Fin.val (Option.some.inj h)
    dsimp only at hval
    omega
  · cases h

theorem rangeOk_of_chanOf {n : Byte} {c : Chan} (h : chanOf n = some c) : RangeOk n n := by
  have hn := chanOf_eq_some h
  have hc := c.isLt
  unfold RangeOk
  omega

/-- The range of one channel's number holds that channel alone. -/
theorem inRange_of_chanOf {n : Byte} {c d : Chan} (h : chanOf n = some c) : Machine.InRange n n d ↔ d = c := by
  have hn := chanOf_eq_some h
  unfold Machine.InRange
  rw [Fin.ext_iff]
  omega

theorem chanByte_of_chanOf {n : Byte} {c : Chan} (h : chanOf n = some c) : chanByte c = n := by
  rw [chanByte, ← chanOf_eq_some h, BitVec.ofNat_toNat, BitVec.setWidth_eq]

theorem heard_gain (e : Envelope) (s : State) : (heard e s).gain = s.gain := by simp [heard]

/-- R118: a LOCK of a FIXED channel by its feed is DONE with no change. -/
theorem exec_lock_fixed {e : Envelope} {feed n mode : Byte} {c : Chan} {f : Feed} {g : Int} (ht : Takes e s)
    (hheld : HeldBy e feed f (heard e s)) (hn : chanOf n = some c) (hmode : mode = 0 ∨ mode = 1)
    (hfixed : (s.gain.recs.get c).lock = .fixed f g) :
    exec (.lock e feed n n mode) s = .next (answered e.source (plain 6 .done e.tag) (heard e s)) := by
  have honly (d : Chan) (hd : d ∈ rangeOf n n) : ((heard e s).gain.recs.get d).lock = .fixed f g := by
    rw [heard_gain, (inRange_of_chanOf hn).mp (mem_rangeOf.mp hd), hfixed]
  have hsame : forEach (rangeOf n n) (lockChannel f (decide (mode = 1))) (heard e s) = heard e s := by
    rw [forEach_lockChannel_eq f _ (rangeOf_nodup n n)]
    exact setLocks_same fun d hd => by rw [honly d hd, lockedBy]
  rw [exec_lock ht hheld (rangeOk_of_chanOf hn) (fixOf_mode hmode),
    lockPass_accepted e 6 _ fun d hd => .inr (.inr ⟨rfl, g, honly d hd⟩), hsame, answer_heard]

/-- R120: an UNLOCK of a FIXED channel by any feed is refused FIXED. -/
theorem exec_unlock_fixed {e : Envelope} {feed n : Byte} {c : Chan} {f h : Feed} {g : Int} (ht : Takes e s)
    (hheld : HeldBy e feed h (heard e s)) (hn : chanOf n = some c) (hfixed : (s.gain.recs.get c).lock = .fixed f g) :
    exec (.unlock e feed n n) s
      = .next (answered e.source { plain 7 .fixed e.tag with value := n } (heard e s)) := by
  have hrefusal : refusal h true ((heard e s).gain.recs.get c).lock = some .fixed := by
    rw [heard_gain, hfixed, refusal_unlock_fixed]
  rw [exec_unlock ht hheld (rangeOk_of_chanOf hn),
    lockPass_refused e 7 _ (heard_notSending e s) ((inRange_of_chanOf hn).mpr rfl)
      (fun d hd hlt => absurd ((inRange_of_chanOf hn).mp hd) hlt.ne) hrefusal, chanByte_of_chanOf hn]

/-- Settles O15: every command keeps the FIXED locks, and the two requests that name one. -/
theorem fixedLockRemains : Obligations.FixedLockRemains :=
  ⟨fun _ _ _ c f g hstart hfixed h => (exec_keepsFixed hstart h).remains c f g hfixed,
    fun _ _ _ _ _ _ _ _ ht hheld hn hmode hfixed => exec_lock_fixed ht hheld hn hmode hfixed,
    fun _ _ _ _ _ _ _ _ ht hheld hn hfixed => exec_unlock_fixed ht hheld hn hfixed⟩

end Sys2Proof.Proofs
end

section
/-! The headroom monitor (R127, R128, R130) and the tone sets (R110): each operation on a channel changes that channel's
own records, so that HEADROOM RESET and the close of a window do to each channel what their one round does. -/

namespace Sys2Proof.Proofs

open Sys2Proof.Machine Sys2Proof.Laws

variable {s t : State}

/-! ## The records of one channel -/

/-- What the headroom guard reads of a channel, and what it changes there. -/
structure GuardView where
  rule   : Nat
  guard  : Guard
  lock   : Lock
  head   : HeadRec
  demand : DemandRec
  events : BitVec 9

def guardView (s : State) (c : Chan) : GuardView where
  rule := countRule s.config
  guard := (s.config.chans.get c).guard
  lock := (s.gain.recs.get c).lock
  head := s.head.recs.get c
  demand := s.demand.get c
  events := s.report.events.get c

/-- Each round changes what the guard sees of its own channel by `w`, and of no other. -/
def ActsByGuard (w : GuardView → GuardView) (g : Chan → State → State) : Prop :=
  ∀ c d t, guardView (g c t) d = if d = c then w (guardView t d) else guardView t d

theorem actsByGuard_id : ActsByGuard id (fun _ t => t) := fun _ _ _ => (ite_self _).symm

/-- One operation after another. -/
theorem ActsByGuard.comp {w₁ w₂ : GuardView → GuardView} {g₁ g₂ : Chan → State → State} (h₂ : ActsByGuard w₂ g₂)
    (h₁ : ActsByGuard w₁ g₁) : ActsByGuard (fun v => w₂ (w₁ v)) (fun c t => g₂ c (g₁ c t)) := by
  intro c d t
  rw [h₂, h₁]
  split <;> rfl

/-- One operation or another, as the channel's own records say. -/
theorem actsByGuard_ite {w₁ w₂ : GuardView → GuardView} {g₁ g₂ : Chan → State → State} (p : GuardView → Prop)
    [DecidablePred p] (h₁ : ActsByGuard w₁ g₁) (h₂ : ActsByGuard w₂ g₂) :
    ActsByGuard (fun v => if p v then w₁ v else w₂ v) (fun c t => if p (guardView t c) then g₁ c t else g₂ c t) := by
  intro c d t
  by_cases hdc : d = c
  · subst hdc
    simp only [if_pos]
    split
    exacts [(h₁ d d t).trans (if_pos rfl), (h₂ d d t).trans (if_pos rfl)]
  · rw [if_neg hdc]
    dsimp only
    split
    exacts [(h₁ c d t).trans (if_neg hdc), (h₂ c d t).trans (if_neg hdc)]

theorem guardView_forEach {w : GuardView → GuardView} {g : Chan → State → State} (hg : ActsByGuard w g) {l : List Chan}
    (hl : l.Nodup) (c : Chan) (s : State) :
    guardView (forEach l g s) c = if c ∈ l then w (guardView s c) else guardView s c := by
  split
  · next hc =>
    obtain ⟨u, hu, hend⟩ := forEach_at (fun t => guardView t c) hl hc
      (fun d t hd => (hg d c t).trans (if_neg hd.symm)) s
    exact (hend.trans ((hg c c u).trans (if_pos rfl))).trans (congrArg w hu)
  · next hc =>
    exact forEach_induct (P := fun t => guardView t c = guardView s c)
      (fun d hd t ht => ((hg d c t).trans (if_neg (ne_of_mem_of_not_mem hd hc).symm)).trans ht) rfl

theorem putHead_acts (φ : HeadRec → HeadRec) :
    ActsByGuard (fun v => { v with head := φ v.head }) (fun c t => putHead c (φ (t.head.recs.get c)) t) := by
  intro c d t
  simp only [guardView, putHead, get_set]
  split
  · next h => rw [h]
  · rfl

theorem markDirty_acts : ActsByGuard (fun v => { v with demand := { v.demand with dirty := true } }) markDirty := by
  intro c d t
  simp only [guardView, markDirty, get_modify]
  split <;> rfl

theorem setEvent_acts (e : Event) :
    ActsByGuard (fun v => { v with events := v.events ||| e.mask }) (fun c => setEvent c e) := by
  intro c d t
  simp only [guardView, setEvent_events, setEvent_config, setEvent_gain, setEvent_head, setEvent_demand]
  split <;> rfl

/-! ## HEADROOM RESET -/

/-- What HEADROOM RESET makes of a channel (R130). -/
def viewCleared (v : GuardView) : GuardView :=
  { v with head := { v.head with backoff := 0 }, demand := { v.demand with dirty := true } }

theorem clearBackoff_acts : ActsByGuard viewCleared clearBackoff :=
  markDirty_acts.comp (putHead_acts fun r => { r with backoff := 0 })

/-- R130: the backoffs of the range, and its dirty marks, and nothing else. -/
theorem clearBackoffs_eq (first last : Byte) (s : State) : forEach (rangeOf first last) clearBackoff s = { s with
    head := { s.head with recs := Tab.gen (fun c =>
      if Machine.InRange first last c then { s.head.recs.get c with backoff := 0 } else s.head.recs.get c) }
    demand := Tab.gen (fun c =>
      if Machine.InRange first last c then { s.demand.get c with dirty := true } else s.demand.get c) } := by
  have hview (c : Chan) := guardView_forEach clearBackoff_acts (rangeOf_nodup first last) c s
  have hkeeps := forEach_clearBackoff (rangeOf first last) s
  generalize forEach (rangeOf first last) clearBackoff s = t at hview hkeeps ⊢
  simp only [mem_rangeOf] at hview
  obtain ⟨hphase, hown, hconfig, hlink, htiming, hfeeds, hgain, hsteps, hpaths, hage, hphantom, hbatch, hreport, hahead,
    hseed, hpending⟩ := hkeeps
  have hdemand : t.demand = Tab.gen (fun c =>
      if Machine.InRange first last c then { s.demand.get c with dirty := true } else s.demand.get c) := by
    ext1 c
    have hc := congrArg GuardView.demand (hview c)
    rw [apply_ite GuardView.demand] at hc
    rw [get_gen]
    exact hc
  have hrecs : t.head.recs = Tab.gen (fun c =>
      if Machine.InRange first last c then { s.head.recs.get c with backoff := 0 } else s.head.recs.get c) := by
    ext1 c
    have hc := congrArg GuardView.head (hview c)
    rw [apply_ite GuardView.head] at hc
    rw [get_gen]
    exact hc
  have hhead : t.head = { s.head with recs := t.head.recs } := congrArg (Headroom.mk t.head.recs) hage
  exact state_ext hphase hown hconfig hlink htiming hfeeds hdemand hgain hsteps hpaths (hrecs ▸ hhead) hphantom hbatch
    hreport hahead hseed hpending

/-! ## TONE -/

/-- R179: the two states are OFF and ON. -/
theorem toneOf_state {state : Byte} (h : state = 0 ∨ state = 1) : toneOf state = some (decide (state = 1)) := by
  rcases h with rfl | rfl <;> rfl

/-- R110: the range of the feed's tone set, and nothing else. -/
theorem setTone_eq (f : Feed) (first last : Byte) (on : Bool) (s : State) : modPath f (setTone first last on) s
    = { s with paths := s.paths.set f { s.paths.get f with tone := Tab.gen (fun c =>
        if Machine.InRange first last c then on else (s.paths.get f).tone.get c) } } := by
  simp [modPath, Tab.modify, setTone, inRange, Machine.InRange]

/-- Settles O36: the two requests by what they change, with the outcome placed. -/
theorem headroomResetAndToneChangeTheirRange : Obligations.HeadroomResetAndToneChangeTheirRange := by
  intro e feed first last f s ht hheld hrange h
  have hquiet : NotSending h := heard_notSending e s
  refine ⟨congrArg Host.Outcome.next ((request_of_holder _ ht hheld).trans ?_),
    fun state hstate => congrArg Host.Outcome.next ((request_of_holder _ ht hheld).trans ?_)⟩
  · rw [if_pos (rangeOk_iff.mpr hrange), clearBackoffs_eq]
    exact place_eq_answered (notSending_congr (s := h) (by rfl) hquiet) _ _
  · rw [if_pos (rangeOk_iff.mpr hrange), toneOf_state hstate]
    dsimp only
    rw [setTone_eq]
    exact place_eq_answered (notSending_congr (s := h) (by rfl) hquiet) _ _

/-! ## The judgement of a window -/

/-- A clip episode is counted and reported (R127). -/
def viewClipped (v : GuardView) : GuardView :=
  { v with head := { v.head with episodes := v.head.episodes + 1 }, events := v.events ||| 1 }

/-- The action of guard mode BACKOFF (R128). -/
def viewRaised (v : GuardView) : GuardView :=
  if v.lock = .opened ∧ v.head.backoff < 36 then
    { v with
      head := { v.head with backoff := v.head.backoff + 6 }
      demand := { v.demand with dirty := true }
      events := v.events ||| 2 }
  else { v with events := v.events ||| 4 }

/-- What the judgement of a window makes of a channel (R127, R128). -/
def viewJudged (v : GuardView) : GuardView :=
  if v.rule ≤ v.head.window then
    if v.guard = .backoff then viewRaised (viewClipped v) else viewClipped v
  else v

theorem raiseBackoff_acts : ActsByGuard viewRaised raiseBackoff :=
  actsByGuard_ite (fun v => v.lock = .opened ∧ v.head.backoff < 36)
    (markDirty_acts.comp ((setEvent_acts .backoff).comp (putHead_acts fun r => { r with backoff := r.backoff + 6 })))
    (setEvent_acts .guardLimit)

theorem clip_acts : ActsByGuard viewClipped
    (fun c t =>
      setEvent c .clip (putHead c { t.head.recs.get c with episodes := (t.head.recs.get c).episodes + 1 } t)) :=
  (setEvent_acts .clip).comp (putHead_acts fun r => { r with episodes := r.episodes + 1 })

theorem judgeWindow_acts : ActsByGuard viewJudged judgeWindow :=
  actsByGuard_ite (fun v => v.rule ≤ v.head.window)
    (actsByGuard_ite (fun v => v.guard = .backoff) (raiseBackoff_acts.comp clip_acts) clip_acts) actsByGuard_id

/-- R127: below the count rule nothing happens. -/
theorem viewJudged_below {v : GuardView} (h : v.head.window < v.rule) : viewJudged v = v := if_neg (by omega)

/-- R127: in guard mode REPORT the episode is all. -/
theorem viewJudged_reports {v : GuardView} (h : v.rule ≤ v.head.window) (hguard : v.guard ≠ .backoff) :
    viewJudged v = viewClipped v := (if_pos h).trans (if_neg hguard)

theorem viewJudged_backoff {v : GuardView} (h : v.rule ≤ v.head.window) (hguard : v.guard = .backoff) :
    viewJudged v = viewRaised (viewClipped v) := (if_pos h).trans (if_pos hguard)

/-- R128: an OPEN channel below 18 dB is backed off by 3 dB more. -/
theorem viewRaised_raises {v : GuardView} (hopen : v.lock = .opened) (hroom : v.head.backoff < 36) : viewRaised v
    = { v with
        head := { v.head with backoff := v.head.backoff + 6 }
        demand := { v.demand with dirty := true }
        events := v.events ||| 2 } := if_pos ⟨hopen, hroom⟩

/-- R128: a locked channel, or one at 18 dB, is at its limit. -/
theorem viewRaised_limits {v : GuardView} (h : v.lock ≠ .opened ∨ 36 ≤ v.head.backoff) :
    viewRaised v = { v with events := v.events ||| 4 } :=
  if_neg fun ⟨hopen, hroom⟩ => h.elim (fun hlocked => hlocked hopen) (fun hfull => by omega)

/-- R165, R166: the events of an episode ask for CHANNEL. -/
theorem episode_asks (c : Chan) (s : State) : KeysAsked (· = .channel c) s (episode c s) := by
  have hclip (r : HeadRec) : KeysAsked (· = .channel c) s (setEvent c .clip (putHead c r s)) :=
    keysAsked_ask (.channel c) _
  unfold episode raiseBackoff
  dsimp only
  (repeat' split)
  · exact keysAsked_trans (hclip _) (keysAsked_ask (.channel c) _) (by simp)
  · exact keysAsked_trans (hclip _) (keysAsked_ask (.channel c) _) (by simp)
  · exact hclip _

theorem judgeWindow_asks (c : Chan) (s : State) :
    KeysAsked (fun k => countRule s.config ≤ (s.head.recs.get c).window ∧ k = .channel c) s (judgeWindow c s) := by
  unfold judgeWindow
  split
  · next h => exact keysAsked_congr (episode_asks c s) fun _ => and_iff_right h
  · next h => exact keysAsked_congr (keysAsked_refl s) fun _ => iff_of_false (fun hk => h hk.1) id

theorem judgeWindows_ask (s : State) : KeysAsked
    (fun k => ∃ c ∈ channels, countRule s.config ≤ (s.head.recs.get c).window ∧ k = .channel c) s
    (forEach channels judgeWindow s) :=
  forEach_keysAsked (key := Key.channel) (due := fun c t => countRule t.config ≤ (t.head.recs.get c).window)
    channels_nodup judgeWindow_asks
    (fun c d t hne => by
      have hview := (judgeWindow_acts d c t).trans (if_neg hne)
      exact iff_of_eq (congrArg (fun v : GuardView => v.rule ≤ v.head.window) hview)) s

/-! ## The close of a window -/

/-- What the close of a window makes of the state: each channel judged, and its count begun anew. -/
structure WindowClosed (s t : State) : Prop where
  age : t.head.windowAge = 0
  frame : t = { s with
    head := t.head
    demand := t.demand
    report := { s.report with keys := t.report.keys, events := t.report.events }
    link := { s.link with pair := t.link.pair }
    ahead := t.ahead }
  view : ∀ c, guardView t c = { viewJudged (guardView s c) with
    head := { (viewJudged (guardView s c)).head with window := 0 } }
  keys : ∀ c, countRule s.config ≤ (s.head.recs.get c).window → Key.channel c ∈ t.report.keys

theorem windowClosed_closeWindow (a : List Ahead) (s : State) :
    WindowClosed s (closeWindow { s with ahead := a }) := by
  have hview (c : Chan) : guardView (forEach channels judgeWindow { s with ahead := a }) c
      = viewJudged (guardView s c) :=
    (guardView_forEach judgeWindow_acts channels_nodup c _).trans (if_pos (mem_channels c))
  have hasked := judgeWindows_ask { s with ahead := a }
  have hkeeps := forEach_judgeWindow channels { s with ahead := a }
  unfold closeWindow
  generalize forEach channels judgeWindow { s with ahead := a } = u at hview hasked hkeeps ⊢
  obtain ⟨hphase, hown, hconfig, hstations, hclash, herrors, htiming, hfeeds, hgain, hsteps, hpaths, -, hphantom,
    hbatch, hslots, -, hseed, hpending⟩ := hkeeps
  refine ⟨rfl, ?_, fun c => ?_, fun c hclips => (hasked.2 _).mpr (.inr ⟨c, mem_channels c, hclips, rfl⟩)⟩
  · exact state_ext hphase hown hconfig (link_ext rfl hstations hclash herrors) htiming hfeeds rfl hgain hsteps hpaths
      rfl hphantom hbatch (report_ext rfl hslots rfl) rfl hseed hpending
  · rw [← hview c]
    simp [guardView]

/-- A channel after the close of a window, by its judgement. -/
theorem WindowClosed.records (h : WindowClosed s t) {c : Chan} {v : GuardView} (hv : viewJudged (guardView s c) = v) :
    t.head.recs.get c = { v.head with window := 0 } ∧ t.report.events.get c = v.events ∧ t.demand.get c = v.demand := by
  have hview := h.view c
  rw [hv] at hview
  exact ⟨congrArg GuardView.head hview, congrArg GuardView.events hview, congrArg GuardView.demand hview⟩

theorem windowClose_due (hr : s.running = true) (hage : 9 ≤ s.head.windowAge) :
    windowClose s = closeWindow { s with ahead := .window :: s.ahead } :=
  if_pos (by simp [hr, hage])

theorem windowAtBlock_noted (h : Ahead.window ∈ s.ahead) : windowAtBlock s = s := if_pos h

theorem windowAtBlock_ages (h : Ahead.window ∉ s.ahead) (hage : s.head.windowAge < 9) :
    windowAtBlock s = { s with head := { s.head with windowAge := s.head.windowAge + 1 } } :=
  (if_neg h).trans (if_pos (by omega))

theorem windowAtBlock_closes (h : Ahead.window ∉ s.ahead) (hage : 9 ≤ s.head.windowAge) :
    windowAtBlock s = closeWindow s := (if_neg h).trans (if_neg (by omega))

/-- Settles O51: the close of a window, each channel by its case, and when the close comes. -/
theorem windowCloseJudgesEveryChannel : Obligations.WindowCloseJudgesEveryChannel := by
  unfold Obligations.WindowCloseJudgesEveryChannel
  intro closes
  have hcloses {s t : State} (h : WindowClosed s t) : closes s t := by
    refine ⟨h.age, h.frame, fun c => ⟨fun hbelow => h.records (viewJudged_below hbelow), fun hclips =>
      ⟨h.keys c hclips, fun hguard => h.records (viewJudged_reports hclips hguard), fun hguard hopen hroom => ?_,
        fun hguard hlimit => ?_⟩⟩⟩
    · exact h.records ((viewJudged_backoff hclips hguard).trans (viewRaised_raises hopen hroom))
    · exact h.records ((viewJudged_backoff hclips hguard).trans (viewRaised_limits hlimit))
  refine ⟨fun s hr hage => ⟨_, congrArg Host.Outcome.next (windowClose_due hr hage),
      hcloses (windowClosed_closeWindow _ s), by simp⟩,
    fun s => ⟨windowAtBlock_noted, windowAtBlock_ages, fun hno hage => ?_⟩⟩
  rw [windowAtBlock_closes hno hage]
  exact ⟨hcloses (windowClosed_closeWindow s.ahead s), by simp⟩

end Sys2Proof.Proofs
end

section
/-! The phantom controller, one channel at a time (R133 to R136, R142 to R146): what a counted move makes of its
channel's records, which keys it asks for, and what the controller leaves alone. -/

namespace Sys2Proof.Proofs

open Sys2Proof.Machine Sys2Proof.Laws

variable {s t u : State}

/-! ## What the phantom controller leaves alone -/

/-- All but the phantom controller, the reports of it, and the attempt in progress. -/
def outsidePhantom (s : State) :=
  (s.phase, s.own, s.config, s.link.stations, s.link.clash, s.link.errors, s.timing, s.feeds, s.demand, s.gain, s.steps,
    s.paths, s.head, s.batch, s.report.slots, s.ahead, s.seed, s.pending)

/-- Only the phantom controller, the reports of it and the attempt in progress differ. -/
def PhantomFrame (s t : State) : Prop := t = { s with
  phantom := t.phantom
  link := { s.link with pair := t.link.pair }
  report := { s.report with keys := t.report.keys, events := t.report.events } }

theorem phantomFrame_of_outside (h : outsidePhantom t = outsidePhantom s) : PhantomFrame s t := by
  simp only [outsidePhantom, Prod.mk.injEq] at h
  obtain ⟨hphase, hown, hconfig, hstations, hclash, herrors, htiming, hfeeds, hdemand, hgain, hsteps, hpaths, hhead,
    hbatch, hslots, hahead, hseed, hpending⟩ := h
  exact state_ext hphase hown hconfig (link_ext rfl hstations hclash herrors) htiming hfeeds hdemand hgain hsteps hpaths
    hhead rfl hbatch (report_ext rfl hslots rfl) hahead hseed hpending

/-! ## One channel -/

theorem chanView_putPhantom (c d : Chan) (r : PhantomRec) (s : State) :
    chanView (putPhantom c r s) d = if d = c then { chanView s d with phantom := r } else chanView s d := by
  simp only [chanView, putPhantom_recs, putPhantom_keeps, get_set]
  split <;> rfl

theorem movePhantom_acts (st : PhantomState) (k : OffCause) :
    ActsByView (fun v => { v with phantom := { v.phantom with state := st, cause := k }, events := v.events ||| 16#9 })
      (fun c => movePhantom c st k) := fun c d t => chanView_movePhantom c d st k t

theorem countPhantom_acts (e : Event) (g : PhantomRec → PhantomRec) :
    ActsByView (fun v => { v with phantom := g v.phantom, events := v.events ||| e.mask })
      (fun c => countPhantom c e g) := by
  intro c d t
  have hset : chanView (countPhantom c e g t) d
      = { chanView (putPhantom c (g (t.phantom.recs.get c)) t) d with
          events := (countPhantom c e g t).report.events.get d } := rfl
  dsimp only
  rw [hset, chanView_putPhantom, countPhantom, setEvent_events, putPhantom_report]
  split
  · next h =>
    rw [h]
    rfl
  · rfl

theorem countPhantom_asks (c : Chan) (e : Event) (g : PhantomRec → PhantomRec) (s : State) :
    KeysAsked (· = .channel c) s (countPhantom c e g s) := by
  have h := keysAsked_ask (.channel c) (putPhantom c (g (s.phantom.recs.get c)) s)
  rw [KeysAsked, putPhantom_report] at h
  exact h

/-- R144, R146, R148: a channel moves, and the move is counted with an event of its own. -/
def countedMove (st : PhantomState) (k : OffCause) (e : Event) (g : PhantomRec → PhantomRec) (c : Chan) (s : State) :
    State := countPhantom c e g (movePhantom c st k s)

theorem countedMove_acts (st : PhantomState) (k : OffCause) (e : Event) (g : PhantomRec → PhantomRec) :
    ActsByView (fun v => { v with
      phantom := g { v.phantom with state := st, cause := k }, events := v.events ||| 16 ||| e.mask })
      (countedMove st k e g) := by
  intro c d t
  have hmoved := movePhantom_acts st k c d t
  have hcounted := countPhantom_acts e g c d (movePhantom c st k t)
  dsimp only at hmoved hcounted
  rw [countedMove, hcounted, hmoved]
  split <;> rfl

theorem countedMove_asks (st : PhantomState) (k : OffCause) (e : Event) (g : PhantomRec → PhantomRec) (c : Chan)
    (s : State) : KeysAsked (fun key => key = .channel c
      ∨ key = .box ∧ (s.phantom.recs.get c).state.powered ≠ st.powered) s (countedMove st k e g c s) :=
  keysAsked_trans (movePhantom_asks c st k s) (countPhantom_asks c e g _) fun key => by tauto

/-- A table that is read off the views changes in a round at its own channel. -/
theorem ActsByView.table {β : Type} {w : ChanView → ChanView} {g : Chan → State → State} (hg : ActsByView w g)
    (p : ChanView → β) {table : State → Tab β 32} (htable : ∀ s d, (table s).get d = p (chanView s d)) (c : Chan)
    (s : State) : table (g c s) = (table s).set c (p (w (chanView s c))) := by
  ext d : 1
  rw [htable, hg, get_set, apply_ite p, ← htable]
  split
  · next h => rw [h]
  · rfl

theorem ActsByView.recs {w : ChanView → ChanView} {g : Chan → State → State} (hg : ActsByView w g) (c : Chan)
    (s : State) : (g c s).phantom.recs = s.phantom.recs.set c (w (chanView s c)).phantom :=
  hg.table ChanView.phantom (table := fun s => s.phantom.recs) (fun _ _ => rfl) c s

theorem ActsByView.events {w : ChanView → ChanView} {g : Chan → State → State} (hg : ActsByView w g) (c : Chan)
    (s : State) : (g c s).report.events = s.report.events.set c (w (chanView s c)).events :=
  hg.table ChanView.events (table := fun s => s.report.events) (fun _ _ => rfl) c s

/-! ## Trips, sheds, admissions and denials -/

/-- The record of a channel that a short has tripped (R146). -/
def trippedRecord (r : PhantomRec) : PhantomRec :=
  { r with state := .falling 250, cause := .short, persist := 0, shorts := r.shorts + 1 }

theorem trip_acts : ActsByView (fun v => { v with
    phantom := trippedRecord v.phantom, events := v.events ||| 16#9 ||| 128#9 }) trip :=
  countedMove_acts (.falling 250) .short .short fun r => { r with persist := 0, shorts := r.shorts + 1 }

theorem trip_asks (c : Chan) (s : State) : KeysAsked (fun key => key = .channel c
    ∨ key = .box ∧ (s.phantom.recs.get c).state.powered ≠ false) s (trip c s) :=
  countedMove_asks (.falling 250) .short .short _ c s

theorem shed_acts (k : OffCause) : ActsByView (fun v => { v with
    phantom := shedRecord k v.phantom, events := v.events ||| 16#9 ||| 32#9 }) (shed k) :=
  countedMove_acts (.falling 250) k .shed fun r => { r with persist := 0, sheds := r.sheds + 1 }

theorem shed_asks (k : OffCause) (c : Chan) (s : State) : KeysAsked (fun key => key = .channel c
    ∨ key = .box ∧ (s.phantom.recs.get c).state.powered ≠ false) s (shed k c s) :=
  countedMove_asks (.falling 250) k .shed _ c s

/-- The record of a channel that has been admitted (R142). -/
def admittedRecord (r : PhantomRec) : PhantomRec := { r with state := .rising 250, cause := .none, persist := 0 }

theorem powerUp_acts : ActsByView (fun v => { v with
    phantom := admittedRecord v.phantom, events := v.events ||| 16#9 }) powerUp := by
  intro c d t
  have hmoved := movePhantom_acts (.rising 250) .none c d t
  dsimp only at hmoved
  unfold powerUp
  rw [chanView_putPhantom, hmoved]
  split
  · next h =>
    subst h
    rw [movePhantom_recs, get_set_self]
    rfl
  · rfl

theorem powerUp_asks (c : Chan) (s : State) : KeysAsked (fun key => key = .channel c
    ∨ key = .box ∧ (s.phantom.recs.get c).state.powered ≠ true) s (powerUp c s) := by
  have h := movePhantom_asks c (.rising 250) .none s
  rw [KeysAsked] at h ⊢
  rw [powerUp, putPhantom_report]
  exact h

/-- A first pass that leaves the channel out is a denial (R143). -/
def denied (v : ChanView) : ChanView :=
  if v.phantom.state = .waiting true then
    { v with
      phantom := { v.phantom with state := .waiting false, denials := v.phantom.denials + 1 }
      events := v.events ||| 64#9 }
  else v

theorem passOver_eq (c : Chan) (s : State) : passOver c s
    = if (s.phantom.recs.get c).state = .waiting true then
        countPhantom c .denied (fun r => { r with state := .waiting false, denials := r.denials + 1 }) s
      else s := by
  unfold passOver
  split
  · next h => rw [if_pos h]
  · next h => rw [if_neg h]

theorem passOver_acts : ActsByView denied passOver := by
  intro c d t
  rw [passOver_eq]
  exact actsByView_where (countPhantom_acts .denied _) (fun v => v.phantom.state = .waiting true) c d t

theorem passOver_asks (c : Chan) (s : State) :
    KeysAsked (fun key => key = .channel c ∧ (s.phantom.recs.get c).state = .waiting true) s (passOver c s) := by
  rw [passOver_eq]
  split
  · next h => exact keysAsked_congr (countPhantom_asks c .denied _ s) (by simp [h])
  · next h => exact keysAsked_congr (keysAsked_refl s) (by simp [h])

end Sys2Proof.Proofs
end

section
/-! The end of a settle (R135, R136): a countdown falls by one at each block start, and where it would reach 0 the
channel moves by its state, its wants and its off cause. -/

namespace Sys2Proof.Proofs

open Sys2Proof.Machine Sys2Proof.Laws

variable {s : State} {c : Chan} {n : Nat}

/-- The channel has moved to a state, its off cause kept; PHANTOM CHANGE is set and CHANNEL asked for (R134, R136). -/
def MovesTo (st : PhantomState) (c : Chan) (s t : State) : Prop :=
  t = { s with
      phantom := { s.phantom with recs := s.phantom.recs.set c { s.phantom.recs.get c with state := st } }
      link := { s.link with pair := t.link.pair }
      report := { s.report with
        keys := t.report.keys
        events := s.report.events.set c (s.report.events.get c ||| 16#9) } }
    ∧ Key.channel c ∈ t.report.keys

theorem movePhantom_movesTo (c : Chan) (st : PhantomState) (s : State) :
    MovesTo st c s (movePhantom c st (s.phantom.recs.get c).cause s) := by
  have hasked := (movePhantom_asks c st (s.phantom.recs.get c).cause s).2 (.channel c)
  have houtside : outsidePhantom (movePhantom c st (s.phantom.recs.get c).cause s) = outsidePhantom s := by
    simp [outsidePhantom]
  have hframe := phantomFrame_of_outside houtside
  have hphantom := congrArg State.phantom (movePhantom_frame (s := s) c st (s.phantom.recs.get c).cause)
  have hevents := (movePhantom_acts st (s.phantom.recs.get c).cause).events c s
  dsimp only at hevents hphantom
  generalize movePhantom c st (s.phantom.recs.get c).cause s = t at *
  refine ⟨?_, hasked.mpr (.inr (.inl rfl))⟩
  rw [PhantomFrame, hphantom, hevents] at hframe
  exact hframe

/-! ## Where a settle ends -/

theorem endSettle_rising (h : (s.phantom.recs.get c).state = .rising n) : MovesTo .on c s (endSettle c s) := by
  have hmove : endSettle c s = movePhantom c .on (s.phantom.recs.get c).cause s := by simp [endSettle, h]
  rw [hmove]
  exact movePhantom_movesTo c .on s

theorem endSettle_falling (h : (s.phantom.recs.get c).state = .falling n) :
    MovesTo (afterFalling (s.requested c) (s.phantom.recs.get c).cause) c s (endSettle c s) := by
  have hmove : endSettle c s = movePhantom c (afterFalling (s.requested c) (s.phantom.recs.get c).cause)
      (s.phantom.recs.get c).cause s := by simp [endSettle, h]
  rw [hmove]
  exact movePhantom_movesTo c _ s

/-- R136: a channel that has fallen is OFF without a want; with one it waits, is SHED or in FAULT by its cause. -/
theorem afterFalling_cases (k : OffCause) : afterFalling false k = .off
    ∧ (k = .released → afterFalling true k = .waiting true)
    ∧ (k = .shedBudget ∨ k = .shedLoad → afterFalling true k = .shed)
    ∧ (k = .short → afterFalling true k = .fault) := by
  refine ⟨rfl, ?_, ?_, ?_⟩
  · rintro rfl
    rfl
  · rintro (rfl | rfl) <;> rfl
  · rintro rfl
    rfl

theorem endSettle_falling_cases (h : (s.phantom.recs.get c).state = .falling n) :
    (s.requested c = false → MovesTo .off c s (endSettle c s))
    ∧ (s.requested c = true → (s.phantom.recs.get c).cause = .released → MovesTo (.waiting true) c s (endSettle c s))
    ∧ (s.requested c = true → (s.phantom.recs.get c).cause = .shedBudget ∨ (s.phantom.recs.get c).cause = .shedLoad →
      MovesTo .shed c s (endSettle c s))
    ∧ (s.requested c = true → (s.phantom.recs.get c).cause = .short → MovesTo .fault c s (endSettle c s)) := by
  have hmoves := endSettle_falling h
  obtain ⟨hoff, hreleased, hshed, hshort⟩ := afterFalling_cases (s.phantom.recs.get c).cause
  refine ⟨fun hno => ?_, fun hyes hk => ?_, fun hyes hk => ?_, fun hyes hk => ?_⟩
  · rwa [hno, hoff] at hmoves
  · rwa [hyes, hreleased hk] at hmoves
  · rwa [hyes, hshed hk] at hmoves
  · rwa [hyes, hshort hk] at hmoves

/-! ## Countdowns -/

theorem advanceSettle_stands (h : Ahead.settle c ∈ s.ahead ∨ ∀ n, (s.phantom.recs.get c).state ≠ .rising n
    ∧ (s.phantom.recs.get c).state ≠ .falling n) : advanceSettle c s = s := by
  unfold advanceSettle
  dsimp only
  split
  · next n hleft =>
    refine if_pos (h.resolve_right fun hno => ?_)
    obtain ⟨hrising, hfalling⟩ := hno n
    exact (left_eq_some.mp hleft).elim hrising hfalling
  · rfl

theorem advanceSettle_counts (hahead : Ahead.settle c ∉ s.ahead) (hn : 2 ≤ n)
    (h : (s.phantom.recs.get c).state = .rising n ∨ (s.phantom.recs.get c).state = .falling n) :
    advanceSettle c s = { s with phantom := { s.phantom with
      recs := s.phantom.recs.set c
        { s.phantom.recs.get c with state := (s.phantom.recs.get c).state.counted } } } := by
  unfold advanceSettle
  dsimp only
  rw [left_eq_some.mpr h]
  dsimp only
  rw [if_neg hahead, if_neg (by omega), putPhantom_eq]

theorem advanceSettle_ends (hahead : Ahead.settle c ∉ s.ahead) (hn : n ≤ 1)
    (h : (s.phantom.recs.get c).state = .rising n ∨ (s.phantom.recs.get c).state = .falling n) :
    advanceSettle c s = endSettle c s := by
  unfold advanceSettle
  dsimp only
  rw [left_eq_some.mpr h]
  dsimp only
  rw [if_neg hahead, if_pos hn]

theorem settleEnd_due (hrun : s.running = true) (hahead : Ahead.settle c ∉ s.ahead) (hn : n ≤ 1)
    (h : (s.phantom.recs.get c).state = .rising n ∨ (s.phantom.recs.get c).state = .falling n) :
    settleEnd c s = endSettle c s := by
  rw [settleEnd, whileRunning_of_running hrun, left_eq_some.mpr h]
  exact if_pos ⟨hn, hahead⟩

/-- Settles O55: the settle ends as one move, commanded by itself or at its block start; before that it counts. -/
theorem settleEndMovesTheState : Obligations.SettleEndMovesTheState := by
  unfold Obligations.SettleEndMovesTheState
  intro ends
  refine ⟨fun c s n hrun hn hahead => ?_, fun c s => ?_⟩
  · have hdue {st : PhantomState}
        (h : (s.phantom.recs.get c).state = .rising n ∨ (s.phantom.recs.get c).state = .falling n)
        (hmoves : MovesTo st c s (endSettle c s)) : ∃ t, exec (.settleEnd c) s = .next t ∧ ends st c s t :=
      ⟨_, congrArg Host.Outcome.next (settleEnd_due hrun hahead hn h), hmoves⟩
    refine ⟨fun hr => hdue (.inl hr) (endSettle_rising hr), fun hf => ?_⟩
    obtain ⟨hoff, hwaiting, hshed, hfault⟩ := endSettle_falling_cases hf
    exact ⟨fun hno => hdue (.inr hf) (hoff hno), fun hyes hk => hdue (.inr hf) (hwaiting hyes hk),
      fun hyes hk => hdue (.inr hf) (hshed hyes hk), fun hyes hk => hdue (.inr hf) (hfault hyes hk)⟩
  · refine ⟨advanceSettle_stands, fun hahead n => ⟨fun hn => ⟨fun hr => ?_, fun hf => ?_⟩,
      fun hn => ⟨fun hr => ?_, fun hf => ?_⟩⟩⟩
    · exact (advanceSettle_counts hahead hn (.inl hr)).trans (by rw [hr]; rfl)
    · exact (advanceSettle_counts hahead hn (.inr hf)).trans (by rw [hf]; rfl)
    · rw [advanceSettle_ends hahead hn (.inl hr)]
      exact endSettle_rising hr
    · rw [advanceSettle_ends hahead hn (.inr hf)]
      exact endSettle_falling_cases hf

end Sys2Proof.Proofs
end

section
/-! The allocated load (R133, R139): how it moves with the powered channels, and that one channel moves it by the
allowance. -/

namespace Sys2Proof.Proofs

open Sys2Proof.Machine Sys2Proof.Laws

variable {s t : State} {c : Chan}

/-- The records by which load and budget are worked out (R133, R137). -/
def SameSupply (s t : State) : Prop := t.config = s.config ∧ t.phantom.bank = s.phantom.bank

theorem SameSupply.budget (h : SameSupply s t) : t.budget = s.budget := by
  obtain ⟨hconfig, hbank⟩ := h
  rw [State.budget, State.budget, hconfig, hbank]

theorem SameSupply.allowance (h : SameSupply s t) : t.config.allowance = s.config.allowance := by rw [h.1]

theorem poweredChannels_nodup (s : State) : s.poweredChannels.Nodup := channels_nodup.filter _

theorem load_eq_of_powered (hconfig : t.config = s.config)
    (h : ∀ d, d ∈ t.poweredChannels ↔ d ∈ s.poweredChannels) : t.load = s.load := by
  have hperm := (List.perm_ext_iff_of_nodup (poweredChannels_nodup t) (poweredChannels_nodup s)).mpr h
  rw [State.load, State.load, hconfig, hperm.length_eq]

/-- Fewer powered channels, no more load. -/
theorem load_le_of_powered (hconfig : t.config = s.config)
    (h : ∀ d ∈ t.poweredChannels, d ∈ s.poweredChannels) : t.load ≤ s.load := by
  have hlen := (List.subperm_of_subset (poweredChannels_nodup t) h).length_le
  rw [State.load, State.load, hconfig]
  exact Nat.mul_le_mul_left _ hlen

/-- One more powered channel, at most one allowance more. -/
theorem load_le_of_powered_cons (hconfig : t.config = s.config)
    (h : ∀ d ∈ t.poweredChannels, d = c ∨ d ∈ s.poweredChannels) : t.load ≤ s.load + s.config.allowance := by
  have hlen := (List.subperm_of_subset (l₂ := c :: s.poweredChannels) (poweredChannels_nodup t)
    fun d hd => List.mem_cons.mpr (h d hd)).length_le
  rw [State.load, State.load, hconfig, ← Nat.mul_succ]
  exact Nat.mul_le_mul_left _ hlen

/-- One powered channel fewer, one channel fewer in the list. -/
theorem length_powered_of_removed (hc : c ∈ s.poweredChannels)
    (h : ∀ d, d ∈ t.poweredChannels ↔ d ∈ s.poweredChannels ∧ d ≠ c) :
    s.poweredChannels.length = t.poweredChannels.length + 1 := by
  have hnot : c ∉ t.poweredChannels := fun hmem => ((h c).mp hmem).2 rfl
  have hperm : s.poweredChannels.Perm (c :: t.poweredChannels) := by
    refine (List.perm_ext_iff_of_nodup (poweredChannels_nodup s)
      (List.nodup_cons.mpr ⟨hnot, poweredChannels_nodup t⟩)).mpr fun d => ?_
    rw [List.mem_cons, h]
    by_cases hd : d = c
    · simp [hd, hc]
    · simp [hd]
  exact hperm.length_eq

theorem load_of_removed (hconfig : t.config = s.config) (hc : c ∈ s.poweredChannels)
    (h : ∀ d, d ∈ t.poweredChannels ↔ d ∈ s.poweredChannels ∧ d ≠ c) : s.load = t.load + s.config.allowance := by
  rw [State.load, State.load, hconfig, length_powered_of_removed hc h, Nat.mul_succ]

theorem load_of_none (h : s.poweredChannels = []) : s.load = 0 := by rw [State.load, h, List.length_nil, Nat.mul_zero]

theorem powered_of_acts {w : ChanView → ChanView} {g : Chan → State → State} (hg : ActsByView w g) (c d : Chan)
    (s : State) : d ∈ (g c s).poweredChannels
      ↔ if d = c then (w (chanView s d)).phantom.state.powered = true else d ∈ s.poweredChannels := by
  have h := congrArg (fun v : ChanView => v.phantom.state.powered) (hg c d s)
  rw [mem_poweredChannels, mem_poweredChannels]
  change ((g c s).phantom.recs.get d).state.powered = _ at h
  rw [h]
  split <;> rfl

end Sys2Proof.Proofs
end

section
/-! The admission pass (R142, R143): as the load only grows along the pass, it admits the first channels of its order,
up to the first that does not fit, and passes the rest over. -/

namespace Sys2Proof.Proofs

open Sys2Proof.Machine Sys2Proof.Laws

variable {s t : State}

/-! ## The order of the pass -/

theorem queuesAs_shed {st : PhantomState} : queuesAs true st = true ↔ st = .shed := by
  cases st <;> simp [queuesAs]

theorem queuesAs_waiting {st : PhantomState} : queuesAs false st = true ↔ ∃ b, st = .waiting b := by
  cases st <;> simp [queuesAs]

theorem mem_passOf {p : Priority} {c : Chan} :
    c ∈ passOf s p ↔ (s.config.chans.get c).priority = p ∧ Queued (s.phantom.recs.get c) := by
  simp only [passOf, List.mem_append, List.mem_filter, mem_channels, true_and, Bool.and_eq_true, beq_iff_eq,
    queuesAs_shed, queuesAs_waiting, Queued]
  tauto

theorem mem_passOrder {c : Chan} : c ∈ passOrder s ↔ Queued (s.phantom.recs.get c) := by
  simp only [passOrder, List.mem_append, mem_passOf]
  cases (s.config.chans.get c).priority <;> simp

theorem channels_ascend : channels.Pairwise (· < ·) := List.pairwise_lt_finRange 32

/-- Within a priority SHED goes before WAITING, and lower numbers go first (R142). -/
theorem passOf_ordered (s : State) (p : Priority) : (passOf s p).Pairwise (AdmittedBefore s) := by
  have hmem {b : Bool} {c : Chan} (hc : c ∈ channels.filter fun c =>
      (s.config.chans.get c).priority == p && queuesAs b (s.phantom.recs.get c).state) :
      s.place c = Priority.place p ∧ ((s.phantom.recs.get c).state = .shed ↔ b = true) := by
    simp only [List.mem_filter, Bool.and_eq_true, beq_iff_eq] at hc
    obtain ⟨-, hprio, hqueues⟩ := hc
    refine ⟨by rw [State.place, hprio], ?_⟩
    cases b
    · obtain ⟨first, hst⟩ := queuesAs_waiting.mp hqueues
      simp [hst]
    · simp [queuesAs_shed.mp hqueues]
  have hsame (b : Bool) : (channels.filter fun c =>
      (s.config.chans.get c).priority == p && queuesAs b (s.phantom.recs.get c).state).Pairwise (AdmittedBefore s) :=
    (channels_ascend.filter _).imp_of_mem fun {c d} hc hd hlt =>
      .inr ⟨(hmem hc).1.trans (hmem hd).1.symm, .inr ⟨(hmem hc).2.trans (hmem hd).2.symm, hlt⟩⟩
  refine List.pairwise_append.mpr ⟨hsame true, hsame false, fun c hc d hd => ?_⟩
  exact .inr ⟨(hmem hc).1.trans (hmem hd).1.symm,
    .inl ⟨(hmem hc).2.mpr rfl, fun h => Bool.false_ne_true ((hmem hd).2.mp h)⟩⟩

theorem passOrder_ordered (s : State) : (passOrder s).Pairwise (AdmittedBefore s) := by
  have hplace {p : Priority} {c : Chan} (hc : c ∈ passOf s p) : s.place c = Priority.place p := by
    rw [State.place, (mem_passOf.mp hc).1]
  have hcross {p q : Priority} (hpq : Priority.place p < Priority.place q) {c d : Chan} (hc : c ∈ passOf s p)
      (hd : d ∈ passOf s q) : AdmittedBefore s c d := .inl (by rwa [hplace hc, hplace hd])
  unfold passOrder
  refine List.pairwise_append.mpr ⟨List.pairwise_append.mpr ⟨passOf_ordered s _, passOf_ordered s _,
    fun c hc d hd => hcross (by decide) hc hd⟩, passOf_ordered s _, fun c hc d hd => ?_⟩
  exact (List.mem_append.mp hc).elim (fun hc => hcross (by decide) hc hd) fun hc => hcross (by decide) hc hd

theorem admittedBefore_asymm {c d : Chan} (h : AdmittedBefore s c d) : ¬ AdmittedBefore s d c := by
  unfold AdmittedBefore at *
  rcases h with hplace | ⟨hplace, ⟨hshed, hnot⟩ | ⟨hiff, hlt⟩⟩
  · omega
  · rintro (hlater | ⟨-, ⟨hshed', -⟩ | ⟨hiff, -⟩⟩)
    · omega
    · exact hnot hshed'
    · exact hnot (hiff.mpr hshed)
  · rintro (hlater | ⟨-, ⟨hshed', hnot⟩ | ⟨-, hgt⟩⟩)
    · omega
    · exact hnot (hiff.mpr hshed')
    · exact absurd hlt (lt_asymm hgt)

theorem passOrder_nodup (s : State) : (passOrder s).Nodup :=
  (passOrder_ordered s).imp (S := (· ≠ ·)) fun h heq => by
    subst heq
    exact admittedBefore_asymm h h

/-! ## The rounds -/

theorem sameSupply_powerUp (c : Chan) (s : State) : SameSupply s (powerUp c s) := by simp [SameSupply]

theorem sameSupply_passOver (c : Chan) (s : State) : SameSupply s (passOver c s) := by simp [SameSupply]

theorem powerUp_load (c : Chan) (s : State) : (powerUp c s).load ≤ s.load + s.config.allowance := by
  refine load_le_of_powered_cons (c := c) (sameSupply_powerUp c s).1 fun d hd => ?_
  rw [powered_of_acts powerUp_acts] at hd
  split at hd
  · next h => exact .inl h
  · exact .inr hd

/-- A denial powers no channel and takes power from none. -/
theorem denied_powered (v : ChanView) : (denied v).phantom.state.powered = v.phantom.state.powered := by
  unfold denied
  split
  · next h => rw [h]; rfl
  · rfl

theorem passOver_load (c : Chan) (s : State) : (passOver c s).load = s.load := by
  refine load_eq_of_powered (sameSupply_passOver c s).1 fun d => ?_
  rw [powered_of_acts passOver_acts, denied_powered, mem_poweredChannels]
  exact iff_of_eq (ite_self _)

/-- Where the next channel does not fit, none of the rest does. -/
theorem considerRounds_full {l : List Chan} (h : s.budget < s.load + s.config.allowance) :
    forEach l considerChannel s = forEach l passOver s := by
  induction l generalizing s with
  | nil => rfl
  | cons c l ih =>
    have hsame := sameSupply_passOver c s
    have hround : considerChannel c s = passOver c s := if_neg (by omega)
    rw [forEach_cons, forEach_cons, hround, ih]
    rw [hsame.budget, hsame.allowance, passOver_load]
    exact h

theorem passOvers_load (l : List Chan) (s : State) : (forEach l passOver s).load = s.load :=
  forEach_keeps State.load passOver_load s

theorem sameSupply_passOvers (l : List Chan) (s : State) : SameSupply s (forEach l passOver s) :=
  forEach_induct (P := SameSupply s)
    (fun c _ t ht => ⟨(sameSupply_passOver c t).1.trans ht.1, (sameSupply_passOver c t).2.trans ht.2⟩) ⟨rfl, rfl⟩

/-- R142: a pass admits the channels up to the first that does not fit, and passes over that one and all after it. -/
theorem considerRounds_split (l : List Chan) (s : State) : ∃ a b, l = a ++ b
    ∧ forEach l considerChannel s = forEach b passOver (forEach a powerUp s)
    ∧ (a ≠ [] → (forEach l considerChannel s).load ≤ (forEach l considerChannel s).budget)
    ∧ (b ≠ [] → (forEach l considerChannel s).budget
        < (forEach l considerChannel s).load + (forEach l considerChannel s).config.allowance) := by
  induction l generalizing s with
  | nil => exact ⟨[], [], rfl, rfl, absurd rfl, absurd rfl⟩
  | cons c l ih =>
    by_cases hfits : s.load + s.config.allowance ≤ s.budget
    · have hround : considerChannel c s = powerUp c s := if_pos hfits
      obtain ⟨a, b, hl, hrounds, hload, hfull⟩ := ih (powerUp c s)
      rw [forEach_cons, hround]
      refine ⟨c :: a, b, by rw [hl]; rfl, hrounds, fun _ => ?_, hfull⟩
      cases a with
      | cons d a => exact hload (List.cons_ne_nil d a)
      | nil =>
        have hpowered := powerUp_load c s
        rw [hrounds, forEach_nil, passOvers_load, (sameSupply_passOvers b _).budget, (sameSupply_powerUp c s).budget]
        omega
    · have hfull : s.budget < s.load + s.config.allowance := by omega
      have hsame := sameSupply_passOvers (c :: l) s
      rw [considerRounds_full hfull]
      refine ⟨[], c :: l, rfl, rfl, absurd rfl, fun _ => ?_⟩
      rw [hsame.budget, hsame.allowance, passOvers_load]
      exact hfull

/-! ## The pass as a whole -/

/-- What the pass makes of the state: `a` is admitted, `b` passed over. -/
structure Passed (a b : List Chan) (s t : State) : Prop where
  order : passOrder s = a ++ b
  view : ∀ c, chanView t c = if c ∈ a then
      { chanView s c with phantom := admittedRecord (chanView s c).phantom, events := (chanView s c).events ||| 16#9 }
    else if c ∈ b then denied (chanView s c) else chanView s c
  keys : KeysAsked (fun k => (∃ c ∈ a, k = .channel c ∨ k = .box)
    ∨ ∃ c ∈ b, k = .channel c ∧ (s.phantom.recs.get c).state = .waiting true) s t
  load : a ≠ [] → t.load ≤ t.budget
  full : b ≠ [] → t.budget < t.load + t.config.allowance

theorem not_powered_of_queued {r : PhantomRec} (h : Queued r) : r.state.powered = false := by
  rcases h with h | ⟨b, h⟩ <;> rw [h] <;> rfl

theorem admissionPass_passed (s : State) : ∃ a b, Passed a b s (admissionPass s) := by
  obtain ⟨a, b, horder, hrounds, hload, hfull⟩ := considerRounds_split (passOrder s) s
  have hnodup := passOrder_nodup s
  have hqueued : ∀ c ∈ passOrder s, Queued (s.phantom.recs.get c) := fun c => mem_passOrder.mp
  rw [horder] at hnodup hqueued
  obtain ⟨ha, hb, hdisjoint⟩ := List.nodup_append.mp hnodup
  have hapart {c : Chan} (hc : c ∈ b) : c ∉ a := fun hc' => hdisjoint c hc' c hc rfl
  have hadmitted := chanView_forEach powerUp_acts ha
  refine ⟨a, b, horder, fun c => ?_, ?_, hload, hfull⟩
  · rw [admissionPass, hrounds, chanView_forEach passOver_acts hb, hadmitted]
    by_cases hc : c ∈ b
    · rw [if_pos hc, if_neg (hapart hc), if_neg (hapart hc), if_pos hc]
    · rw [if_neg hc, if_neg hc]
  · rw [admissionPass, hrounds]
    refine keysAsked_trans
      (forEach_asks powerUp_acts (q := fun c v k => k = .channel c ∨ k = .box ∧ v.phantom.state.powered ≠ true)
        powerUp_asks ha s)
      (forEach_asks passOver_acts (q := fun c v k => k = .channel c ∧ v.phantom.state = .waiting true)
        passOver_asks hb _) fun k => or_congr ?_ ?_
    · refine exists_congr fun c => and_congr_right fun hc => or_congr_right ?_
      have hoff := not_powered_of_queued (hqueued c (List.mem_append_left b hc))
      exact (and_iff_left (by rw [chanView, hoff]; exact Bool.false_ne_true)).symm
    · refine exists_congr fun c => and_congr_right fun hc => ?_
      rw [hadmitted, if_neg (hapart hc)]
      rfl

section Passed

variable {a b : List Chan} {c : Chan}

theorem Passed.queued (h : Passed a b s t) : Queued (s.phantom.recs.get c) ↔ c ∈ a ∨ c ∈ b := by
  rw [← mem_passOrder, h.order, List.mem_append]

theorem Passed.disjoint (h : Passed a b s t) (hc : c ∈ b) : c ∉ a := by
  have hnodup := passOrder_nodup s
  rw [h.order] at hnodup
  exact fun hc' => (List.nodup_append.mp hnodup).2.2 c hc' c hc rfl

theorem Passed.admitted (h : Passed a b s t) (hc : c ∈ a) :
    t.phantom.recs.get c = admittedRecord (s.phantom.recs.get c)
      ∧ t.report.events.get c = s.report.events.get c ||| 16#9 := by
  have hview := h.view c
  rw [if_pos hc] at hview
  exact ⟨congrArg ChanView.phantom hview, congrArg ChanView.events hview⟩

theorem Passed.passed (h : Passed a b s t) (hc : c ∈ b) : chanView t c = denied (chanView s c) := by
  rw [h.view, if_neg (h.disjoint hc), if_pos hc]

theorem Passed.denial (h : Passed a b s t) (hc : c ∈ b) (hfirst : (s.phantom.recs.get c).state = .waiting true) :
    t.phantom.recs.get c = { s.phantom.recs.get c with
        state := .waiting false, denials := (s.phantom.recs.get c).denials + 1 }
      ∧ t.report.events.get c = s.report.events.get c ||| 64#9 := by
  have hview := h.passed hc
  rw [denied, if_pos (by exact hfirst)] at hview
  exact ⟨congrArg ChanView.phantom hview, congrArg ChanView.events hview⟩

theorem Passed.stands (h : Passed a b s t) (ha : c ∉ a)
    (hb : c ∈ b → (s.phantom.recs.get c).state ≠ .waiting true) :
    t.phantom.recs.get c = s.phantom.recs.get c ∧ t.report.events.get c = s.report.events.get c := by
  have hview : chanView t c = chanView s c := by
    rw [h.view, if_neg ha]
    split
    · next hc => rw [denied, if_neg (by exact hb hc)]
    · rfl
  exact ⟨congrArg ChanView.phantom hview, congrArg ChanView.events hview⟩

/-- R142: with a channel, all that the order puts before it are admitted. -/
theorem Passed.earlier (h : Passed a b s t) {d : Chan} (hc : c ∈ a) (hd : Queued (s.phantom.recs.get d))
    (hdc : AdmittedBefore s d c) : d ∈ a := by
  have hordered := passOrder_ordered s
  rw [h.order] at hordered
  refine (h.queued.mp hd).resolve_right fun hdb => ?_
  exact admittedBefore_asymm hdc ((List.pairwise_append.mp hordered).2.2 c hc d hdb)

/-- The records that the pass changes are those of the channels admitted and denied. -/
theorem Passed.differs_iff (h : Passed a b s t) : t.phantom.recs.get c ≠ s.phantom.recs.get c
    ↔ c ∈ a ∨ c ∈ b ∧ (s.phantom.recs.get c).state = .waiting true := by
  refine ⟨fun hne => ?_, ?_⟩
  · by_contra hno
    rw [not_or] at hno
    obtain ⟨ha, hb⟩ := hno
    exact hne (h.stands ha fun hc hfirst => hb ⟨hc, hfirst⟩).1
  · rintro (hc | ⟨hc, hfirst⟩) heq
    · have hoff := not_powered_of_queued (h.queued.mpr (.inl hc))
      rw [← heq, (h.admitted hc).1] at hoff
      cases hoff
    · have hstate := congrArg PhantomRec.state (heq.symm.trans (h.denial hc hfirst).1)
      rw [hfirst] at hstate
      cases hstate

/-- R133, R165: the load moves where a channel is admitted, and only there. -/
theorem Passed.loadMoves_iff (h : Passed a b s t) : LoadMoves s t ↔ ∃ c, c ∈ a := by
  rw [Proofs.loadMoves_iff]
  refine exists_congr fun c => ?_
  by_cases hc : c ∈ a
  · have hoff : (chanView s c).phantom.state.powered = false := not_powered_of_queued (h.queued.mpr (.inl hc))
    rw [h.view, if_pos hc, hoff]
    simp [hc, admittedRecord, PhantomState.powered]
  · rw [h.view, if_neg hc]
    refine iff_of_false (not_not_intro ?_) hc
    split
    · exact (denied_powered _).symm
    · rfl

end Passed

theorem admissionPass_frame (s : State) : let t := admissionPass s
    t = { s with
      phantom := { s.phantom with recs := t.phantom.recs }, link := { s.link with pair := t.link.pair }
      report := { s.report with keys := t.report.keys, events := t.report.events } } := by
  have hframe := phantomFrame_of_outside (t := admissionPass s) (s := s) (by simp [outsidePhantom])
  have hphantom : (admissionPass s).phantom = { s.phantom with recs := (admissionPass s).phantom.recs } := by
    refine phantom_ext rfl ?_ ?_ ?_ ?_ ?_ <;> simp
  dsimp only
  generalize admissionPass s = t at hframe hphantom ⊢
  rw [PhantomFrame, hphantom] at hframe
  exact hframe

/-- Settles O50: what the pass makes of a channel, by whether it is admitted, passed over, or not in the pass. -/
theorem admissionPassFollowsItsOrder : Obligations.AdmissionPassFollowsItsOrder := by
  refine ⟨fun s => ⟨admissionPass_frame s, ?_⟩, fun s c => ?_⟩
  · obtain ⟨a, b, h⟩ := admissionPass_passed s
    generalize admissionPass s = t at h ⊢
    refine keysAsked_congr h.keys fun k => ?_
    simp only [h.differs_iff, h.loadMoves_iff]
    grind
  · obtain ⟨a, b, h⟩ := admissionPass_passed s
    generalize admissionPass s = t at h ⊢
    refine ⟨fun hno => h.stands (fun hc => hno (h.queued.mpr (.inl hc))) fun hc => absurd (h.queued.mpr (.inr hc)) hno,
      fun hqueued => ?_⟩
    rcases h.queued.mp hqueued with hc | hc
    · obtain ⟨hrec, hevents⟩ := h.admitted hc
      refine .inl ⟨hrec, h.load (List.ne_nil_of_mem hc), hevents, fun d hd hdc => ?_⟩
      rw [(h.admitted (h.earlier hc hd hdc)).1]
      rfl
    · exact .inr ⟨h.full (List.ne_nil_of_mem hc), h.denial hc, fun hno => h.stands (h.disjoint hc) fun _ => hno⟩

end Sys2Proof.Proofs
end

section
/-! Victims (R138, R144): the victim is the last channel of the lowest priority, a shed takes one victim, and a bank
change takes victims in their order until the load fits. -/

namespace Sys2Proof.Proofs

open Sys2Proof.Machine Sys2Proof.Laws

variable {s t : State} {c : Chan}

/-! ## The victim -/

theorem shedsBefore_asymm {c d : Chan} (h : ShedsBefore s c d) : ¬ ShedsBefore s d c := by
  rcases h with hplace | ⟨hplace, hlt⟩
  · rintro (hlater | ⟨heq, -⟩) <;> omega
  · rintro (hlater | ⟨-, hgt⟩)
    · omega
    · exact absurd hlt (lt_asymm hgt)

/-- The channel that is shed first (R144). -/
def IsVictim (s : State) (c : Chan) : Prop :=
  c ∈ s.poweredChannels ∧ ∀ d ∈ s.poweredChannels, d = c ∨ ShedsBefore s c d

theorem isVictim_unique {c d : Chan} (hc : IsVictim s c) (hd : IsVictim s d) : c = d :=
  (hd.2 c hc.1).resolve_right fun hdc =>
    (hc.2 d hd.1).elim (fun e => by subst e; exact shedsBefore_asymm hdc hdc) (shedsBefore_asymm hdc)

theorem mem_powered_of_priority {p : Priority} {d : Chan} :
    d ∈ s.poweredChannels.filter (fun c => (s.config.chans.get c).priority == p)
      ↔ d ∈ s.poweredChannels ∧ (s.config.chans.get d).priority = p := by
  rw [List.mem_filter, beq_iff_eq]

/-- The victim of one priority has its highest number. -/
theorem victimOf_spec {p : Priority} (h : victimOf s p = some c) :
    c ∈ s.poweredChannels ∧ (s.config.chans.get c).priority = p
      ∧ ∀ d ∈ s.poweredChannels, (s.config.chans.get d).priority = p → d = c ∨ d < c := by
  obtain ⟨before, hlist⟩ := List.getLast?_eq_some_iff.mp h
  have hascend : (s.poweredChannels.filter fun c => (s.config.chans.get c).priority == p).Pairwise (· < ·) :=
    (channels_ascend.filter _).filter _
  have hmem {d : Chan} := mem_powered_of_priority (s := s) (p := p) (d := d)
  rw [hlist] at hascend hmem
  obtain ⟨hpowered, hprio⟩ := hmem.mp (List.mem_append_right before (List.mem_singleton.mpr rfl))
  refine ⟨hpowered, hprio, fun d hd hp => ?_⟩
  refine (List.mem_append.mp (hmem.mpr ⟨hd, hp⟩)).symm.imp List.mem_singleton.mp fun hdb => ?_
  exact (List.pairwise_append.mp hascend).2.2 d hdb c (List.mem_singleton.mpr rfl)

theorem victimOf_none {p : Priority} (h : victimOf s p = none) :
    ∀ d ∈ s.poweredChannels, (s.config.chans.get d).priority ≠ p := fun _ hd hp =>
  List.not_mem_nil (List.getLast?_eq_none_iff.mp h ▸ mem_powered_of_priority.mpr ⟨hd, hp⟩)

/-- The victim of a priority below which no channel is powered is the victim of all. -/
theorem isVictim_of_victimOf {p : Priority} (h : victimOf s p = some c)
    (hbelow : ∀ d ∈ s.poweredChannels, (s.config.chans.get d).priority ≠ p → s.place d < Priority.place p) :
    IsVictim s c := by
  obtain ⟨hpowered, hprio, hlast⟩ := victimOf_spec h
  refine ⟨hpowered, fun d hd => ?_⟩
  by_cases hp : (s.config.chans.get d).priority = p
  · exact (hlast d hd hp).imp_right fun hlt => .inr ⟨by rw [State.place, State.place, hprio, hp], hlt⟩
  · refine .inr (.inl ?_)
    have hplace := hbelow d hd hp
    rwa [← hprio] at hplace

theorem victim_isVictim (h : victim s = some c) : IsVictim s c := by
  unfold victim at h
  split at h
  · next low hlow =>
    cases h
    refine isVictim_of_victimOf hlow fun d _ hp => ?_
    rw [State.place]
    cases hd : (s.config.chans.get d).priority
    case low => exact absurd hd hp
    all_goals decide
  · next hlow =>
    split at h
    · next high hhigh =>
      cases h
      refine isVictim_of_victimOf hhigh fun d hmem hp => ?_
      rw [State.place]
      cases hd : (s.config.chans.get d).priority
      case low => exact absurd hd (victimOf_none hlow d hmem)
      case high => exact absurd hd hp
      case critical => decide
    · next hhigh =>
      refine isVictim_of_victimOf h fun d hmem hp => ?_
      cases hd : (s.config.chans.get d).priority
      case low => exact absurd hd (victimOf_none hlow d hmem)
      case high => exact absurd hd (victimOf_none hhigh d hmem)
      case critical => exact absurd hd hp

theorem victim_none (h : victim s = none) : s.poweredChannels = [] := by
  unfold victim at h
  split at h
  · cases h
  · next hlow =>
    split at h
    · cases h
    · next hhigh =>
      refine List.eq_nil_iff_forall_not_mem.mpr fun d hd => ?_
      cases hp : (s.config.chans.get d).priority
      case low => exact victimOf_none hlow d hd hp
      case high => exact victimOf_none hhigh d hd hp
      case critical => exact victimOf_none h d hd hp

theorem victim_of_none (h : s.poweredChannels = []) : victim s = none := by
  cases hv : victim s with
  | none => rfl
  | some c => exact absurd (victim_isVictim hv).1 (by rw [h]; exact List.not_mem_nil)

theorem victim_eq_some (h : IsVictim s c) : victim s = some c := by
  cases hv : victim s with
  | none => exact absurd h.1 (by rw [victim_none hv]; exact List.not_mem_nil)
  | some d => rw [isVictim_unique (victim_isVictim hv) h]

/-! ## Sheds until the load fits -/

theorem sameSupply_shed (k : OffCause) (c : Chan) (s : State) : SameSupply s (shed k c s) := by simp [SameSupply]

theorem shed_powered (k : OffCause) (c d : Chan) (s : State) :
    d ∈ (shed k c s).poweredChannels ↔ d ∈ s.poweredChannels ∧ d ≠ c := by
  rw [powered_of_acts (shed_acts k)]
  split
  · next h => simp [h, shedRecord, PhantomState.powered]
  · next h => simp [h]

theorem shedsBefore_congr (hconfig : t.config = s.config) {c d : Chan} : ShedsBefore t c d ↔ ShedsBefore s c d := by
  simp only [ShedsBefore, State.place, hconfig]

/-- What the sheds of the channels of `l`, one after the other, make of a state that has to lose load. -/
structure Sheds (l : List Chan) (s t : State) : Prop where
  rounds : t = forEach l (shed .shedBudget) s
  nodup : l.Nodup
  powered : ∀ c ∈ l, c ∈ s.poweredChannels
  order : ∀ c ∈ l, ∀ d ∈ s.poweredChannels, ShedsBefore s d c → d ∈ l
  minimal : l ≠ [] → t.budget < t.load + t.config.allowance

theorem sheds_nil (s : State) : Sheds [] s s := ⟨rfl, List.nodup_nil, nofun, nofun, absurd rfl⟩

/-- One victim more. -/
theorem sheds_cons {l : List Chan} (hover : s.budget < s.load) (hc : IsVictim s c)
    (h : Sheds l (shed .shedBudget c s) t) : Sheds (c :: l) s t := by
  have hsame := sameSupply_shed .shedBudget c s
  have hpowered := fun d => shed_powered .shedBudget c d s
  have hload := load_of_removed hsame.1 hc.1 hpowered
  obtain ⟨hrounds, hnodup, hmem, horder, hminimal⟩ := h
  refine ⟨hrounds, List.nodup_cons.mpr ⟨fun hcl => ((hpowered c).mp (hmem c hcl)).2 rfl, hnodup⟩, fun d hd => ?_,
    fun d hd e he hed => ?_, fun _ => ?_⟩
  · exact (List.mem_cons.mp hd).elim (fun e => e ▸ hc.1) fun hdl => ((hpowered d).mp (hmem d hdl)).1
  · rcases List.mem_cons.mp hd with rfl | hdl
    · rcases hc.2 e he with rfl | hde
      · exact List.mem_cons_self
      · exact absurd hde (shedsBefore_asymm hed)
    · by_cases hec : e = c
      · exact hec ▸ List.mem_cons_self
      · exact List.mem_cons_of_mem c
          (horder d hdl e ((hpowered e).mpr ⟨he, hec⟩) ((shedsBefore_congr hsame.1).mpr hed))
  · cases l with
    | cons d l => exact hminimal (List.cons_ne_nil d l)
    | nil =>
      rw [hrounds, forEach_nil, hsame.budget, hsame.allowance, ← hload]
      exact hover

theorem shedToFit_sheds (n : Nat) (s : State) : ∃ l, Sheds l s (shedToFit n s) := by
  induction n generalizing s with
  | zero => exact ⟨[], sheds_nil s⟩
  | succ n ih =>
    unfold shedToFit
    split
    · exact ⟨[], sheds_nil s⟩
    · next hover =>
      split
      · next c hv =>
        obtain ⟨l, h⟩ := ih (shed .shedBudget c s)
        exact ⟨c :: l, sheds_cons (by omega) (victim_isVictim hv) h⟩
      · exact ⟨[], sheds_nil s⟩

/-- R139, R144: as many sheds as there are powered channels are enough. -/
theorem shedToFit_fits {n : Nat} (h : s.poweredChannels.length ≤ n) :
    (shedToFit n s).load ≤ (shedToFit n s).budget := by
  induction n generalizing s with
  | zero =>
    rw [shedToFit, load_of_none (List.eq_nil_of_length_eq_zero (Nat.le_zero.mp h))]
    exact Nat.zero_le _
  | succ n ih =>
    unfold shedToFit
    split
    · assumption
    · split
      · next c hv =>
        have hlen := length_powered_of_removed (victim_isVictim hv).1 fun d => shed_powered .shedBudget c d s
        exact ih (by omega)
      · next hv =>
        rw [load_of_none (victim_none hv)]
        exact Nat.zero_le _

theorem length_powered_le (s : State) : s.poweredChannels.length ≤ 32 :=
  (List.length_filter_le _ _).trans_eq (List.length_finRange (n := 32))

end Sys2Proof.Proofs
end

section
/-! The phantom controller at a block start, and its trips, sheds and bank changes commanded by themselves (R138, R140,
R141, R144 to R146, R151; log entry 1): what each makes of the records, and which keys it asks for. -/

namespace Sys2Proof.Proofs

open Sys2Proof.Machine Sys2Proof.Laws

variable {s t : State} {c : Chan}

/-! ## Notes ahead -/

/-- Only the phantom controller, the reports of it, the attempt in progress and the notes ahead differ. -/
def NotedFrame (s t : State) : Prop := t = { s with
  phantom := t.phantom, link := { s.link with pair := t.link.pair }, ahead := t.ahead
  report := { s.report with keys := t.report.keys, events := t.report.events } }

theorem PhantomFrame.noted (h : PhantomFrame s t) (notes : List Ahead) : NotedFrame s { t with ahead := notes } := by
  have hnoted := congrArg (fun u : State => { u with ahead := notes }) h
  exact hnoted

/-! ## Trips -/

/-- The channel has been tripped, and nothing but the records and the reports of it has changed (R146). -/
def Trips (c : Chan) (s t : State) : Prop :=
  NotedFrame s t ∧ t.phantom = { s.phantom with recs := s.phantom.recs.set c (trippedRecord (s.phantom.recs.get c)) }
    ∧ t.report.events = s.report.events.set c (s.report.events.get c ||| 16#9 ||| 128#9)
    ∧ Key.channel c ∈ t.report.keys ∧ Key.box ∈ t.report.keys

theorem trip_phantom (c : Chan) (s : State) : (trip c s).phantom
    = { s.phantom with recs := s.phantom.recs.set c (trippedRecord (s.phantom.recs.get c)) } := by
  refine phantom_ext (trip_acts.recs c s) ?_ ?_ ?_ ?_ ?_ <;> simp

theorem phantomFrame_trip (c : Chan) (s : State) : PhantomFrame s (trip c s) :=
  phantomFrame_of_outside (by simp [outsidePhantom])

/-- R146: the trip of a powered channel, with the notes that its command leaves. -/
theorem trip_trips (h : (s.phantom.recs.get c).state.powered = true) (notes : List Ahead) :
    Trips c s { trip c s with ahead := notes } := by
  have hkeys := (trip_asks c s).2
  exact ⟨(phantomFrame_trip c s).noted notes, trip_phantom c s, trip_acts.events c s,
    (hkeys _).mpr (.inr (.inl rfl)), (hkeys _).mpr (.inr (.inr ⟨rfl, by simp [h]⟩))⟩

/-- R146: a channel is watched while it is ON, and while it is RISING with its countdown at the limit or below. -/
theorem watched_iff {limit : Nat} {st : PhantomState} :
    watched limit st = true ↔ st = .on ∨ ∃ n, n ≤ limit ∧ st = .rising n := by
  cases st <;> simp [watched]

theorem powered_of_watched {limit : Nat} {st : PhantomState} (h : watched limit st = true) : st.powered = true := by
  cases hp : st.powered with
  | true => rfl
  | false => exact absurd (watched_of_not_powered (limit := limit) hp) (by simp [h])

theorem shortTrip_due (hrun : s.running = true) (hpersist : 49 ≤ (s.phantom.recs.get c).persist)
    (h : watched 151 (s.phantom.recs.get c).state = true) : shortTrip c s = settlesAhead s (trip c s) := by
  rw [shortTrip, whileRunning_of_running hrun]
  exact if_pos (by simpa [h] using by omega)

/-- R146: the channel is watched, and its current is above the short threshold. -/
def Shorted (s : State) (c : Chan) : Prop :=
  watched 150 (s.phantom.recs.get c).state = true ∧ shortLevel s.config < (s.phantom.recs.get c).current

/-- The state with a channel's short persistence replaced. -/
def withPersist (c : Chan) (n : Nat) (s : State) : State := { s with phantom := { s.phantom with
  recs := s.phantom.recs.set c { s.phantom.recs.get c with persist := n } } }

theorem judgeShort_clear (h : ¬ Shorted s c) : judgeShort c s = withPersist c 0 s := by
  rw [judgeShort, if_neg (by simpa [Shorted] using h), putPhantom_eq, withPersist]

theorem judgeShort_counts (h : Shorted s c) (hpersist : (s.phantom.recs.get c).persist < 49) :
    judgeShort c s = withPersist c ((s.phantom.recs.get c).persist + 1) s := by
  rw [judgeShort, if_pos (by simpa [Shorted] using h), if_pos (by omega), putPhantom_eq, withPersist]

theorem judgeShort_trips (h : Shorted s c) (hpersist : 49 ≤ (s.phantom.recs.get c).persist) :
    judgeShort c s = trip c s := by
  rw [judgeShort, if_pos (by simpa [Shorted] using h), if_neg (by omega)]

/-! ## Sheds for a measured overload -/

/-- The overload persistence has returned to 0, and the victim has been shed, if there is one (R145). -/
def ShedsOne (s t : State) : Prop := NotedFrame s t
  ∧ (s.poweredChannels = [] → t.phantom = { s.phantom with overload := 0 } ∧ t.report = s.report)
  ∧ ∀ c ∈ s.poweredChannels, (∀ d ∈ s.poweredChannels, d = c ∨ ShedsBefore s c d) →
    t.phantom = { s.phantom with
      overload := 0, recs := s.phantom.recs.set c (shedRecord .shedLoad (s.phantom.recs.get c)) }
    ∧ t.report.events = s.report.events.set c (s.report.events.get c ||| 16#9 ||| 32#9)
    ∧ Key.channel c ∈ t.report.keys ∧ Key.box ∈ t.report.keys

theorem shed_phantom (k : OffCause) (c : Chan) (s : State) : (shed k c s).phantom
    = { s.phantom with recs := s.phantom.recs.set c (shedRecord k (s.phantom.recs.get c)) } := by
  refine phantom_ext ((shed_acts k).recs c s) ?_ ?_ ?_ ?_ ?_ <;> simp

/-- The state in which the victim of an overload is sought. -/
def overloadCleared (s : State) : State := { s with phantom := { s.phantom with overload := 0 } }

theorem shedForLoad_none (h : s.poweredChannels = []) : shedForLoad s = overloadCleared s := by
  have hnone := victim_of_none (s := overloadCleared s) h
  unfold shedForLoad
  dsimp only
  split
  · next hv => exact absurd (hv.symm.trans hnone) nofun
  · rfl

theorem shedForLoad_victim (h : IsVictim s c) : shedForLoad s = shed .shedLoad c (overloadCleared s) := by
  have hvictim := victim_eq_some (s := overloadCleared s) h
  unfold shedForLoad
  dsimp only
  split
  · next d hv =>
    rw [Option.some.inj (hv.symm.trans hvictim)]
    rfl
  · next hv => exact absurd (hv.symm.trans hvictim) nofun

theorem shedForLoad_sheds (s : State) (notes : List Ahead) : ShedsOne s { shedForLoad s with ahead := notes } := by
  have hframe : PhantomFrame s (shedForLoad s) := phantomFrame_of_outside (by simp [outsidePhantom])
  refine ⟨hframe.noted notes, fun hnone => ?_, fun c hc hfirst => ?_⟩
  · rw [shedForLoad_none hnone]
    exact ⟨rfl, rfl⟩
  · have hkeys := (shed_asks .shedLoad c (overloadCleared s)).2
    have hon : ((overloadCleared s).phantom.recs.get c).state.powered = true := mem_poweredChannels.mp hc
    rw [shedForLoad_victim ⟨hc, hfirst⟩]
    exact ⟨shed_phantom .shedLoad c _, (shed_acts .shedLoad).events c _, (hkeys _).mpr (.inr (.inl rfl)),
      (hkeys _).mpr (.inr (.inr ⟨rfl, by simp [hon]⟩))⟩

theorem shedLoad_due (hrun : s.running = true) (h : 19 ≤ s.phantom.overload) :
    shedLoad s = settlesAhead s (shedForLoad { s with ahead := .overload :: s.ahead }) := by
  rw [shedLoad, whileRunning_of_running hrun]
  exact if_neg (by omega)

/-! ## Bank changes -/

/-- The line index is the bank in force, and victims have been shed in their order until the load fits, no more than
that takes (R138, R144, R151). -/
def BankChanges (s t : State) : Prop := NotedFrame s t
  ∧ t.phantom = { s.phantom with lineQuiet := 20, bank := s.lineIndex, recs := t.phantom.recs }
  ∧ Key.box ∈ t.report.keys ∧ t.load ≤ t.budget
  ∧ KeysAsked (fun k => k = .box ∨ ∃ c, k = .channel c ∧ t.phantom.recs.get c ≠ s.phantom.recs.get c) s t
  ∧ ∀ c, (t.phantom.recs.get c = s.phantom.recs.get c ∧ t.report.events.get c = s.report.events.get c)
    ∨ (c ∈ s.poweredChannels ∧ t.phantom.recs.get c = shedRecord .shedBudget (s.phantom.recs.get c)
      ∧ t.report.events.get c = s.report.events.get c ||| 16#9 ||| 32#9
      ∧ t.budget < t.load + t.config.allowance
      ∧ ∀ d ∈ s.poweredChannels, ShedsBefore s d c →
        t.phantom.recs.get d = shedRecord .shedBudget (s.phantom.recs.get d))

/-- The records of a channel after sheds: of a victim those of its shed, of any other those that stood. -/
theorem Sheds.view {l : List Chan} (h : Sheds l s t) (c : Chan) : chanView t c = if c ∈ l then
    { chanView s c with
      phantom := shedRecord .shedBudget (s.phantom.recs.get c), events := s.report.events.get c ||| 16#9 ||| 32#9 }
    else chanView s c := by
  rw [h.rounds, chanView_forEach (shed_acts .shedBudget) h.nodup]
  rfl

theorem Sheds.shed {l : List Chan} (h : Sheds l s t) (hc : c ∈ l) :
    t.phantom.recs.get c = shedRecord .shedBudget (s.phantom.recs.get c)
      ∧ t.report.events.get c = s.report.events.get c ||| 16#9 ||| 32#9 := by
  have hview := h.view c
  rw [if_pos hc] at hview
  exact ⟨congrArg ChanView.phantom hview, congrArg ChanView.events hview⟩

theorem Sheds.stands {l : List Chan} (h : Sheds l s t) (hc : c ∉ l) :
    t.phantom.recs.get c = s.phantom.recs.get c ∧ t.report.events.get c = s.report.events.get c := by
  have hview := h.view c
  rw [if_neg hc] at hview
  exact ⟨congrArg ChanView.phantom hview, congrArg ChanView.events hview⟩

theorem Sheds.differs_iff {l : List Chan} (h : Sheds l s t) :
    t.phantom.recs.get c ≠ s.phantom.recs.get c ↔ c ∈ l := by
  refine ⟨fun hne => by_contra fun hc => hne (h.stands hc).1, fun hc heq => ?_⟩
  have hon := mem_poweredChannels.mp (h.powered c hc)
  rw [← heq, (h.shed hc).1] at hon
  cases hon

/-- R144, R165: CHANNEL is asked for each victim, and BOX. -/
theorem Sheds.asks {l : List Chan} (h : Sheds l s t) : KeysAsked (fun k => ∃ c ∈ l, k = .channel c
    ∨ k = .box ∧ (s.phantom.recs.get c).state.powered ≠ false) s t := by
  rw [h.rounds]
  exact forEach_asks (shed_acts .shedBudget)
    (q := fun c v k => k = .channel c ∨ k = .box ∧ v.phantom.state.powered ≠ false) (shed_asks .shedBudget) h.nodup s

/-- The state in which the sheds of a bank change begin. -/
def onNewBank (s : State) : State :=
  ask .box { s with phantom := { s.phantom with lineQuiet := 20, bank := s.lineIndex } }

theorem changeBank_eq (s : State) :
    changeBank { s with phantom := { s.phantom with lineQuiet := 20 } } = shedToFit 32 (onNewBank s) := rfl

theorem changeBank_changes (s : State) (notes : List Ahead) :
    BankChanges s { changeBank { s with phantom := { s.phantom with lineQuiet := 20 } } with ahead := notes } := by
  obtain ⟨l, hsheds⟩ := shedToFit_sheds 32 (onNewBank s)
  have hfits := shedToFit_fits (length_powered_le (onNewBank s))
  have hframe : PhantomFrame s (shedToFit 32 (onNewBank s)) :=
    phantomFrame_of_outside (by simp [outsidePhantom, onNewBank])
  have hphantom : (shedToFit 32 (onNewBank s)).phantom
      = { s.phantom with lineQuiet := 20, bank := s.lineIndex, recs := (shedToFit 32 (onNewBank s)).phantom.recs } := by
    refine phantom_ext rfl ?_ ?_ ?_ ?_ ?_ <;> simp [onNewBank]
  have hkeys : KeysAsked (fun k => k = .box ∨ ∃ c ∈ l, k = .channel c) s (shedToFit 32 (onNewBank s)) :=
    keysAsked_trans (keysAsked_ask .box _) hsheds.asks fun k => by
      by_cases hk : k = .box <;> simp [hk]
  rw [changeBank_eq]
  generalize shedToFit 32 (onNewBank s) = t at *
  refine ⟨hframe.noted notes, hphantom, (hkeys.2 .box).mpr (.inr (.inl rfl)), hfits, ?_, fun c => ?_⟩
  · refine keysAsked_congr (p := fun k => k = .box ∨ ∃ c ∈ l, k = .channel c) hkeys fun k => or_congr_right ?_
    exact exists_congr fun c => and_comm.trans (and_congr_left fun _ => hsheds.differs_iff)
  · by_cases hc : c ∈ l
    · obtain ⟨hrec, hevents⟩ := hsheds.shed hc
      exact .inr ⟨hsheds.powered c hc, hrec, hevents, hsheds.minimal (List.ne_nil_of_mem hc),
        fun d hd hdc => (hsheds.shed (hsheds.order c hc d hd hdc)).1⟩
    · exact .inl (hsheds.stands hc)

theorem bankChange_due (hrun : s.running = true) (hquiet : s.phantom.lineQuiet = 19)
    (hindex : s.lineIndex ≠ s.phantom.bank) : bankChange s
      = settlesAhead s (changeBank { s with phantom := { s.phantom with lineQuiet := 20 } }) := by
  rw [bankChange, whileRunning_of_running hrun]
  exact if_pos ⟨hquiet, hindex⟩

theorem advanceLines_changes (hquiet : s.phantom.lineQuiet = 19) (hindex : s.lineIndex ≠ s.phantom.bank) :
    advanceLines s = changeBank { s with phantom := { s.phantom with lineQuiet := 20 } } := by
  unfold advanceLines
  rw [hquiet]
  exact if_pos ⟨rfl, hindex⟩

theorem advanceLines_counts (h : s.phantom.lineQuiet ≠ 19 ∨ s.lineIndex = s.phantom.bank) : advanceLines s
    = { s with phantom := { s.phantom with lineQuiet := min 20 (s.phantom.lineQuiet + 1) } } :=
  if_neg fun hdue => h.elim (fun hn => hn hdue.1) hdue.2

/-! ## Overload -/

theorem judgeOverload_judged (h : Ahead.overload ∈ s.ahead) : judgeOverload s = s := if_pos h

theorem judgeOverload_clear (h : Ahead.overload ∉ s.ahead) (hload : ¬ 8 * s.budget < s.measuredTotal) :
    judgeOverload s = { s with phantom := { s.phantom with overload := 0 } } := by
  rw [judgeOverload, if_neg h, if_neg hload]

theorem judgeOverload_counts (h : Ahead.overload ∉ s.ahead) (hload : 8 * s.budget < s.measuredTotal)
    (hover : s.phantom.overload < 19) :
    judgeOverload s = { s with phantom := { s.phantom with overload := s.phantom.overload + 1 } } := by
  rw [judgeOverload, if_neg h, if_pos hload, if_pos (by omega)]

theorem judgeOverload_sheds (h : Ahead.overload ∉ s.ahead) (hload : 8 * s.budget < s.measuredTotal)
    (hover : 19 ≤ s.phantom.overload) : judgeOverload s = shedForLoad s := by
  rw [judgeOverload, if_neg h, if_pos hload, if_neg (by omega)]

/-- Settles O56: each trip, shed and bank change, commanded by itself and at its block start. -/
theorem tripsShedsAndBankChanges : Obligations.TripsShedsAndBankChanges := by
  unfold Obligations.TripsShedsAndBankChanges
  intro frame trips shedsOne changes
  refine ⟨fun c s hrun hpersist hwatched => ?_, fun s hrun hover => ?_, fun s hrun hquiet hindex => ?_,
    fun _ _ => rfl, fun c s => ?_, fun s => ?_,
    fun s => ⟨advanceLines_counts, fun hquiet hindex => ?_⟩⟩
  · have hw := watched_iff.mpr hwatched
    exact ⟨_, congrArg Host.Outcome.next (shortTrip_due hrun hpersist hw), trip_trips (powered_of_watched hw) _⟩
  · exact ⟨_, congrArg Host.Outcome.next (shedLoad_due hrun hover),
      shedForLoad_sheds { s with ahead := .overload :: s.ahead } _⟩
  · exact ⟨_, congrArg Host.Outcome.next (bankChange_due hrun hquiet hindex), changeBank_changes s _⟩
  · have hshorted : Shorted s c ↔ ((s.phantom.recs.get c).state = .on
        ∨ ∃ n, n ≤ 150 ∧ (s.phantom.recs.get c).state = .rising n)
        ∧ 8 * s.config.shortThreshold < (s.phantom.recs.get c).current := and_congr_left fun _ => watched_iff
    refine ⟨fun hno => judgeShort_clear fun h => ?_,
      fun hw ha => judgeShort_counts (hshorted.mpr ⟨hw, ha⟩), fun hw ha hpersist => ?_⟩
    · obtain ⟨hw, ha⟩ := hshorted.mp h
      exact hno.elim (· hw) (· ha)
    · have htrip := trip_trips (powered_of_watched (watched_iff.mpr hw)) (trip c s).ahead
      rw [judgeShort_trips (hshorted.mpr ⟨hw, ha⟩) hpersist]
      exact ⟨htrip, by simp⟩
  · refine ⟨judgeOverload_judged, fun hno => ⟨judgeOverload_clear hno, judgeOverload_counts hno, fun hb hover => ?_⟩⟩
    rw [judgeOverload_sheds hno hb hover]
    exact ⟨shedForLoad_sheds s (shedForLoad s).ahead, by simp⟩
  · have hchanged := changeBank_changes s
      (changeBank { s with phantom := { s.phantom with lineQuiet := 20 } }).ahead
    rw [advanceLines_changes hquiet hindex]
    exact ⟨hchanged, by simp⟩

end Sys2Proof.Proofs
end

section
/-! What the phantom controller keeps (R133 to R136, R139, R147, R148): each of its moves fits the channel's wants and
off cause, none takes a channel out of FAULT, and but for admissions, which are held to the budget, each only takes
power away. -/

namespace Sys2Proof.Proofs

open Sys2Proof.Machine Sys2Proof.Laws

variable {s t u : State} {c : Chan} {wants : Bool} {r r' : PhantomRec}

/-! ## Records -/

/-- The phantom record is in order, by the channel's wants (R133, R134, R136, R148). -/
def RecordFits (wants : Bool) (r : PhantomRec) : Prop := StateAgrees wants r ∧ r.current ≤ 255 ∧ r.persist < 50

/-- A change of a record that leaves it in order, and in FAULT where it was (R147). -/
structure Tends (wants : Bool) (r r' : PhantomRec) : Prop where
  fits : RecordFits wants r → RecordFits wants r'
  fault : r.state = .fault → r'.state = .fault

theorem tends_refl (wants : Bool) (r : PhantomRec) : Tends wants r r := ⟨id, id⟩

theorem Tends.trans {r'' : PhantomRec} (h₁ : Tends wants r r') (h₂ : Tends wants r' r'') : Tends wants r r'' :=
  ⟨fun h => h₂.fits (h₁.fits h), fun h => h₂.fault (h₁.fault h)⟩

/-- What a record says of the wants stands with its state and its off cause. -/
theorem stateAgrees_congr (hstate : r'.state = r.state) (hcause : r'.cause = r.cause) :
    StateAgrees wants r' ↔ StateAgrees wants r := by
  unfold StateAgrees
  rw [hstate, hcause]

/-- A record whose current or persistence alone is new. -/
theorem tends_of_state (hstate : r'.state = r.state) (hcause : r'.cause = r.cause)
    (hcurrent : r.current ≤ 255 → r'.current ≤ 255) (hpersist : r.persist < 50 → r'.persist < 50) :
    Tends wants r r' where
  fits := fun ⟨hagrees, hcur, hper⟩ => ⟨(stateAgrees_congr hstate hcause).mpr hagrees, hcurrent hcur, hpersist hper⟩
  fault := hstate.trans

/-- A record in a new state that agrees with the wants; the state before was not FAULT. -/
theorem tends_of_agrees (hfault : r.state ≠ .fault) (hagrees : StateAgrees wants r → StateAgrees wants r')
    (hcurrent : r'.current = r.current) (hpersist : r'.persist = r.persist ∨ r'.persist = 0) : Tends wants r r' where
  fits := fun ⟨hag, hcur, hper⟩ => ⟨hagrees hag, hcurrent.trans_le hcur, by omega⟩
  fault := fun h => absurd h hfault

theorem ne_fault_of_powered (h : r.state.powered = true) : r.state ≠ .fault := fun hf => by
  rw [hf] at h
  cases h

/-- R144, R146: a powered channel that is shed or tripped falls with the cause of it. -/
theorem tends_fallen (hon : r.state.powered = true) (hstate : r'.state = .falling 250)
    (hcause : r'.cause = .shedBudget ∨ r'.cause = .shedLoad ∨ r'.cause = .short) (hcurrent : r'.current = r.current)
    (hpersist : r'.persist = 0) : Tends wants r r' := by
  refine tends_of_agrees (ne_fault_of_powered hon) (fun _ => ?_) hcurrent (.inr hpersist)
  rw [StateAgrees, hstate]
  exact ⟨.inr hcause, by decide, by decide⟩

/-! ## Settles -/

theorem counted_powered (st : PhantomState) : st.counted.powered = st.powered := by cases st <;> rfl

/-- R135: a countdown of 2 or more falls by one. -/
theorem tends_counted {n : Nat} (hleft : r.state.left = some n) (hn : ¬ n ≤ 1) :
    Tends wants r { r with state := r.state.counted } := by
  rcases left_eq_some.mp hleft with h | h
  · refine tends_of_agrees (by simp [h]) (fun hagrees => ?_) rfl (.inl rfl)
    simp only [StateAgrees, h, PhantomState.counted] at hagrees ⊢
    obtain ⟨hwanted, hcause, -, hmax⟩ := hagrees
    exact ⟨hwanted, hcause, by omega, by omega⟩
  · refine tends_of_agrees (by simp [h]) (fun hagrees => ?_) rfl (.inl rfl)
    simp only [StateAgrees, h, PhantomState.counted] at hagrees ⊢
    obtain ⟨hcause, -, hmax⟩ := hagrees
    exact ⟨hcause, by omega, by omega⟩

/-- R136: a channel that has risen is ON. -/
theorem tends_risen {n : Nat} (h : r.state = .rising n) : Tends wants r { r with state := .on } := by
  refine tends_of_agrees (by simp [h]) (fun hagrees => ?_) rfl (.inl rfl)
  simp only [StateAgrees, h] at hagrees ⊢
  exact ⟨hagrees.1, hagrees.2.1⟩

/-- R136: a channel that has fallen goes where its wants and its cause say. -/
theorem tends_afterFalling {n : Nat} (h : r.state = .falling n) :
    Tends wants r { r with state := afterFalling wants r.cause } := by
  refine tends_of_agrees (by simp [h]) (fun hagrees => ?_) rfl (.inl rfl)
  rw [StateAgrees, h] at hagrees
  obtain ⟨hcause, -⟩ := hagrees
  cases wants
  · exact rfl
  · rcases hcause with hk | hk | hk | hk <;> simp [StateAgrees, afterFalling, hk]

theorem afterFalling_not_powered (wants : Bool) (k : OffCause) : (afterFalling wants k).powered = false := by
  unfold afterFalling
  split
  · split <;> rfl
  · rfl

/-! ## States -/

/-- The counts of the controller are in their ranges (R138, R145). -/
def CountsFit (s : State) : Prop := s.phantom.lineQuiet ≤ 20 ∧ s.phantom.overload < 20

theorem phantomLaw_iff :
    PhantomLaw s ↔ (∀ c, RecordFits (s.requested c) (s.phantom.recs.get c)) ∧ CountsFit s := Iff.rfl

theorem requested_of_demand (h : t.demand = s.demand) (c : Chan) : t.requested c = s.requested c := by
  rw [State.requested, h, State.requested]

/-- Between two states the phantom controller has worked, and wants are as they were. -/
structure Controls (s t : State) : Prop where
  phase : t.phase = s.phase
  requested : ∀ c, t.requested c = s.requested c
  tends : ∀ c, Tends (s.requested c) (s.phantom.recs.get c) (t.phantom.recs.get c)
  counts : CountsFit s → CountsFit t

theorem controls_refl (s : State) : Controls s s := ⟨rfl, fun _ => rfl, fun _ => tends_refl _ _, id⟩

theorem Controls.trans (h₁ : Controls s t) (h₂ : Controls t u) : Controls s u :=
  ⟨h₂.phase.trans h₁.phase, fun c => (h₂.requested c).trans (h₁.requested c),
    fun c => (h₁.tends c).trans (h₁.requested c ▸ h₂.tends c), fun h => h₂.counts (h₁.counts h)⟩

theorem Controls.law (h : Controls s t) (hs : PhantomLaw s) : PhantomLaw t := by
  rw [phantomLaw_iff] at hs ⊢
  refine ⟨fun c => ?_, h.counts hs.2⟩
  rw [h.requested]
  exact (h.tends c).fits (hs.1 c)

/-- Between two states power has been taken away, if anything, under the same budget. -/
structure Unloads (s t : State) : Prop where
  supply : SameSupply s t
  powered : ∀ c ∈ t.poweredChannels, c ∈ s.poweredChannels

theorem Unloads.fits (h : Unloads s t) (hs : s.load ≤ s.budget) : t.load ≤ t.budget := by
  rw [h.supply.budget]
  exact (load_le_of_powered h.supply.1 h.powered).trans hs

/-- The phantom controller has worked, and has powered no channel. -/
structure Eases (s t : State) : Prop where
  controls : Controls s t
  unloads : Unloads s t

theorem eases_refl (s : State) : Eases s s := ⟨controls_refl s, ⟨rfl, rfl⟩, fun _ => id⟩

theorem Eases.trans (h₁ : Eases s t) (h₂ : Eases t u) : Eases s u where
  controls := h₁.controls.trans h₂.controls
  unloads := ⟨⟨h₂.unloads.supply.1.trans h₁.unloads.supply.1, h₂.unloads.supply.2.trans h₁.unloads.supply.2⟩,
    fun c hc => h₁.unloads.powered c (h₂.unloads.powered c hc)⟩

theorem eases_forEach {l : List Chan} {g : Chan → State → State} (hg : ∀ c t, Eases t (g c t)) (s : State) :
    Eases s (forEach l g s) :=
  forEach_induct (P := Eases s) (fun c _ t ht => ht.trans (hg c t)) (eases_refl s)

/-- The phantom controller has worked, and a load within the budget has stayed so (R139). -/
structure Works (s t : State) : Prop where
  controls : Controls s t
  fits : s.load ≤ s.budget → t.load ≤ t.budget

theorem works_refl (s : State) : Works s s := ⟨controls_refl s, id⟩

theorem Works.trans (h₁ : Works s t) (h₂ : Works t u) : Works s u :=
  ⟨h₁.controls.trans h₂.controls, fun h => h₂.fits (h₁.fits h)⟩

theorem Eases.works (h : Eases s t) : Works s t := ⟨h.controls, h.unloads.fits⟩

/-- What Eases speaks of, the records apart. -/
def easing (s : State) := (s.phase, s.demand, s.config, s.phantom.bank, s.phantom.lineQuiet, s.phantom.overload)

/-- The records change one by one, and the counts stand. -/
theorem eases_of_records (hsame : easing t = easing s)
    (htends : ∀ c, Tends (s.requested c) (s.phantom.recs.get c) (t.phantom.recs.get c))
    (hpowered : ∀ c, (t.phantom.recs.get c).state.powered = true → (s.phantom.recs.get c).state.powered = true) :
    Eases s t := by
  simp only [easing, Prod.mk.injEq] at hsame
  obtain ⟨hphase, hdemand, hconfig, hbank, hquiet, hover⟩ := hsame
  refine ⟨⟨hphase, requested_of_demand hdemand, htends, fun h => ?_⟩, ⟨hconfig, hbank⟩, fun c hc => ?_⟩
  · rw [CountsFit, hquiet, hover]
    exact h
  · exact mem_poweredChannels.mpr (hpowered c (mem_poweredChannels.mp hc))

/-- One record changes. -/
theorem eases_of_record (hsame : easing t = easing s) (hrecs : t.phantom.recs = s.phantom.recs.set c r')
    (htends : Tends (s.requested c) (s.phantom.recs.get c) r')
    (hpowered : r'.state.powered = true → (s.phantom.recs.get c).state.powered = true) : Eases s t := by
  refine eases_of_records hsame (fun d => ?_) fun d => ?_
  · rw [hrecs, get_set]
    split
    · next h => rwa [h]
    · exact tends_refl _ _
  · rw [hrecs, get_set]
    split
    · next h => rwa [h]
    · exact id

/-- The counts change within their ranges, and the records stand. -/
theorem eases_of_counts (hphase : t.phase = s.phase) (hdemand : t.demand = s.demand) (hsupply : SameSupply s t)
    (hrecs : t.phantom.recs = s.phantom.recs) (hcounts : CountsFit s → CountsFit t) : Eases s t :=
  ⟨⟨hphase, requested_of_demand hdemand, fun c => by rw [hrecs]; exact tends_refl _ _, hcounts⟩, hsupply,
    fun c hc => mem_poweredChannels.mpr (by rw [← hrecs]; exact mem_poweredChannels.mp hc)⟩

theorem Eases.noted (h : Eases s t) (notes : List Ahead) : Eases s { t with ahead := notes } :=
  h.trans (eases_of_counts rfl rfl ⟨rfl, rfl⟩ rfl id)

theorem eases_settlesAhead (before s : State) : Eases s (settlesAhead before s) := (eases_refl s).noted _

/-! ## The work of a block start -/

/-- R140. -/
theorem eases_readMonitors (m : Tab Nat 32) (s : State) : Eases s (readMonitors m s) := by
  have hrec (c : Chan) : (readMonitors m s).phantom.recs.get c
      = { s.phantom.recs.get c with current := min 255 (m.get c) } := get_gen _ _
  refine eases_of_records rfl (fun c => ?_) fun c => by rw [hrec]; exact id
  rw [hrec]
  exact tends_of_state rfl rfl (fun _ => Nat.min_le_left _ _) id

theorem eases_endSettle (c : Chan) (s : State) : Eases s (endSettle c s) := by
  have hsame : easing (endSettle c s) = easing s := by simp [easing]
  revert hsame
  unfold endSettle
  dsimp only
  split
  · next n h =>
    exact fun hsame => eases_of_record hsame (movePhantom_recs c _ _) (tends_risen h) fun _ => by rw [h]; rfl
  · next n h =>
    exact fun hsame => eases_of_record hsame (movePhantom_recs c _ _) (tends_afterFalling h) fun hon =>
      absurd hon (by simp [afterFalling_not_powered])
  all_goals exact fun _ => eases_refl s

theorem eases_advanceSettle (c : Chan) (s : State) : Eases s (advanceSettle c s) := by
  unfold advanceSettle
  dsimp only
  split
  · next n hleft =>
    split
    · exact eases_refl s
    · split
      · exact eases_endSettle c s
      · next hn =>
        refine eases_of_record (by simp [easing]) (putPhantom_recs c _) (tends_counted hleft hn) fun hon => ?_
        rwa [counted_powered] at hon
  · exact eases_refl s

theorem eases_trip (h : (s.phantom.recs.get c).state.powered = true) : Eases s (trip c s) :=
  eases_of_record (by simp [easing]) (trip_acts.recs c s) (tends_fallen h rfl (.inr (.inr rfl)) rfl rfl) nofun

theorem eases_judgeShort (c : Chan) (s : State) : Eases s (judgeShort c s) := by
  by_cases h : Shorted s c
  · by_cases hpersist : (s.phantom.recs.get c).persist < 49
    · rw [judgeShort_counts h hpersist]
      exact eases_of_record rfl rfl (tends_of_state rfl rfl id fun _ => Nat.succ_lt_succ hpersist) id
    · rw [judgeShort_trips h (by omega)]
      exact eases_trip (powered_of_watched h.1)
  · rw [judgeShort_clear h]
    exact eases_of_record rfl rfl (tends_of_state rfl rfl id fun _ => Nat.zero_lt_succ 49) id

theorem eases_shedForLoad (s : State) : Eases s (shedForLoad s) := by
  have hcleared : Eases s (overloadCleared s) :=
    eases_of_counts rfl rfl ⟨rfl, rfl⟩ rfl fun h => ⟨h.1, Nat.zero_lt_succ 19⟩
  cases hv : victim s with
  | none =>
    rw [shedForLoad_none (victim_none hv)]
    exact hcleared
  | some c =>
    have hvictim := victim_isVictim hv
    have hon : ((overloadCleared s).phantom.recs.get c).state.powered = true := mem_poweredChannels.mp hvictim.1
    rw [shedForLoad_victim hvictim]
    exact hcleared.trans (eases_of_record (by simp [easing]) ((shed_acts .shedLoad).recs c _)
      (tends_fallen hon rfl (.inr (.inl rfl)) rfl rfl) nofun)

theorem eases_judgeOverload (s : State) : Eases s (judgeOverload s) := by
  unfold judgeOverload
  (repeat' split)
  · exact eases_refl s
  · next hover => exact eases_of_counts rfl rfl ⟨rfl, rfl⟩ rfl fun h => ⟨h.1, hover⟩
  · exact eases_shedForLoad s
  · exact eases_of_counts rfl rfl ⟨rfl, rfl⟩ rfl fun h => ⟨h.1, Nat.zero_lt_succ 19⟩

/-- R138, R139: a bank change sheds until the load is within the budget of the new bank. -/
theorem works_changeBank (s : State) :
    Works s (changeBank { s with phantom := { s.phantom with lineQuiet := 20 } }) := by
  obtain ⟨l, hsheds⟩ := shedToFit_sheds 32 (onNewBank s)
  have hfits := shedToFit_fits (length_powered_le (onNewBank s))
  have hsame : easing (shedToFit 32 (onNewBank s)) = easing (onNewBank s) := by simp [easing]
  rw [changeBank_eq]
  generalize shedToFit 32 (onNewBank s) = t at *
  simp only [easing, Prod.mk.injEq] at hsame
  obtain ⟨hphase, hdemand, -, -, hquiet, hover⟩ := hsame
  refine ⟨⟨hphase, requested_of_demand hdemand, fun c => ?_, fun h => ?_⟩, fun _ => hfits⟩
  · by_cases hc : c ∈ l
    · have hon := mem_poweredChannels.mp (hsheds.powered c hc)
      rw [(hsheds.shed hc).1]
      exact tends_fallen hon rfl (.inl rfl) rfl rfl
    · rw [(hsheds.stands hc).1]
      exact tends_refl _ _
  · rw [CountsFit, hquiet, hover]
    exact ⟨le_rfl, h.2⟩

theorem works_advanceLines (s : State) : Works s (advanceLines s) := by
  by_cases hdue : s.phantom.lineQuiet = 19 ∧ s.lineIndex ≠ s.phantom.bank
  · rw [advanceLines_changes hdue.1 hdue.2]
    exact works_changeBank s
  · have heases : Eases s { s with phantom := { s.phantom with lineQuiet := min 20 (s.phantom.lineQuiet + 1) } } :=
      eases_of_counts rfl rfl ⟨rfl, rfl⟩ rfl fun h => ⟨Nat.min_le_left _ _, h.2⟩
    rw [advanceLines_counts (by tauto)]
    exact heases.works

/-- R142: only a channel that is wanted is admitted. -/
theorem tends_admitted (h : Queued r) : Tends wants r (admittedRecord r) := by
  have hwanted : StateAgrees wants r → wants = true := by
    rcases h with hst | ⟨b, hst⟩
    · rw [StateAgrees, hst]
      exact And.left
    · rw [StateAgrees, hst]
      exact id
  refine tends_of_agrees (fun hf => ?_) (fun hagrees => ⟨hwanted hagrees, rfl, by decide, by decide⟩) rfl (.inr rfl)
  rcases h with hst | ⟨b, hst⟩ <;> rw [hst] at hf <;> cases hf

theorem works_admissionPass (s : State) : Works s (admissionPass s) := by
  have hsame : easing (admissionPass s) = easing s := by simp [easing]
  obtain ⟨a, b, hpass⟩ := admissionPass_passed s
  generalize admissionPass s = t at *
  simp only [easing, Prod.mk.injEq] at hsame
  obtain ⟨hphase, hdemand, hconfig, hbank, hquiet, hover⟩ := hsame
  refine ⟨⟨hphase, requested_of_demand hdemand, fun c => ?_, fun h => ?_⟩, fun hfits => ?_⟩
  · by_cases ha : c ∈ a
    · rw [(hpass.admitted ha).1]
      exact tends_admitted (hpass.queued.mpr (.inl ha))
    · by_cases hb : c ∈ b ∧ (s.phantom.recs.get c).state = .waiting true
      · rw [(hpass.denial hb.1 hb.2).1]
        exact tends_of_agrees (by simp [hb.2]) (by simp [StateAgrees, hb.2]) rfl (.inl rfl)
      · rw [(hpass.stands ha fun hc hfirst => hb ⟨hc, hfirst⟩).1]
        exact tends_refl _ _
  · rw [CountsFit, hquiet, hover]
    exact h
  · by_cases hnone : a = []
    · have hstill : ¬ LoadMoves s t := fun hmoves => by
        obtain ⟨c, hc⟩ := hpass.loadMoves_iff.mp hmoves
        rw [hnone] at hc
        exact List.not_mem_nil hc
      have hload : t.load = s.load := load_eq_of_powered hconfig fun d =>
        (not_not.mp fun hd => hstill ⟨d, hd⟩ : d ∈ s.poweredChannels ↔ d ∈ t.poweredChannels).symm
      rw [hload, SameSupply.budget ⟨hconfig, hbank⟩]
      exact hfits
    · exact hpass.load hnone

/-- R141: the work of a block start keeps the records in order and the load within the budget. -/
theorem works_phantomAtBlock (m : Tab Nat 32) (s : State) : Works s (phantomAtBlock m s) := by
  have hjudged : Eases s (forEach channels judgeShort (forEach channels advanceSettle (readMonitors m s))) :=
    ((eases_readMonitors m s).trans (eases_forEach eases_advanceSettle _)).trans (eases_forEach eases_judgeShort _)
  unfold phantomAtBlock
  generalize forEach channels judgeShort (forEach channels advanceSettle (readMonitors m s)) = j at hjudged ⊢
  exact ((hjudged.works.trans (works_advanceLines j)).trans (eases_judgeOverload _).works).trans
    (works_admissionPass _)

/-! ## The commands of the phantom controller -/

theorem eases_whileRunning {f : State → State} (hf : Eases s (f s)) : Eases s (whileRunning f s) := by
  unfold whileRunning
  split
  exacts [hf, eases_refl s]

theorem eases_settleEnd (c : Chan) (s : State) : Eases s (settleEnd c s) := by
  refine eases_whileRunning ?_
  (repeat' split)
  exacts [eases_endSettle c s, eases_refl s, eases_refl s]

theorem eases_shortTrip (c : Chan) (s : State) : Eases s (shortTrip c s) := by
  refine eases_whileRunning ?_
  dsimp only
  split
  · next h => exact (eases_trip (powered_of_watched (Bool.and_eq_true_iff.mp h).1)).trans (eases_settlesAhead s _)
  · exact eases_refl s

theorem eases_shedLoad (s : State) : Eases s (shedLoad s) := by
  refine eases_whileRunning ?_
  split
  · exact eases_refl s
  · exact (((eases_refl s).noted _).trans (eases_shedForLoad _)).trans (eases_settlesAhead s _)

theorem eases_powerGoodChange (mainGood auxGood : Bool) (s : State) : Eases s (powerGoodChange mainGood auxGood s) := by
  unfold powerGoodChange
  split
  · exact eases_refl s
  · refine eases_of_counts rfl rfl ⟨rfl, rfl⟩ rfl fun h => ⟨?_, h.2⟩
    dsimp only
    split
    exacts [Nat.zero_le _, h.1]

theorem bankChange_of_stopped (h : ¬ s.running = true) : bankChange s = s := by rw [bankChange, whileRunning, if_neg h]

theorem works_bankChange (s : State) : Works s (bankChange s) := by
  by_cases hrun : s.running = true
  · by_cases hdue : s.phantom.lineQuiet = 19 ∧ s.lineIndex ≠ s.phantom.bank
    · rw [bankChange_due hrun hdue.1 hdue.2]
      exact (works_changeBank s).trans (eases_settlesAhead s _).works
    · rw [bankChange_not_due (by tauto)]
      exact works_refl s
  · rw [bankChange_of_stopped hrun]
    exact works_refl s

end Sys2Proof.Proofs
end

section
/-! Wants and phantom records outside the phantom controller (R50, R51, R60, R134): each phantom record answers the
change of its channel's wants, and the commands that change no want leave it alone. -/

namespace Sys2Proof.Proofs

open Sys2Proof.Machine Sys2Proof.Laws

variable {s t u : State} {c : Chan}

/-! ## Wants -/

/-- Which channels are requested (R51). -/
def wants (s : State) : Tab Bool 32 := (shown s).map fun p => wanted p.1

theorem requested_eq (s : State) (c : Chan) : s.requested c = (wants s).get c := by
  rw [wants, get_map, shown_get, State.requested]

theorem wants_eq_of_shown (h : shown t = shown s) : wants t = wants s := by rw [wants, wants, h]

/-- All that the load law and the phantom law speak of. -/
def powerRecords (s : State) := (s.phase, s.config, s.phantom, wants s)

/-- R60: no item of a batch writes a phantom want. -/
theorem powerRecords_writeItem (f : Feed) (blk : Word16) (i : BatchItem) (s : State) :
    powerRecords (writeItem f blk i s) = powerRecords s := by
  have hwants : wants (writeItem f blk i s) = wants s := by
    ext c
    rw [← requested_eq, ← requested_eq, writeItem_eq, State.requested, ask_demand, withEntry, get_set]
    split
    · next hc =>
      subst hc
      exact wanted_set (fresh := freshEntry s i.chan) rfl (itemEntry_phantom _ i)
    · rfl
  rw [powerRecords, hwants, writeItem_eq]
  rfl

theorem powerRecords_writeBatch (b : BatchBody) (blk : Word16) (s : State) :
    powerRecords (writeBatch b blk s) = powerRecords s :=
  forEach_keeps powerRecords (powerRecords_writeItem b.feed blk) s

theorem powerRecords_batchAtBlock (s : State) : powerRecords (batchAtBlock s) = powerRecords s := by
  unfold batchAtBlock
  (repeat' split)
  exacts [rfl, rfl, rfl, powerRecords_writeBatch _ _ s]

theorem powerRecords_loseStation (st : Station) (role : Role) (s : State) :
    powerRecords (loseStation st role s) = powerRecords s := by
  rw [powerRecords, wants_eq_of_shown (shown_loseStation st role s)]
  simp [powerRecords]

theorem powerRecords_ageStation (st : Station) (s : State) : powerRecords (ageStation st s) = powerRecords s := by
  unfold ageStation
  (repeat' split)
  exacts [rfl, powerRecords_loseStation st _ s, rfl, rfl, rfl]

theorem powerRecords_stationsAndBatch (s : State) : powerRecords (stationsAndBatch s) = powerRecords s := by
  have hages (t : State) : powerRecords (ageStations t) = powerRecords t :=
    forEach_keeps powerRecords powerRecords_ageStation t
  unfold stationsAndBatch
  dsimp only
  split
  · rw [powerRecords_batchAtBlock, hages]
    rfl
  · rw [hages, powerRecords_batchAtBlock]
    rfl

/-- R50: the view is no part of the wants. -/
theorem powerRecords_presentView (s : State) : powerRecords (presentView s) = powerRecords s := by
  have hwants : wants (presentView s) = wants s := by
    ext c
    rw [← requested_eq, ← requested_eq, State.requested, presentView, get_map, State.requested]
  rw [powerRecords, hwants]
  rfl

/-- The work of a block up to the phantom controller leaves wants and phantom records (R18). -/
theorem powerRecords_beforePhantom (i : BlockInputs) (s : State) :
    powerRecords (stepAll i.readback (resolveAll (beforeResolution i s))) = powerRecords s := by
  have hsteps (t : State) : powerRecords (stepAll i.readback (resolveAll t)) = powerRecords t := by
    have hshown : shown (stepAll i.readback (resolveAll t)) = shown t :=
      (shown_of_demand (by simp)).trans (shown_resolveAll t)
    simp [powerRecords, wants, hshown]
  have hlinks (t : State) : powerRecords (ageLinks t) = powerRecords t := by simp [powerRecords, wants]
  have hdriven : powerRecords (driveMark i.markLine s) = powerRecords s := by simp [powerRecords, wants, shown]
  rw [hsteps, beforeResolution, powerRecords_presentView, hlinks, powerRecords_stationsAndBatch, hdriven]

/-! ## Records that follow the wants -/

/-- Between two states each phantom record has answered the change of its channel's wants, and the rest of the phantom
controller is as it was (R51, R134). -/
structure Follows (s t : State) : Prop where
  phase : t.phase = s.phase
  config : t.config = s.config
  phantom : t.phantom = { s.phantom with recs := t.phantom.recs }
  recs : ∀ c, t.phantom.recs.get c = answerWant (s.requested c) (t.requested c) (s.phantom.recs.get c)

theorem follows_of_same (h : powerRecords t = powerRecords s) : Follows s t := by
  simp only [powerRecords, Prod.mk.injEq] at h
  obtain ⟨hphase, hconfig, hphantom, hwants⟩ := h
  refine ⟨hphase, hconfig, by rw [hphantom], fun c => ?_⟩
  rw [hphantom, requested_eq, requested_eq, hwants, answerWant_same]

theorem follows_refl (s : State) : Follows s s := follows_of_same rfl

theorem Follows.same (hs : Follows s t) (h : powerRecords u = powerRecords t) : Follows s u := by
  simp only [powerRecords, Prod.mk.injEq] at h
  obtain ⟨hphase, hconfig, hphantom, hwants⟩ := h
  refine ⟨hphase.trans hs.phase, hconfig.trans hs.config, by rw [hphantom]; exact hs.phantom, fun c => ?_⟩
  rw [hphantom, requested_eq u, hwants, ← requested_eq]
  exact hs.recs c

theorem follows_after (h : powerRecords t = powerRecords s) (hu : Follows t u) : Follows s u := by
  simp only [powerRecords, Prod.mk.injEq] at h
  obtain ⟨hphase, hconfig, hphantom, hwants⟩ := h
  refine ⟨hu.phase.trans hphase, hu.config.trans hconfig, by rw [← hphantom]; exact hu.phantom, fun c => ?_⟩
  rw [← hphantom, requested_eq s, ← hwants, ← requested_eq]
  exact hu.recs c

/-- What the putting of an entry leaves: all of the phantom controller but its records. -/
def besideRecords (s : State) :=
  (s.phase, s.config, s.phantom.bank, s.phantom.lineQuiet, s.phantom.overload, s.phantom.mainGood, s.phantom.auxGood)

/-- Channel by channel: a view that answers its own change of wants. -/
theorem follows_of_views (hbeside : besideRecords t = besideRecords s)
    (hviews : ∀ c, (chanView t c).phantom = answerWant (wanted (chanView s c).demand.entries)
      (wanted (chanView t c).demand.entries) (chanView s c).phantom) : Follows s t := by
  simp only [besideRecords, Prod.mk.injEq] at hbeside
  obtain ⟨hphase, hconfig, hbank, hquiet, hover, hmain, haux⟩ := hbeside
  exact ⟨hphase, hconfig, phantom_ext rfl hbank hquiet hover hmain haux, hviews⟩

/-- R51, R134: putting entries of one feed. -/
theorem follows_puts (f : Feed) (o : Puts) {l : List Chan} (hl : l.Nodup) (s : State) :
    Follows s (forEach l (putOne f o) s) := by
  have hround (c : Chan) (t : State) : besideRecords (putOne f o c t) = besideRecords t := by
    unfold putOne
    split
    · simp [besideRecords]
    · rfl
  refine follows_of_views (forEach_keeps besideRecords hround s) fun c => ?_
  rw [chanView_puts f o hl]
  split
  · unfold viewPutOne
    split
    · rfl
    · exact (answerWant_same _ _).symm
  · exact (answerWant_same _ _).symm

theorem follows_writes (f : Feed) (w : DemandWrite) (first last : Byte) (s : State) :
    Follows s (forEach (rangeOf first last) (writeChannel f w s.timing.counter) s) := by
  rw [writes_eq_puts f w (rangeOf_nodup first last)]
  exact follows_puts f _ (rangeOf_nodup first last) s

theorem follows_removals (f : Feed) (first last : Byte) (s : State) :
    Follows s (forEach (rangeOf first last) (removeEntry f) s) := by
  rw [removals_eq_puts f (rangeOf_nodup first last)]
  exact follows_puts f _ (rangeOf_nodup first last) s

/-- R39, R40, R59. -/
theorem follows_releaseFeed (f : Feed) (s : State) : Follows s (releaseFeed f s) := by
  refine follows_of_views (by simp [besideRecords]) fun c => ?_
  rw [chanView_releaseFeed, viewReleased_eq]

/-! ## Commands that leave wants and phantom records -/

theorem powerRecords_answer (e : Envelope) (kind : Byte) (code : OutcomeCode) (s : State) :
    powerRecords (answer e kind code s) = powerRecords s := rfl

theorem powerRecords_noticeBatch (f : Feed) (st : Station) (s : State) :
    powerRecords (noticeBatch f st s) = powerRecords s := by
  unfold noticeBatch
  (repeat' split) <;> rfl

theorem follows_hear {st : Station} {role : Role} {k : State → State} (hk : ∀ t, Follows t (k t)) (s : State) :
    Follows s (hear st role k s) := by
  unfold hear
  (repeat' split)
  · exact follows_of_same rfl
  · exact follows_after (by simp [powerRecords, wants, shown, messageEnded]) (hk _)
  · exact follows_refl s

theorem follows_request {e : Envelope} {k : State → State} (hk : ∀ t, Follows t (k t)) (s : State) :
    Follows s (request e k s) :=
  follows_hear (fun t => by split; exacts [hk t, follows_refl t]) s

theorem follows_holderRequest {e : Envelope} {kind feed : Byte} {k : Feed → State → State}
    (hk : ∀ f t, Follows t (k f t)) (s : State) : Follows s (request e (withHolder e kind feed k) s) := by
  refine follows_request (fun t => ?_) s
  unfold withHolder
  (repeat' split)
  exacts [hk _ t, follows_of_same rfl, follows_of_same rfl]

theorem powerRecords_lockPass (e : Envelope) (kind : Byte) (f : Feed) (unlocking : Bool) (cs : List Chan)
    {l : Chan → State → Lock} (s : State) :
    powerRecords (lockPass e kind f unlocking cs (fun c t => setLock c (l c t) t) s) = powerRecords s := by
  have hround (c : Chan) (t : State) : powerRecords (setLock c (l c t) t) = powerRecords t := by
    simp [powerRecords, wants]
  unfold lockPass
  split
  · rfl
  · exact forEach_keeps powerRecords hround s

theorem powerRecords_clearBackoff (c : Chan) (s : State) : powerRecords (clearBackoff c s) = powerRecords s := by
  simp [powerRecords, wants]

theorem powerRecords_takeLink (source : Station) (group flags candidate locked backoff : Byte) (s : State) :
    powerRecords (takeLink source group flags candidate locked backoff s) = powerRecords s := by
  unfold takeLink
  (repeat' split)
  · simp [powerRecords, wants]
  all_goals rfl

/-- R177: a box reset leaves the wants. -/
theorem powerRecords_resetBlocks (rb : Readback) (s : State) : powerRecords (resetBlocks rb s) = powerRecords s := by
  rw [powerRecords, wants_eq_of_shown (shown_resetBlocks rb s)]
  simp [powerRecords]

theorem powerRecords_markEvent (tick : Nat) (s : State) : powerRecords (markEvent tick s) = powerRecords s :=
  whileRunning_keeps powerRecords (fun u => by simp [powerRecords, wants, shown]) s

theorem powerRecords_declareMissing (s : State) : powerRecords (declareMissing s) = powerRecords s :=
  whileRunning_keeps powerRecords (fun u => by split <;> simp [powerRecords, wants, shown]) s

theorem powerRecords_enterHoldoverBy (cause : BadMark) (s : State) :
    powerRecords (enterHoldoverBy cause s) = powerRecords s := by
  unfold enterHoldoverBy
  dsimp only
  (repeat' split)
  exacts [powerRecords_markEvent _ s, rfl, powerRecords_declareMissing s, rfl]

/-- The commands by which the phantom controller works, those of its block starts among them. -/
def worksPhantom : Instr → Bool
  | .startUpEnd _ _ _ _ | .blockStart _ | .settleEnd _ | .shortTrip _ | .shedLoad | .bankChange
  | .powerGoodChange _ _ => true
  | _ => false

theorem exec_follows {m : Instr} {s t : State} (hstart : m.isStart = false) (hworks : worksPhantom m = false)
    (h : exec m s = .next t) : Follows s t := by
  have next {u : State} (h : Host.Outcome.next (φ := Fault) (ρ := Refusal) u = .next t) (hu : Follows s u) :
      Follows s t := Host.Outcome.next.inj h ▸ hu
  have same {u : State} (h : Host.Outcome.next (φ := Fault) (ρ := Refusal) u = .next t)
      (hu : powerRecords u = powerRecords s) : Follows s t := next h (follows_of_same hu)
  have running {f : State → State} (hf : ∀ u, powerRecords (f u) = powerRecords u) :
      powerRecords (whileRunning f s) = powerRecords s := whileRunning_keeps powerRecords hf s
  cases m with
  | presence e => exact next h (follows_hear follows_refl s)
  | reply e => exact next h (follows_hear follows_refl s)
  | channelState e => exact next h (follows_hear follows_refl s)
  | boxState e => exact next h (follows_hear follows_refl s)
  | invalidMessage st kind => exact next h (follows_hear (fun _ => follows_of_same (by rfl)) s)
  | linkCandidate e g fl ca lo ba =>
    exact next h (follows_hear (fun u => follows_of_same (powerRecords_takeLink e.source g fl ca lo ba u)) s)
  | claim e f =>
    refine next h (follows_request (fun u => follows_of_same ?_) s)
    unfold takeClaim
    (repeat' split) <;> simp [powerRecords, wants, shown]
  | release e f =>
    exact next h (follows_holderRequest
      (fun f u => (follows_releaseFeed f u).same (powerRecords_answer e 3 .done _)) s)
  | setDemand e f a b fl g =>
    refine next h (follows_holderRequest (fun f u => ?_) s)
    (repeat' split)
    exacts [(follows_writes f _ a b u).same (powerRecords_noticeBatch _ _ _), follows_of_same rfl,
      follows_of_same rfl]
  | clearDemand e f a b =>
    refine next h (follows_holderRequest (fun f u => ?_) s)
    split
    exacts [(follows_removals f a b u).same (powerRecords_noticeBatch _ _ _), follows_of_same rfl]
  | lock e f a b mode =>
    refine next h (follows_holderRequest (fun f u => follows_of_same ?_) s)
    (repeat' split)
    exacts [powerRecords_lockPass _ _ _ _ _ u, rfl, rfl]
  | unlock e f a b =>
    refine next h (follows_holderRequest (fun f u => follows_of_same ?_) s)
    split
    exacts [powerRecords_lockPass _ _ _ _ _ u, rfl]
  | headroomReset e f a b =>
    refine next h (follows_holderRequest (fun f u => follows_of_same ?_) s)
    split
    exacts [(powerRecords_answer e 8 .done _).trans (forEach_keeps powerRecords powerRecords_clearBackoff u), rfl]
  | tone e f a b st =>
    exact next h (follows_holderRequest (fun f u => follows_of_same (by (repeat' split) <;> rfl)) s)
  | batchOpen e f n =>
    exact next h (follows_holderRequest
      (fun f u => follows_of_same (by unfold decideOpen; (repeat' split) <;> rfl)) s)
  | batchEntry e f c fl g =>
    exact next h (follows_request
      (fun u => follows_of_same (by unfold takeEntry botchEntry; (repeat' split) <;> rfl)) s)
  | batchCommit e =>
    exact next h (follows_request (fun u => follows_of_same (by unfold takeCommit; (repeat' split) <;> rfl)) s)
  | batchCancel e =>
    exact next h (follows_request (fun u => follows_of_same (by unfold takeCancel; (repeat' split) <;> rfl)) s)
  | boxReset e rb =>
    refine next h (follows_request (fun u => follows_of_same ?_) s)
    unfold takeBoxReset
    split
    exacts [(powerRecords_answer e 14 .done _).trans (powerRecords_resetBlocks rb u), rfl]
  | batchWrite =>
    refine same h ?_
    unfold batchWrite
    (repeat' split)
    exacts [powerRecords_writeBatch _ _ s, rfl, rfl, rfl]
  | batchTimeout => exact same h (by unfold batchTimeout; (repeat' split) <;> rfl)
  | samplePeriod frame =>
    exact same h (by unfold samplePeriod; split; exacts [by simp [powerRecords, wants, shown], rfl])
  | compensation c => exact same h (by unfold compensation; (repeat' split) <;> simp [powerRecords, wants, shown])
  | retryWrite c code => exact same h (by unfold retryWrite; (repeat' split) <;> simp [powerRecords, wants, shown])
  | windowClose =>
    have hshown : shown (closeWindow { s with ahead := .window :: s.ahead }) = shown s := shown_closeWindow _
    exact same h (by unfold windowClose; split; exacts [by simp [powerRecords, wants, hshown], rfl])
  | stationLoss st =>
    refine same h (running fun u => ?_)
    (repeat' split)
    exacts [rfl, powerRecords_loseStation st _ u, rfl, rfl, rfl]
  | linkEntryExpiry g source => exact same h (running fun u => by simp [powerRecords, wants])
  | receptionDiscarded cause => exact same h (by unfold receptionDiscarded; split <;> rfl)
  | transmissionAttempt => exact same h (by unfold transmissionAttempt beginAttempt; (repeat' split) <;> rfl)
  | lostAttempt bytes => exact same h (running fun u => by split <;> rfl)
  | transmissionFault => exact same h (running fun u => by split <;> rfl)
  | messageSent => exact same h (running fun u => by split <;> simp [powerRecords, wants, shown])
  | pairIdle => exact same h (by unfold pairIdle; (repeat' split) <;> rfl)
  | markEvent tick => exact same h (powerRecords_markEvent tick s)
  | enterLocked tick =>
    exact same h (by unfold enterLockedAt; dsimp only; split; exacts [powerRecords_markEvent tick s, rfl])
  | enterHoldover cause => exact same h (powerRecords_enterHoldoverBy cause s)
  | missingMark => exact same h (powerRecords_declareMissing s)
  | quietCountExpiry => exact same h (running fun u => by split <;> simp [powerRecords, wants, shown])
  | markLineRelease => exact same h (running fun u => by split <;> simp [powerRecords, wants, shown])
  | portLineChange f up =>
    refine same h (running fun u => ?_)
    unfold lineChange
    dsimp only
    (repeat' split) <;> simp [powerRecords, wants, shown]
  | feedBlockSent f => exact same h (running fun u => by rfl)
  | powerOn | resetLine | resetLineHeld => exact absurd hstart nofun
  | startUpEnd | blockStart | settleEnd | shortTrip | shedLoad | bankChange | powerGoodChange =>
    exact absurd hworks nofun

end Sys2Proof.Proofs
end

section
/-! Every command keeps the load law and the phantom law (R133 to R136, R139, R147, R148): what answers a want powers no
channel, and leaves FAULT only by the withdrawal of the last want. And all laws hold at reset. -/

namespace Sys2Proof.Proofs

open Sys2Proof.Machine Sys2Proof.Laws

variable {s t u : State} {c : Chan}

/-! ## Answers to wants -/

theorem answerWant_cases (before after : Bool) (r : PhantomRec) :
    (before = after ∧ answerWant before after r = r)
      ∨ (before = false ∧ after = true ∧ answerWant before after r = afterWant r)
      ∨ (before = true ∧ after = false ∧ answerWant before after r = afterWithdrawal r) := by
  cases before <;> cases after
  exacts [.inl ⟨rfl, rfl⟩, .inr (.inl ⟨rfl, rfl, rfl⟩), .inr (.inr ⟨rfl, rfl, rfl⟩), .inl ⟨rfl, rfl⟩]

theorem answerWant_fits {before after : Bool} {r : PhantomRec} (h : RecordFits before r) :
    RecordFits after (answerWant before after r) := by
  rcases answerWant_cases before after r with ⟨rfl, hr⟩ | ⟨rfl, rfl, hr⟩ | ⟨rfl, rfl, hr⟩ <;> rw [hr]
  · exact h
  · cases hst : r.state <;> simp_all [RecordFits, StateAgrees, afterWant]
  · cases hst : r.state <;> simp_all [RecordFits, StateAgrees, afterWithdrawal]

/-- R134: no change of wants powers a channel. -/
theorem answerWant_powered {before after : Bool} {r : PhantomRec}
    (h : (answerWant before after r).state.powered = true) : r.state.powered = true := by
  rcases answerWant_cases before after r with ⟨-, hr⟩ | ⟨-, -, hr⟩ | ⟨-, -, hr⟩ <;> rw [hr] at h
  · exact h
  · cases hst : r.state <;> simp_all [afterWant, PhantomState.powered]
  · cases hst : r.state <;> simp_all [afterWithdrawal, PhantomState.powered]

/-- R134, R147: only the withdrawal of the last want takes a channel out of FAULT. -/
theorem answerWant_fault {before after : Bool} {r : PhantomRec} (h : r.state = .fault) :
    (answerWant before after r).state = .fault ∨ (before = true ∧ after = false
      ∧ (answerWant before after r).state = .off ∧ (answerWant before after r).cause = .reset) := by
  rcases answerWant_cases before after r with ⟨-, hr⟩ | ⟨-, -, hr⟩ | ⟨hyes, hno, hr⟩ <;> rw [hr]
  · exact .inl h
  · exact .inl (by simp [afterWant, h])
  · exact .inr ⟨hyes, hno, by simp [afterWithdrawal, h]⟩

theorem phantomLaw_of_follows (h : Follows s t) (hs : PhantomLaw s) : PhantomLaw t := by
  rw [phantomLaw_iff] at hs ⊢
  refine ⟨fun c => ?_, ?_⟩
  · rw [h.recs c]
    exact answerWant_fits (hs.1 c)
  · rw [CountsFit, h.phantom]
    exact hs.2

theorem eq_nil_of_powered (h : ∀ c ∈ t.poweredChannels, c ∈ s.poweredChannels) (hs : s.poweredChannels = []) :
    t.poweredChannels = [] :=
  List.eq_nil_iff_forall_not_mem.mpr fun c hc => List.not_mem_nil (hs ▸ h c hc)

/-- Where power has only been taken away, and the part runs as it did, the load law stands. -/
theorem loadLaw_of_unloads (h : Unloads s t) (hphase : t.phase = s.phase) (hs : LoadLaw s) : LoadLaw t := by
  refine ⟨h.fits hs.1, hs.2.imp (fun hrun => ?_) (eq_nil_of_powered h.powered)⟩
  rwa [State.running, hphase]

theorem Follows.unloads (h : Follows s t) : Unloads s t where
  supply := ⟨h.config, by rw [h.phantom]⟩
  powered c hc := by
    rw [mem_poweredChannels, h.recs c] at hc
    exact mem_poweredChannels.mpr (answerWant_powered hc)

/-! ## Block starts -/

theorem works_of_same (h : powerRecords t = powerRecords s) : Works s t := by
  have hfollows := follows_of_same h
  simp only [powerRecords, Prod.mk.injEq] at h
  obtain ⟨hphase, hconfig, hphantom, hwants⟩ := h
  refine ⟨⟨hphase, fun c => by rw [requested_eq, requested_eq, hwants], fun c => ?_, fun hcounts => ?_⟩,
    hfollows.unloads.fits⟩
  · rw [hphantom]
    exact tends_refl _ _
  · rwa [CountsFit, hphantom]

/-- Nothing but the phantom controller moves phantom records in a block's work (R18). -/
theorem works_blockTasks (i : BlockInputs) (s : State) : Works s (blockTasks i s) :=
  (works_of_same (powerRecords_beforePhantom i s)).trans (works_phantomAtBlock i.monitors _)

theorem works_blockStart (i : BlockInputs) (s : State) : Works s (blockStart i s) := by
  have hbegun : powerRecords (beginBlock (endBlock s)) = powerRecords s := by
    rw [powerRecords, wants_eq_of_shown ((shown_of_demand (by simp)).trans (shown_endBlock s))]
    simp [powerRecords]
  have hqueued (u : State) : powerRecords (clearAhead (periodic u)) = powerRecords u := by
    simp [powerRecords, wants, shown]
  unfold blockStart whileRunning
  split
  · exact ((works_of_same hbegun).trans (works_blockTasks _ _)).trans (works_of_same (hqueued _))
  · exact works_refl s

/-- The commands of the phantom controller that come while the part runs, and the block starts. -/
def worksWhileRunning : Instr → Bool
  | .startUpEnd _ _ _ _ => false
  | m => worksPhantom m

theorem exec_works {m : Instr} (hm : worksWhileRunning m = true) (h : exec m s = .next t) : Works s t := by
  have next {u : State} (h : Host.Outcome.next (φ := Fault) (ρ := Refusal) u = .next t) (hu : Works s u) : Works s t :=
    Host.Outcome.next.inj h ▸ hu
  cases m with
  | blockStart i => exact next h (works_blockStart i s)
  | settleEnd c => exact next h (eases_settleEnd c s).works
  | shortTrip c => exact next h (eases_shortTrip c s).works
  | shedLoad => exact next h (eases_shedLoad s).works
  | bankChange => exact next h (works_bankChange s)
  | powerGoodChange mg ag => exact next h (eases_powerGoodChange mg ag s).works
  | _ => exact absurd hm nofun

/-- Before the part runs, none of these commands powers a channel. -/
theorem exec_works_stopped {m : Instr} (hm : worksWhileRunning m = true) (hstopped : ¬ s.running = true)
    (h : exec m s = .next t) : Unloads s t := by
  have next {u : State} (h : Host.Outcome.next (φ := Fault) (ρ := Refusal) u = .next t) (hu : Unloads s u) :
      Unloads s t := Host.Outcome.next.inj h ▸ hu
  cases m with
  | blockStart i => exact next h (by rw [blockStart, whileRunning, if_neg hstopped]; exact (eases_refl s).unloads)
  | settleEnd c => exact next h (eases_settleEnd c s).unloads
  | shortTrip c => exact next h (eases_shortTrip c s).unloads
  | shedLoad => exact next h (eases_shedLoad s).unloads
  | bankChange => exact next h (by rw [bankChange_of_stopped hstopped]; exact (eases_refl s).unloads)
  | powerGoodChange mg ag => exact next h (eases_powerGoodChange mg ag s).unloads
  | _ => exact absurd hm nofun

/-! ## Starts and the end of start-up -/

theorem works_clearAhead (s : State) : Works s (clearAhead s) := works_of_same rfl

/-- The work of block 0, with which start-up ends (R172). -/
theorem works_blockZero (i : BlockInputs) (s : State) : Works s (clearAhead (blockTasks i s)) :=
  (works_blockTasks i s).trans (works_clearAhead _)

/-- R149: every channel is OFF after a start, without wants. -/
theorem laws_of_start {mainGood auxGood : Bool} (hphantom : t.phantom = .start mainGood auxGood)
    (hdemand : t.demand = Tab.const .start) : LoadLaw t ∧ PhantomLaw t := by
  have hrec (c : Chan) : t.phantom.recs.get c = PhantomRec.start := by rw [hphantom, Phantom.start, get_const]
  have hrequested (c : Chan) : t.requested c = false := by
    rw [State.requested, hdemand, get_const]
    decide
  have hnone : t.poweredChannels = [] := List.eq_nil_iff_forall_not_mem.mpr fun c hc => by
    rw [mem_poweredChannels, hrec] at hc
    cases hc
  refine ⟨⟨by rw [load_of_none hnone]; exact Nat.zero_le _, .inr hnone⟩, phantomLaw_iff.mpr ⟨fun c => ?_, ?_⟩⟩
  · rw [hrec, hrequested]
    exact ⟨rfl, by decide, by decide⟩
  · rw [CountsFit, hphantom]
    exact ⟨le_rfl, Nat.zero_lt_succ 19⟩

theorem exec_start_laws {m : Instr} (hm : m.isStart = true) (h : exec m s = .next t) : LoadLaw t ∧ PhantomLaw t := by
  cases m with
  | powerOn i => exact Host.Outcome.next.inj h ▸ laws_of_start rfl rfl
  | resetLine i => exact Host.Outcome.next.inj h ▸ laws_of_start rfl rfl
  | resetLineHeld => exact Host.Outcome.next.inj h ▸ laws_of_start rfl rfl
  | _ => exact absurd hm nofun

/-- R172: in start-up no channel is powered, so that the load fits the bank that is read at its end. -/
theorem loadLaw_startUpEnd (mainGood auxGood : Bool) (lines : Tab Bool 6) (i : BlockInputs) (hs : LoadLaw s) :
    LoadLaw (startUpEnd mainGood auxGood lines i s) := by
  unfold startUpEnd
  split
  · next hphase =>
    have hnone : (startRunning mainGood auxGood lines s).poweredChannels = [] :=
      hs.2.resolve_left (by simp [State.running, hphase])
    have hworks := works_blockZero i (startRunning mainGood auxGood lines s)
    refine ⟨hworks.fits ?_, .inl ?_⟩
    · rw [load_of_none hnone]
      exact Nat.zero_le _
    · have hrun : (clearAhead (blockTasks i (startRunning mainGood auxGood lines s))).phase = .running :=
        hworks.controls.phase
      rw [State.running, hrun]
      rfl
  · exact hs

theorem phantomLaw_startUpEnd (mainGood auxGood : Bool) (lines : Tab Bool 6) (i : BlockInputs) (hs : PhantomLaw s) :
    PhantomLaw (startUpEnd mainGood auxGood lines i s) := by
  unfold startUpEnd
  split
  · have hrunning : PhantomLaw (startRunning mainGood auxGood lines s) := ⟨hs.1, le_rfl, Nat.zero_lt_succ 19⟩
    exact (works_blockZero i _).controls.law hrunning
  · exact hs

theorem fault_startUpEnd (mainGood auxGood : Bool) (lines : Tab Bool 6) (i : BlockInputs)
    (h : (s.phantom.recs.get c).state = .fault) :
    ((startUpEnd mainGood auxGood lines i s).phantom.recs.get c).state = .fault := by
  unfold startUpEnd
  split
  · exact ((works_blockZero i (startRunning mainGood auxGood lines s)).controls.tends c).fault h
  · exact h

/-! ## Every command -/

/-- The commands by what they may do to the phantom controller: a start, the end of start-up, its own work, or the
answer to wants. -/
theorem command_cases (m : Instr) : m.isStart = true ∨ (∃ mg ag lines i, m = .startUpEnd mg ag lines i)
    ∨ worksWhileRunning m = true ∨ (m.isStart = false ∧ worksPhantom m = false) := by
  cases m with
  | startUpEnd mg ag lines i => exact .inr (.inl ⟨mg, ag, lines, i, rfl⟩)
  | powerOn | resetLine | resetLineHeld => exact .inl rfl
  | blockStart | settleEnd | shortTrip | shedLoad | bankChange | powerGoodChange => exact .inr (.inr (.inl rfl))
  | _ => exact .inr (.inr (.inr ⟨rfl, rfl⟩))

theorem exec_loadLaw {m : Instr} (hs : LoadLaw s) (h : exec m s = .next t) : LoadLaw t := by
  rcases command_cases m with hstart | ⟨mg, ag, lines, i, rfl⟩ | hworks | ⟨hstart, hworks⟩
  · exact (exec_start_laws hstart h).1
  · exact Host.Outcome.next.inj h ▸ loadLaw_startUpEnd mg ag lines i hs
  · have hworked := exec_works hworks h
    have hphase := hworked.controls.phase
    by_cases hrun : s.running = true
    · exact ⟨hworked.fits hs.1, .inl (by rwa [State.running, hphase])⟩
    · exact loadLaw_of_unloads (exec_works_stopped hworks hrun h) hphase hs
  · have hfollows := exec_follows hstart hworks h
    exact loadLaw_of_unloads hfollows.unloads hfollows.phase hs

theorem exec_phantomLaw {m : Instr} (hs : PhantomLaw s) (h : exec m s = .next t) : PhantomLaw t := by
  rcases command_cases m with hstart | ⟨mg, ag, lines, i, rfl⟩ | hworks | ⟨hstart, hworks⟩
  · exact (exec_start_laws hstart h).2
  · exact Host.Outcome.next.inj h ▸ phantomLaw_startUpEnd mg ag lines i hs
  · exact (exec_works hworks h).controls.law hs
  · exact phantomLaw_of_follows (exec_follows hstart hworks h) hs

/-- R147: what a command that is no start makes of a channel in FAULT. -/
theorem exec_fault {m : Instr} (hstart : m.isStart = false) (h : exec m s = .next t)
    (hfault : (s.phantom.recs.get c).state = .fault) : (t.phantom.recs.get c).state = .fault
      ∨ (s.requested c = true ∧ t.requested c = false ∧ (t.phantom.recs.get c).state = .off
        ∧ (t.phantom.recs.get c).cause = .reset) := by
  rcases command_cases m with hstart' | ⟨mg, ag, lines, i, rfl⟩ | hworks | ⟨-, hworks⟩
  · exact absurd (hstart.symm.trans hstart') nofun
  · exact .inl (Host.Outcome.next.inj h ▸ fault_startUpEnd mg ag lines i hfault)
  · exact .inl (((exec_works hworks h).controls.tends c).fault hfault)
  · rw [(exec_follows hstart hworks h).recs c]
    exact answerWant_fault hfault

/-- Settles O6: a step on an empty queue idles, and any other runs one command. -/
theorem stepKeepsLoadLaw : Obligations.StepKeepsLoadLaw := by
  intro s t hs h
  unfold step at h
  split at h
  · exact Host.Outcome.next.inj h ▸ hs
  · next m rest _ =>
    have hrest : LoadLaw { s with pending := rest } := hs
    exact exec_loadLaw hrest h

/-- Settles O9: the law command by command, and the one way out of FAULT. -/
theorem stepKeepsPhantomLaw : Obligations.StepKeepsPhantomLaw := by
  refine ⟨fun s t hs h => ?_, fun m s t c hstart h hfault => exec_fault hstart h hfault⟩
  unfold step at h
  split at h
  · exact Host.Outcome.next.inj h ▸ hs
  · next m rest _ =>
    have hrest : PhantomLaw { s with pending := rest } := hs
    exact exec_phantomLaw hrest h

/-! ## Reset -/

/-- R162: at reset no key is queued, nothing is being sent, and no outcome stands. -/
theorem keyLaw_reset : KeyLaw State.reset :=
  ⟨List.nodup_nil, fun _ hk => absurd hk List.not_mem_nil, nofun, get_const _ _, nofun⟩

/-- Settles O4: at reset every record is as a start sets it, and each law holds after a start. -/
theorem lawsHoldAtReset : Obligations.LawsHoldAtReset := by
  obtain ⟨hload, hphantom⟩ := laws_of_start (t := State.reset) rfl rfl
  exact ⟨keyLaw_reset, hload, holdLaw_iff.mpr (held_start rfl rfl),
    gainLaw_iff.mpr (gainsInRange_start (fun c => (get_const StepRec.start c).symm ▸ stepInRange_start) rfl rfl rfl
      (by decide)),
    hphantom, timingLaw_iff.mpr inRange_start, stationLaw_start rfl, linkLaw_iff.mpr (linksOrdered_start rfl),
    pathLaw_iff.mpr (pathsFit_start (installed := defaultConfig.installed) rfl), lockLaw_of_start rfl⟩

end Sys2Proof.Proofs
end

section
/-! The requests to the batch buffer (R153, R154, R156, R158): each is decided on the batch record, and each decision that
changes the record or its flags asks for BOX before its outcome is placed. -/

namespace Sys2Proof.Proofs

open Sys2Proof.Machine Sys2Proof.Laws

variable {s t : State} {e : Envelope} {b : BatchBody} {st : Station} {a : Answer}

/-! ## An outcome with a change of the batch -/

theorem heard_batch (e : Envelope) (s : State) : (heard e s).batch = s.batch := by simp [heard]

/-- R161, R164: an outcome placed where the batch alone has changed and BOX stands. -/
theorem batchAnswered_place {x : Batch} (hs : NotSending s)
    (ht : t = { s with batch := x, report := { s.report with keys := t.report.keys } })
    (hbox : Key.box ∈ t.report.keys) : BatchAnswered x st a s (place st a t) := by
  have hquiet : NotSending t := notSending_congr (congrArg State.link ht) hs
  obtain ⟨hkept, hreply⟩ := answered_asks st a t
  rw [place_eq_answered hquiet]
  refine ⟨?_, (hreply _).mpr (.inr rfl), hkept.subset hbox⟩
  generalize t.report.keys = keys at ht
  subst ht
  rfl

theorem batchAnswered_setBatch (r : BatchRecord) (hs : NotSending s) :
    BatchAnswered ⟨r, s.batch.flags⟩ st a s (place st a (setBatch r s)) :=
  batchAnswered_place hs rfl ((mem_ask .box .box).mpr (.inr rfl))

theorem batchAnswered_dropBatch (f : BatchFlag) (hs : NotSending s) :
    BatchAnswered ⟨.idle, s.batch.flags ||| f.mask⟩ st a s (place st a (dropBatch f s)) := by
  have hlink : (dropBatch f s).link = s.link := setFlag_link f (s := setBatch .idle s) hs
  exact batchAnswered_place hs (congrArg (fun link => { dropBatch f s with link := link }) hlink)
    ((mem_ask .box .box).mpr (.inr rfl))

theorem body_eq_some_iff {r : BatchRecord} :
    r.body = some b ↔ (∃ age, r = .loading b age) ∨ r = .committing b := by
  cases r <;> simp [BatchRecord.body]

/-! ## BATCH OPEN -/

/-- R153: an open from the holder with a good count is decided on the record. -/
theorem exec_batchOpen {feed count : Byte} {f : Feed} (ht : Takes e s) (hheld : HeldBy e feed f (heard e s))
    (hcount : 1 ≤ count.toNat ∧ count.toNat ≤ 64) :
    exec (.batchOpen e feed count) s = .next (decideOpen e f count (heard e s)) := by
  have hdecided : request e (takeOpen e feed count) s = decideOpen e f count (heard e s) :=
    (request_of_holder _ ht hheld).trans (if_pos hcount)
  exact congrArg Host.Outcome.next hdecided

theorem decideOpen_opens {f : Feed} {count : Byte}
    (h : s.batch.record = .idle ∨ ∃ b age, s.batch.record = .loading b age ∧ b.owner = e.source) :
    decideOpen e f count s = openBatch e f count s := by
  obtain hidle | ⟨b, age, hloading, howner⟩ := h
  · simp only [decideOpen, hidle]
  · simp only [decideOpen, hloading, howner, if_true]

theorem decideOpen_busy {f : Feed} {count : Byte} (h : (∃ b, s.batch.record = .committing b)
      ∨ ∃ b age, s.batch.record = .loading b age ∧ b.owner ≠ e.source) :
    decideOpen e f count s = answer e 10 .busy s := by
  obtain ⟨b, hcommitting⟩ | ⟨b, age, hloading, hother⟩ := h
  · simp only [decideOpen, hcommitting]
  · simp only [decideOpen, hloading, if_neg hother]

/-- Settles O37: the record lets a batch begin where none stands or the source's own is loading. -/
theorem batchOpenIsDecidedOnTheRecord : Obligations.BatchOpenIsDecidedOnTheRecord := by
  intro e feed count f s ht hheld hlow hhigh h
  rw [exec_batchOpen ht hheld ⟨hlow, hhigh⟩, ← heard_batch e s]
  refine ⟨fun hopens => ⟨_, rfl, ?_⟩, fun hbusy => congrArg Host.Outcome.next ?_⟩
  · rw [decideOpen_opens hopens]
    exact batchAnswered_setBatch _ (heard_notSending e s)
  · rw [decideOpen_busy hbusy, answer_heard]

/-! ## BATCH ENTRY -/

section Entry

variable {feed chan flags gain : Byte}

theorem exec_batchEntry (ht : Takes e s) :
    exec (.batchEntry e feed chan flags gain) s = .next (takeEntry e feed chan flags gain (heard e s)) :=
  congrArg Host.Outcome.next (request_of_takes _ ht)

/-- R154: the item of an entry that fits the batch. -/
theorem itemOf_fits {c : Chan} {m : Setting} (hroom : b.items.length < b.count) (hfeed : feedOf feed = some b.feed)
    (hchan : chanOf chan = some c) (hmute : muteOf flags = some m) :
    itemOf b feed chan flags gain = some ⟨c, gainOf flags gain, m⟩ := by
  simp only [itemOf, if_pos (And.intro hroom hfeed), hchan, hmute]

/-- R154: no item comes of an entry to a full batch, or with a bad field. -/
theorem itemOf_eq_none (h : b.count ≤ b.items.length ∨ feedOf feed ≠ some b.feed ∨ chanOf chan = none
    ∨ muteOf flags = none) : itemOf b feed chan flags gain = none := by
  unfold itemOf
  split
  · next hfits =>
    obtain ⟨hroom, hfeed⟩ := hfits
    obtain hfull | hother | hchan | hmute := h
    · exact absurd hroom (Nat.not_lt.mpr hfull)
    · exact absurd hfeed hother
    · rw [hchan]
    · rw [hmute]
      cases chanOf chan <;> rfl
  · rfl

theorem takeEntry_idle (h : s.batch.record = .idle) :
    takeEntry e feed chan flags gain s = answer e 11 .noBatch s := by
  simp only [takeEntry, h]

theorem takeEntry_notOwner (h : s.batch.record.body = some b) (hother : b.owner ≠ e.source) :
    takeEntry e feed chan flags gain s = answer e 11 .notOwner s := by
  obtain ⟨age, hloading⟩ | hcommitting := body_eq_some_iff.mp h
  · simp only [takeEntry, hloading, if_neg hother]
  · simp only [takeEntry, hcommitting, if_neg hother]

theorem takeEntry_appends {age : Nat} {i : BatchItem} (h : s.batch.record = .loading b age)
    (howner : b.owner = e.source) (hitem : itemOf b feed chan flags gain = some i) :
    takeEntry e feed chan flags gain s
      = { s with batch.record := .loading { b with items := b.items ++ [i] } 0 } := by
  simp only [takeEntry, h, if_pos howner, hitem]

/-- R154: an entry that does not fit the source's own batch, or comes after its commit, botches it. -/
theorem takeEntry_botches (h : s.batch.record.body = some b) (howner : b.owner = e.source)
    (hbad : s.batch.record = .committing b ∨ itemOf b feed chan flags gain = none) :
    takeEntry e feed chan flags gain s = botchEntry e s := by
  obtain ⟨age, hloading⟩ | hcommitting := body_eq_some_iff.mp h
  · have hitem : itemOf b feed chan flags gain = none := hbad.resolve_left (by simp [hloading])
    simp only [takeEntry, hloading, if_pos howner, hitem]
  · simp only [takeEntry, hcommitting, if_pos howner]

end Entry

/-- Settles O38, by the record, its owner, and whether the entry fits the batch. -/
theorem batchEntryIsDecidedOnTheRecord : Obligations.BatchEntryIsDecidedOnTheRecord := by
  intro e feed chan flags gain s ht h
  rw [exec_batchEntry ht, ← heard_batch e s]
  refine ⟨fun hidle => congrArg Host.Outcome.next ?_, fun b hb hother => congrArg Host.Outcome.next ?_,
    fun b age c m hloading howner hroom hfeed hchan hmute => congrArg Host.Outcome.next ?_,
    fun b hb howner hbad => ⟨_, rfl, ?_⟩⟩
  · rw [takeEntry_idle hidle, answer_heard]
  · rw [takeEntry_notOwner hb hother, answer_heard]
  · exact takeEntry_appends hloading howner (itemOf_fits hroom hfeed hchan hmute)
  · rw [takeEntry_botches hb howner (hbad.imp_right itemOf_eq_none)]
    exact batchAnswered_dropBatch .botched (heard_notSending e s)

/-! ## BATCH COMMIT and BATCH CANCEL -/

theorem exec_batchCommit (ht : Takes e s) : exec (.batchCommit e) s = .next (takeCommit e (heard e s)) :=
  congrArg Host.Outcome.next (request_of_takes _ ht)

theorem exec_batchCancel (ht : Takes e s) : exec (.batchCancel e) s = .next (takeCancel e (heard e s)) :=
  congrArg Host.Outcome.next (request_of_takes _ ht)

theorem takeCommit_idle (h : s.batch.record = .idle) : takeCommit e s = answer e 12 .noBatch s := by
  simp only [takeCommit, h]

theorem takeCommit_notOwner (h : s.batch.record.body = some b) (hother : b.owner ≠ e.source) :
    takeCommit e s = answer e 12 .notOwner s := by
  obtain ⟨age, hloading⟩ | hcommitting := body_eq_some_iff.mp h
  · simp only [takeCommit, hloading, if_neg hother]
  · simp only [takeCommit, hcommitting, if_neg hother]

theorem takeCommit_commits {age : Nat} (h : s.batch.record = .loading b age) (howner : b.owner = e.source)
    (hfull : b.items.length = b.count) : takeCommit e s = commitDone e b (setBatch (.committing b) s) := by
  simp only [takeCommit, h, if_pos howner, if_pos hfull]

theorem takeCommit_short {age : Nat} (h : s.batch.record = .loading b age) (howner : b.owner = e.source)
    (hshort : b.items.length ≠ b.count) : takeCommit e s = answer e 12 .shortBatch (dropBatch .botched s) := by
  simp only [takeCommit, h, if_pos howner, if_neg hshort]

/-- R156: a batch that is committed already is answered DONE again. -/
theorem takeCommit_again (h : s.batch.record = .committing b) (howner : b.owner = e.source) :
    takeCommit e s = commitDone e b s := by
  simp only [takeCommit, h, if_pos howner]

theorem takeCancel_idle (h : s.batch.record = .idle) : takeCancel e s = answer e 13 .noBatch s := by
  simp only [takeCancel, h, BatchRecord.body]

theorem takeCancel_notOwner (h : s.batch.record.body = some b) (hother : b.owner ≠ e.source) :
    takeCancel e s = answer e 13 .notOwner s := by
  simp only [takeCancel, h, if_neg hother]

theorem takeCancel_cancels (h : s.batch.record.body = some b) (howner : b.owner = e.source) :
    takeCancel e s = answer e 13 .done (setBatch .idle s) := by
  simp only [takeCancel, h, if_pos howner]

/-- Settles O39, by the record, its owner, and whether the batch holds its declared count. -/
theorem batchCommitAndCancelAreDecidedOnTheRecord : Obligations.BatchCommitAndCancelAreDecidedOnTheRecord := by
  intro e s ht h
  have hquiet : NotSending h := heard_notSending e s
  rw [exec_batchCommit ht, exec_batchCancel ht, ← heard_batch e s]
  refine ⟨fun hidle => ⟨congrArg Host.Outcome.next ?_, congrArg Host.Outcome.next ?_⟩,
    fun b hb hother => ⟨congrArg Host.Outcome.next ?_, congrArg Host.Outcome.next ?_⟩,
    fun b age hloading howner => ⟨fun hfull => ⟨_, rfl, ?_⟩, fun hshort => ⟨_, rfl, ?_⟩⟩,
    fun b hcommitting howner => congrArg Host.Outcome.next ?_, fun b hb howner => ⟨_, rfl, ?_⟩⟩
  · rw [takeCommit_idle hidle, answer_heard]
  · rw [takeCancel_idle hidle, answer_heard]
  · rw [takeCommit_notOwner hb hother, answer_heard]
  · rw [takeCancel_notOwner hb hother, answer_heard]
  · rw [takeCommit_commits hloading howner hfull]
    exact batchAnswered_setBatch _ hquiet
  · rw [takeCommit_short hloading howner hshort]
    exact batchAnswered_dropBatch .botched hquiet
  · rw [takeCommit_again hcommitting howner, commitDone, place_eq_answered hquiet]
  · rw [takeCancel_cancels hb howner]
    exact batchAnswered_setBatch _ hquiet

end Sys2Proof.Proofs
end

section
/-! The key law (R162 to R165, R171), part by part: what it speaks of, how long the list can grow, and how each operation
that queues a key, notes an event in the attempt, or places an outcome keeps it. -/

namespace Sys2Proof.Proofs

open Sys2Proof.Machine Sys2Proof.Laws

variable {s t : State}

/-! ## The law, part by part -/

/-- The key of the attempt in progress (R163). -/
def attempted : Pair → Option Key
  | .sending x => some x.snap.key
  | .waiting | .idle | .ended | .receiving _ => none

theorem attempted_eq_some {p : Pair} {k : Key} : attempted p = some k ↔ ∃ x, p = .sending x ∧ x.snap.key = k := by
  cases p <;> simp [attempted]

/-- The key law, part by part. -/
structure Keyed (s : State) : Prop where
  nodup : s.report.keys.Nodup
  allowed : ∀ k ∈ s.report.keys, KeyAllowed s k
  attempt : ∀ k, attempted s.link.pair = some k → KeyAllowed s k
  slot : s.report.slots.get s.own = none
  owner : ∀ b, s.batch.record.body = some b → b.owner ≠ s.own

theorem keyLaw_iff : KeyLaw s ↔ Keyed s := by
  constructor
  · rintro ⟨hnodup, hallowed, hattempt, hslot, howner⟩
    refine ⟨hnodup, hallowed, fun k hk => ?_, hslot, howner⟩
    obtain ⟨x, hx, rfl⟩ := attempted_eq_some.mp hk
    exact hattempt x hx
  · rintro ⟨hnodup, hallowed, hattempt, hslot, howner⟩
    exact ⟨hnodup, hallowed, fun x hx => hattempt _ (attempted_eq_some.mpr ⟨x, hx, rfl⟩), hslot, howner⟩

/-- Which keys may stand follows from the own number and the configuration. -/
theorem keyAllowed_congr (hown : t.own = s.own) (hconfig : t.config = s.config) (k : Key) :
    KeyAllowed t k ↔ KeyAllowed s k := by
  cases k <;> simp [KeyAllowed, used_congr hconfig, hown]

/-- All that the law speaks of. -/
def keyRecords (s : State) :=
  (s.own, s.config, attempted s.link.pair, s.report.keys, s.report.slots, s.batch.record)

/-- Where all of it is what it was, the law stands. -/
theorem Keyed.same (hs : Keyed s) (h : keyRecords t = keyRecords s) : Keyed t := by
  simp only [keyRecords, Prod.mk.injEq] at h
  obtain ⟨hown, hconfig, hattempted, hkeys, hslots, hrecord⟩ := h
  have hallowed := fun k => (keyAllowed_congr hown hconfig k).mpr
  refine ⟨hkeys ▸ hs.nodup, fun k hk => hallowed k (hs.allowed k (hkeys ▸ hk)), fun k hk =>
    hallowed k (hs.attempt k (hattempted ▸ hk)), by rw [hslots, hown]; exact hs.slot, fun b hb => ?_⟩
  rw [hown]
  exact hs.owner b (hrecord ▸ hb)

/-! ## The length of the list -/

/-- The keys that there are for a station: 31 REPLY, 15 LINK and 32 CHANNEL keys, and BOX (R162). -/
def keysFor (own : Station) : List Key :=
  (allStations.erase own).map Key.reply ++ linkGroups.map Key.link ++ channels.map Key.channel ++ [.box]

theorem keysFor_length (own : Station) : (keysFor own).length = 79 := by
  have hstations : (allStations.erase own).length = 31 := List.length_erase_of_mem (List.mem_finRange own)
  have hgroups : linkGroups.length = 15 := by decide
  have hchannels : channels.length = 32 := List.length_finRange
  simp only [keysFor, List.length_append, List.length_map, hstations, hgroups, hchannels, List.length_singleton]

theorem mem_keysFor {k : Key} (h : KeyAllowed s k) : k ∈ keysFor s.own := by
  simp only [keysFor, List.mem_append, List.mem_map, List.mem_singleton]
  cases k with
  | reply st => exact .inl (.inl (.inl ⟨st, (List.mem_erase_of_ne h).mpr (List.mem_finRange st), rfl⟩))
  | link g =>
    obtain ⟨hne, -⟩ := Bool.and_eq_true_iff.mp h
    exact .inl (.inl (.inr ⟨g, List.mem_filter.mpr ⟨List.mem_finRange g, hne⟩, rfl⟩))
  | channel c => exact .inl (.inr ⟨c, List.mem_finRange c, rfl⟩)
  | box => exact .inr rfl

/-- Settles O14: a list without repetitions is no longer than the list of all keys that there are. -/
theorem keyLawBoundsTheList : Obligations.KeyLawBoundsTheList := by
  intro s hs
  obtain ⟨hnodup, hallowed, -⟩ := keyLaw_iff.mp hs
  have hsubset : s.report.keys ⊆ keysFor s.own := fun k hk => mem_keysFor (hallowed k hk)
  calc s.report.keys.length
    _ ≤ (keysFor s.own).length := (hnodup.subperm hsubset).length_le
    _ = 79 := keysFor_length s.own

/-! ## Keys, events, flags and outcomes -/

@[simp] theorem attempted_noteAgain (c : Chan) (bits : BitVec 9) (p : Pair) :
    attempted (noteAgain c bits p) = attempted p := by
  cases p with
  | sending x => simp only [noteAgain, attempted]; split <;> rfl
  | _ => rfl

@[simp] theorem attempted_noteFlagsAgain (bits : BitVec 4) (p : Pair) :
    attempted (noteFlagsAgain bits p) = attempted p := by
  cases p with
  | sending x => simp only [noteFlagsAgain, attempted]; split <;> rfl
  | _ => rfl

@[simp] theorem attempted_noteNewer (st : Station) (p : Pair) : attempted (noteNewer st p) = attempted p := by
  cases p with
  | sending x => simp only [noteNewer, attempted]; split <;> rfl
  | _ => rfl

/-- R162: a key that may stand is queued at most once. -/
theorem keyed_ask {k : Key} (hk : KeyAllowed s k) (hs : Keyed s) : Keyed (ask k s) where
  nodup := ask_nodup k hs.nodup
  allowed k' hk' := by
    obtain hold | rfl := (mem_ask k k').mp hk'
    exacts [hs.allowed k' hold, hk]
  attempt := hs.attempt
  slot := hs.slot
  owner := hs.owner

theorem keyed_askChannel (c : Chan) (hs : Keyed s) : Keyed (ask (.channel c) s) := keyed_ask trivial hs

theorem keyed_askBox (hs : Keyed s) : Keyed (ask .box s) := keyed_ask trivial hs

theorem keyed_setEvent (c : Chan) (e : Event) (hs : Keyed s) : Keyed (setEvent c e s) :=
  keyed_askChannel c (hs.same (by simp [keyRecords]))

theorem keyed_setFlag (f : BatchFlag) (hs : Keyed s) : Keyed (setFlag f s) :=
  keyed_askBox (hs.same (by simp [keyRecords]))

/-- R164: an outcome is placed in the slot of another station. -/
theorem keyed_place {st : Station} (a : Answer) (hst : st ≠ s.own) (hs : Keyed s) : Keyed (place st a s) := by
  have hslot : (s.report.slots.set st (some a)).get s.own = none :=
    (get_set_of_ne _ _ hst.symm).trans hs.slot
  have hplaced : Keyed { s with
      report := { s.report with slots := s.report.slots.set st (some a) }
      link := { s.link with pair := noteNewer st s.link.pair } } :=
    ⟨hs.nodup, hs.allowed, by rw [attempted_noteNewer]; exact hs.attempt, hslot, hs.owner⟩
  exact keyed_ask hst hplaced

theorem keyed_answer {e : Envelope} (kind : Byte) (code : OutcomeCode) (he : e.source ≠ s.own) (hs : Keyed s) :
    Keyed (answer e kind code s) :=
  keyed_place _ he hs

theorem keyed_forEach {α : Type} {l : List α} {g : α → State → State} (hg : ∀ a t, Keyed t → Keyed (g a t))
    (hs : Keyed s) : Keyed (forEach l g s) :=
  forEach_induct (fun a _ t => hg a t) hs

/-! ## Feed records and the batch -/

theorem keyed_setFeeds (feeds : Tab FeedRec 6) (hs : Keyed s) : Keyed (setFeeds feeds s) := by
  unfold setFeeds
  split
  exacts [hs, keyed_askBox (hs.same rfl)]

/-- A batch belongs to another station. -/
theorem keyed_setBatch {r : BatchRecord} (hr : ∀ b, r.body = some b → b.owner ≠ s.own) (hs : Keyed s) :
    Keyed (setBatch r s) := by
  have hset : Keyed { s with batch := { s.batch with record := r } } :=
    ⟨hs.nodup, hs.allowed, hs.attempt, hs.slot, hr⟩
  exact keyed_askBox hset

theorem keyed_dropBatch (f : BatchFlag) (hs : Keyed s) : Keyed (dropBatch f s) :=
  keyed_setFlag f (keyed_setBatch (r := .idle) nofun hs)

theorem keyed_discardBatch (p : BatchBody → Bool) (hs : Keyed s) : Keyed (discardBatch p s) := by
  unfold discardBatch
  (repeat' split)
  exacts [keyed_dropBatch .discarded hs, hs, hs]

/-! ## Phantom states -/

/-- R134, R165: a move asks for CHANNEL, and for BOX where the load changes. -/
theorem keyed_movePhantom (c : Chan) (st : PhantomState) (cause : OffCause) (hs : Keyed s) :
    Keyed (movePhantom c st cause s) := by
  have hmoved : Keyed (setEvent c .phantomChange { s with phantom := { s.phantom with
      recs := s.phantom.recs.set c { s.phantom.recs.get c with state := st, cause := cause } } }) :=
    keyed_setEvent c .phantomChange (hs.same rfl)
  unfold movePhantom
  dsimp only
  split
  exacts [hmoved, keyed_askBox hmoved]

theorem keyed_becomesRequested (c : Chan) (hs : Keyed s) : Keyed (becomesRequested c s) := by
  unfold becomesRequested
  dsimp only
  split
  exacts [keyed_movePhantom c _ _ hs, hs, hs, hs, hs, hs, hs]

theorem keyed_ceasesRequested (c : Chan) (hs : Keyed s) : Keyed (ceasesRequested c s) := by
  unfold ceasesRequested
  dsimp only
  split
  exacts [keyed_movePhantom c _ _ hs, keyed_movePhantom c _ _ hs, keyed_movePhantom c _ _ hs,
    keyed_movePhantom c _ _ hs, keyed_movePhantom c _ _ hs, hs, hs]

theorem keyed_handWant (c : Chan) (before after : Bool) (hs : Keyed s) : Keyed (handWant c before after s) := by
  unfold handWant
  split
  exacts [keyed_becomesRequested c hs, keyed_ceasesRequested c hs, hs]

theorem keyed_putPhantom (c : Chan) (r : PhantomRec) (hs : Keyed s) : Keyed (putPhantom c r s) :=
  hs.same (by simp [keyRecords])

theorem keyed_countPhantom (c : Chan) (e : Event) (g : PhantomRec → PhantomRec) (hs : Keyed s) :
    Keyed (countPhantom c e g s) :=
  keyed_setEvent c e (keyed_putPhantom c _ hs)

/-! ## Entries -/

/-- R51, R52: a changed entry asks for CHANNEL and hands on the want. -/
theorem keyed_putEntry (f : Feed) (o : Option Entry) (c : Chan) (hs : Keyed s) : Keyed (putEntry f o c s) :=
  keyed_handWant c _ _ (keyed_askChannel c (hs.same rfl))

theorem keyed_removeEntry (f : Feed) (c : Chan) (hs : Keyed s) : Keyed (removeEntry f c s) := by
  unfold removeEntry
  split
  exacts [keyed_putEntry f none c hs, hs]

theorem keyed_noticeBatch (f : Feed) (st : Station) (hs : Keyed s) : Keyed (noticeBatch f st s) := by
  unfold noticeBatch
  (repeat' split)
  exacts [keyed_dropBatch .botched hs, hs, hs, hs]

/-! ## Locks and the headroom monitor -/

theorem keyed_setLock (c : Chan) (l : Lock) (hs : Keyed s) : Keyed (setLock c l s) := by
  unfold setLock
  split
  exacts [hs, keyed_setEvent c .lock (hs.same rfl)]

theorem keyed_openHeld (p : Feed → Bool) (c : Chan) (hs : Keyed s) : Keyed (openHeld p c s) := by
  unfold openHeld
  (repeat' split)
  exacts [keyed_setLock c .opened hs, hs, hs, hs]

theorem keyed_resetHead (c : Chan) (hs : Keyed s) : Keyed (resetHead c s) := by
  unfold resetHead
  dsimp only
  split <;> exact hs.same rfl

theorem keyed_raiseBackoff (c : Chan) (hs : Keyed s) : Keyed (raiseBackoff c s) := by
  unfold raiseBackoff
  dsimp only
  split
  · have hraised : Keyed (putHead c { s.head.recs.get c with backoff := (s.head.recs.get c).backoff + 6 } s) :=
      hs.same rfl
    exact (keyed_setEvent c .backoff hraised).same rfl
  · exact keyed_setEvent c .guardLimit hs

theorem keyed_judgeWindow (c : Chan) (hs : Keyed s) : Keyed (judgeWindow c s) := by
  have hclip : Keyed (setEvent c .clip
      (putHead c { s.head.recs.get c with episodes := (s.head.recs.get c).episodes + 1 } s)) :=
    keyed_setEvent c .clip (hs.same rfl)
  unfold judgeWindow episode
  (repeat' split)
  exacts [keyed_raiseBackoff c hclip, hclip, hs]

theorem keyed_closeWindow (hs : Keyed s) : Keyed (closeWindow s) := by
  have hjudged : Keyed (forEach channels judgeWindow s) := keyed_forEach (fun c _ => keyed_judgeWindow c) hs
  unfold closeWindow
  generalize forEach channels judgeWindow s = u at hjudged ⊢
  exact hjudged.same rfl

theorem keyed_windowAtBlock (hs : Keyed s) : Keyed (windowAtBlock s) := by
  unfold windowAtBlock
  (repeat' split)
  exacts [hs, hs.same rfl, keyed_closeWindow hs]

/-! ## Links -/

theorem keyed_freeRoom (hs : Keyed s) : Keyed (freeRoom s) := by
  unfold freeRoom
  split
  exacts [keyed_askBox (hs.same rfl), hs]

theorem keyed_removeLinks (p : LinkEntry → Bool) (hs : Keyed s) : Keyed (removeLinks p s) := by
  unfold removeLinks
  split
  exacts [hs, keyed_freeRoom (hs.same rfl)]

theorem keyed_ageLinks (hs : Keyed s) : Keyed (ageLinks s) := keyed_removeLinks _ (hs.same rfl)

theorem keyed_storeLink (x : LinkEntry) (hs : Keyed s) : Keyed (storeLink x s) := by
  unfold storeLink
  (repeat' split)
  exacts [hs.same rfl, hs.same rfl, hs.same rfl, hs, keyed_askBox (hs.same rfl)]

theorem keyed_takeLink (source : Station) (group flags candidate locked backoff : Byte) (hs : Keyed s) :
    Keyed (takeLink source group flags candidate locked backoff s) := by
  unfold takeLink
  (repeat' split)
  exacts [keyed_storeLink _ hs, hs, hs, hs]

theorem used_of_groupDue {g : Group} (h : GroupDue s g) : s.used g = true := by
  obtain ⟨hne, c, hc, -⟩ := h
  simp only [State.used, Bool.and_eq_true, bne_iff_ne]
  exact ⟨hne, List.any_eq_true.mpr ⟨c, List.mem_finRange c, beq_iff_eq.mpr hc⟩⟩

/-- LINK keys of groups in use, asked for in rounds that leave the configuration (R80, R81). -/
theorem keyed_linkRounds {l : List Group} {g : Group → State → State} (hl : ∀ a ∈ l, s.used a = true)
    (hconfig : ∀ a t, (g a t).config = t.config) (hg : ∀ a t, t.used a = true → Keyed t → Keyed (g a t))
    (hs : Keyed s) : Keyed (forEach l g s) := by
  have hboth : Keyed (forEach l g s) ∧ (forEach l g s).config = s.config := by
    refine forEach_induct (P := fun t => Keyed t ∧ t.config = s.config) (fun a ha t ht => ?_) ⟨hs, rfl⟩
    obtain ⟨hkeyed, hsame⟩ := ht
    have hused : t.used a = true := (used_congr hsame a).trans (hl a ha)
    exact ⟨hg a t hused hkeyed, (hconfig a t).trans hsame⟩
  exact hboth.1

theorem keyed_updateAnnounce {g : Group} (hg : s.used g = true) (hs : Keyed s) : Keyed (updateAnnounce g s) := by
  unfold updateAnnounce
  split
  exacts [hs, keyed_ask hg (hs.same rfl)]

/-- R74, R80: the resolution asks for CHANNEL, and for LINK of groups that have a member. -/
theorem keyed_resolveAll (hs : Keyed s) : Keyed (resolveAll s) := by
  have hchannels : Keyed (channelsResolved s) := keyed_forEach (fun c _ => keyed_askChannel c) (hs.same rfl)
  have hused : ∀ g ∈ linkGroups.filter (groupResolved s), (channelsResolved s).used g = true := fun g hg =>
    (used_congr (by simp [channelsResolved]) g).trans (used_of_groupDue (mem_groupsResolved.mp hg))
  rw [resolveAll_eq]
  exact keyed_linkRounds hused (by simp) (fun _ _ => keyed_updateAnnounce) hchannels

/-- R81, R165: the schedule asks for LINK of groups in use alone. -/
theorem keyed_periodic (hs : Keyed s) : Keyed (periodic s) := by
  have hlinks : Keyed (forEach (linkSlots s s.timing.counter.toNat) (fun g => ask (.link g)) s) :=
    keyed_linkRounds (fun g hg => (mem_linkSlots.mp hg).1) (fun _ _ => rfl) (fun _ _ hg => keyed_ask hg) hs
  have hchannels := keyed_forEach (l := channels.filter fun c => refreshSlot c = s.timing.counter.toNat % 100)
    (fun c _ => keyed_askChannel c) hlinks
  unfold periodic
  dsimp only
  split
  exacts [keyed_askBox hchannels, hchannels]

/-! ## The step controller -/

theorem keyed_changeStep (c : Chan) (r : StepRec) (hs : Keyed s) : Keyed (changeStep c r s) := by
  have hput : Keyed (putStep c r s) := hs.same (by simp [keyRecords])
  unfold changeStep
  dsimp only
  split
  exacts [hput, keyed_askChannel c hput]

theorem keyed_mismatched (c : Chan) (r : StepRec) (hs : Keyed s) : Keyed (mismatched c r s) := by
  unfold mismatched enterFault
  split
  exacts [keyed_changeStep c _ hs, keyed_setEvent c .frontEndFault (keyed_changeStep c _ hs)]

theorem keyed_stepExchange (rb : Readback) (c : Chan) (target : Int) (r : StepRec) (hs : Keyed s) :
    Keyed (stepExchange rb c target r s) := by
  unfold stepExchange
  dsimp only
  split
  exacts [keyed_changeStep c _ hs, keyed_mismatched c _ hs]

theorem keyed_restoreWrite (rb : Readback) (c : Chan) (r : StepRec) (hs : Keyed s) :
    Keyed (restoreWrite rb c r s) := by
  unfold restoreWrite
  dsimp only
  split
  exacts [keyed_changeStep c _ hs, keyed_mismatched c _ hs]

theorem keyed_decideStep (rb : Readback) (c : Chan) (target : Int) (r : StepRec) (hs : Keyed s) :
    Keyed (decideStep rb c target r s) := by
  unfold decideStep
  (repeat' split)
  exacts [keyed_changeStep c r hs, keyed_changeStep c r hs, keyed_stepExchange rb c target r hs,
    keyed_restoreWrite rb c r hs, keyed_stepExchange rb c target r hs]

theorem keyed_retryExchange (rb : Readback) (c : Chan) (r : StepRec) (hs : Keyed s) :
    Keyed (retryExchange rb c r s) := by
  unfold retryExchange
  dsimp only
  split <;> exact keyed_changeStep c _ hs

theorem keyed_stepAtBlock (rb : Readback) (c : Chan) (hs : Keyed s) : Keyed (stepAtBlock rb c s) := by
  have hput (r : StepRec) : Keyed (putStep c r s) := hs.same (by simp [keyRecords])
  unfold stepAtBlock
  dsimp only
  (repeat' split)
  exacts [hput _, keyed_decideStep rb c _ _ hs, hput _, keyed_retryExchange rb c _ hs]

theorem keyed_compensate (c : Chan) (hs : Keyed s) : Keyed (compensate c s) := by
  unfold compensate
  dsimp only
  split
  exacts [keyed_askChannel c (hs.same (by simp [keyRecords])), hs]

theorem keyed_countDown (c : Chan) (hs : Keyed s) : Keyed (countDown c s) := by
  unfold countDown
  dsimp only
  (repeat' split)
  exacts [keyed_compensate c hs, hs.same (by simp [keyRecords]), hs]

theorem keyed_boxResetRetry (rb : Readback) (c : Chan) (hs : Keyed s) : Keyed (boxResetRetry rb c s) := by
  unfold boxResetRetry
  dsimp only
  (repeat' split)
  exacts [keyed_changeStep c _ hs, keyed_setEvent c .frontEndFault (hs.same (by simp [keyRecords])), hs]

/-! ## The timing unit -/

theorem keyed_retime (w : Timing) (hs : Keyed s) : Keyed (retime w s) := by
  unfold retime
  split
  exacts [hs.same rfl, keyed_askBox (hs.same rfl)]

theorem keyed_passTicks (d checked : Nat) (hs : Keyed s) : Keyed (passTicks d checked s) := by
  rw [passTicks_eq]
  exact keyed_retime _ hs

theorem keyed_takeMark (e : Int) (after : Bool) (hs : Keyed s) : Keyed (takeMark e after s) := by
  rw [takeMark_eq]
  exact keyed_retime _ hs

theorem keyed_toFree (hs : Keyed s) : Keyed (toFree s) := by
  rw [toFree_eq]
  exact keyed_retime _ hs

theorem keyed_whileRunning {f : State → State} (hf : Keyed (f s)) (hs : Keyed s) : Keyed (whileRunning f s) := by
  unfold whileRunning
  split
  exacts [hf, hs]

theorem keyed_markEvent (tick : Nat) (hs : Keyed s) : Keyed (markEvent tick s) := by
  refine keyed_whileRunning ?_ hs
  unfold markAt
  dsimp only
  split
  exacts [hs, keyed_takeMark _ _ (keyed_passTicks _ _ hs)]

theorem keyed_enterLockedAt (tick : Nat) (hs : Keyed s) : Keyed (enterLockedAt tick s) := by
  unfold enterLockedAt
  dsimp only
  split
  exacts [keyed_markEvent tick hs, hs]

theorem keyed_declareMissing (hs : Keyed s) : Keyed (declareMissing s) := by
  refine keyed_whileRunning ?_ hs
  split
  exacts [keyed_passTicks _ _ hs, hs]

theorem keyed_enterHoldoverBy (cause : BadMark) (hs : Keyed s) : Keyed (enterHoldoverBy cause s) := by
  unfold enterHoldoverBy
  dsimp only
  (repeat' split)
  exacts [keyed_markEvent _ hs, hs, keyed_declareMissing hs, hs]

theorem keyed_expireQuiet (hs : Keyed s) : Keyed (expireQuiet s) := by
  refine keyed_whileRunning ?_ hs
  split
  exacts [keyed_toFree (hs.same rfl), hs]

theorem keyed_releaseMark (hs : Keyed s) : Keyed (releaseMark s) := by
  refine keyed_whileRunning ?_ hs
  split
  exacts [keyed_passTicks _ _ hs, hs]

theorem keyed_driveMark (active : Bool) (hs : Keyed s) : Keyed (driveMark active s) := by
  unfold driveMark
  split
  exacts [keyed_takeMark 0 true (hs.same rfl), hs]

theorem keyed_endBlock (hs : Keyed s) : Keyed (endBlock s) :=
  (keyed_windowAtBlock (keyed_passTicks _ _ hs)).same rfl

theorem keyed_beginBlock (hs : Keyed s) : Keyed (beginBlock s) := by
  have hnext : Keyed { s with timing := nextBlock s.timing } := hs.same rfl
  unfold beginBlock
  dsimp only
  split
  exacts [keyed_toFree hnext, hnext]

/-! ## The phantom controller -/

theorem keyed_endSettle (c : Chan) (hs : Keyed s) : Keyed (endSettle c s) := by
  unfold endSettle
  dsimp only
  split
  exacts [keyed_movePhantom c _ _ hs, keyed_movePhantom c _ _ hs, hs, hs, hs, hs, hs]

theorem keyed_advanceSettle (c : Chan) (hs : Keyed s) : Keyed (advanceSettle c s) := by
  unfold advanceSettle
  dsimp only
  (repeat' split)
  exacts [hs, keyed_endSettle c hs, keyed_putPhantom c _ hs, hs]

theorem keyed_trip (c : Chan) (hs : Keyed s) : Keyed (trip c s) :=
  keyed_countPhantom c .short _ (keyed_movePhantom c _ _ hs)

theorem keyed_judgeShort (c : Chan) (hs : Keyed s) : Keyed (judgeShort c s) := by
  unfold judgeShort
  dsimp only
  (repeat' split)
  exacts [keyed_putPhantom c _ hs, keyed_trip c hs, keyed_putPhantom c _ hs]

theorem keyed_shed (cause : OffCause) (c : Chan) (hs : Keyed s) : Keyed (shed cause c s) :=
  keyed_countPhantom c .shed _ (keyed_movePhantom c _ _ hs)

theorem keyed_shedToFit (n : Nat) (hs : Keyed s) : Keyed (shedToFit n s) := by
  induction n generalizing s with
  | zero => exact hs
  | succ n ih =>
    unfold shedToFit
    (repeat' split)
    exacts [hs, ih (keyed_shed .shedBudget _ hs), hs]

theorem keyed_changeBank (hs : Keyed s) : Keyed (changeBank s) := keyed_shedToFit 32 (keyed_askBox (hs.same rfl))

theorem keyed_advanceLines (hs : Keyed s) : Keyed (advanceLines s) := by
  unfold advanceLines
  dsimp only
  split
  exacts [keyed_changeBank (hs.same rfl), hs.same rfl]

theorem keyed_shedForLoad (hs : Keyed s) : Keyed (shedForLoad s) := by
  have hcleared : Keyed { s with phantom := { s.phantom with overload := 0 } } := hs.same rfl
  unfold shedForLoad
  dsimp only
  split
  exacts [keyed_shed .shedLoad _ hcleared, hcleared]

theorem keyed_judgeOverload (hs : Keyed s) : Keyed (judgeOverload s) := by
  unfold judgeOverload
  (repeat' split)
  exacts [hs, hs.same rfl, keyed_shedForLoad hs, hs.same rfl]

theorem keyed_considerChannel (c : Chan) (hs : Keyed s) : Keyed (considerChannel c s) := by
  unfold considerChannel powerUp passOver
  dsimp only
  (repeat' split)
  exacts [keyed_putPhantom c _ (keyed_movePhantom c _ _ hs), keyed_countPhantom c .denied _ hs, hs]

theorem keyed_phantomAtBlock (m : Tab Nat 32) (hs : Keyed s) : Keyed (phantomAtBlock m s) := by
  have hread : Keyed (readMonitors m s) := hs.same rfl
  have hsettled := keyed_forEach (l := channels) (fun c _ => keyed_advanceSettle c) hread
  have hjudged := keyed_forEach (l := channels) (fun c _ => keyed_judgeShort c) hsettled
  exact keyed_forEach (fun c _ => keyed_considerChannel c) (keyed_judgeOverload (keyed_advanceLines hjudged))

theorem keyed_settleEnd (c : Chan) (hs : Keyed s) : Keyed (settleEnd c s) := by
  refine keyed_whileRunning ?_ hs
  (repeat' split)
  exacts [keyed_endSettle c hs, hs, hs]

theorem keyed_shortTrip (c : Chan) (hs : Keyed s) : Keyed (shortTrip c s) := by
  refine keyed_whileRunning ?_ hs
  dsimp only
  split
  exacts [(keyed_trip c hs).same rfl, hs]

theorem keyed_shedLoad (hs : Keyed s) : Keyed (shedLoad s) := by
  have hshed : Keyed (shedForLoad { s with ahead := .overload :: s.ahead }) := keyed_shedForLoad (hs.same rfl)
  refine keyed_whileRunning ?_ hs
  split
  exacts [hs, hshed.same rfl]

theorem keyed_bankChange (hs : Keyed s) : Keyed (bankChange s) := by
  have hchanged : Keyed (changeBank { s with phantom := { s.phantom with lineQuiet := 20 } }) :=
    keyed_changeBank (hs.same rfl)
  refine keyed_whileRunning ?_ hs
  split
  exacts [hchanged.same rfl, hs]

theorem keyed_powerGoodChange (mainGood auxGood : Bool) (hs : Keyed s) :
    Keyed (powerGoodChange mainGood auxGood s) := by
  unfold powerGoodChange
  split
  exacts [hs, hs.same rfl]

end Sys2Proof.Proofs
end

section
/-! Every command keeps the key law (R162 to R165, R171): outcomes go to the stations whose requests are heard and to the
owner of the batch, none of them the part itself, and an attempt is for a key of the list. -/

namespace Sys2Proof.Proofs

open Sys2Proof.Machine Sys2Proof.Laws

variable {s : State} {e : Envelope}

/-! ## The pair -/

/-- The pair without an attempt in progress. -/
theorem keyed_pair {p : Pair} (hp : attempted p = none) (hs : Keyed s) :
    Keyed { s with link := { s.link with pair := p } } :=
  ⟨hs.nodup, hs.allowed, fun _ hk => absurd (hp.symm.trans hk) nofun, hs.slot, hs.owner⟩

theorem keyed_messageEnded (hs : Keyed s) : Keyed (messageEnded s) := keyed_pair (p := .ended) rfl hs

theorem keyed_discardReception (cause : ReceptionFault) (hs : Keyed s) : Keyed (discardReception cause s) := by
  cases cause <;> exact (keyed_pair (s := s) rfl hs).same rfl

theorem keyed_receptionDiscarded (cause : ReceptionFault) (hs : Keyed s) : Keyed (receptionDiscarded cause s) := by
  unfold receptionDiscarded
  split
  exacts [keyed_discardReception cause hs, hs]

theorem keyed_pairIdle (hs : Keyed s) : Keyed (pairIdle s) := by
  unfold pairIdle
  (repeat' split)
  exacts [keyed_pair rfl hs, keyed_pair rfl hs, keyed_discardReception .earlyIdle hs, hs, hs, hs]

theorem mem_of_firstKey {l : List Key} {k : Key} (h : firstKey l = some k) : k ∈ l := by
  simp only [firstKey, Option.or_eq_some_iff] at h
  obtain h | ⟨-, h | ⟨-, h | ⟨-, h⟩⟩⟩ := h
  all_goals exact List.mem_of_find?_eq_some h

/-- R5, R163: an attempt is for a key of the list. -/
theorem keyed_beginAttempt (hs : Keyed s) : Keyed (beginAttempt s) := by
  unfold beginAttempt
  split
  · next k hk =>
    have hsnap : (snapshot s k).key = k := by cases k <;> rfl
    refine ⟨hs.nodup, hs.allowed, fun k' hk' => ?_, hs.slot, hs.owner⟩
    obtain rfl : (snapshot s k).key = k' := Option.some.inj hk'
    rw [hsnap]
    exact hs.allowed k (mem_of_firstKey hk)
  · exact hs

theorem keyed_transmissionAttempt (hs : Keyed s) : Keyed (transmissionAttempt s) := by
  unfold transmissionAttempt
  split
  exacts [keyed_beginAttempt hs, hs]

theorem keyed_whileSending {f : Sending → State → State} (hf : ∀ x, s.link.pair = .sending x → Keyed (f x s))
    (hs : Keyed s) : Keyed (whileSending f s) := by
  refine keyed_whileRunning ?_ hs
  split
  · next x hx => exact hf x hx
  · exact hs

theorem keyed_keyTaken (k : Key) (hs : Keyed s) : Keyed (keyTaken k s) :=
  ⟨hs.nodup.filter _, fun _ hk => hs.allowed _ (List.mem_of_mem_filter hk), nofun, hs.slot, hs.owner⟩

/-- R163: the REPLY of a newer outcome is asked for again, and another station's slot may be emptied. -/
theorem keyed_clearSent {x : Sending} (hx : KeyAllowed s x.snap.key) (hs : Keyed s) : Keyed (clearSent x s) := by
  unfold clearSent
  split
  · exact hs.same rfl
  · exact hs.same rfl
  · next st hst =>
    rw [hst] at hx
    split
    · exact keyed_ask hx hs
    · exact ⟨hs.nodup, hs.allowed, hs.attempt, (get_set_of_ne _ _ (Ne.symm hx)).trans hs.slot, hs.owner⟩
  · exact hs

theorem keyed_messageSent (hs : Keyed s) : Keyed (messageSent s) :=
  keyed_whileSending (fun x hx => keyed_clearSent
    (hs.attempt x.snap.key (attempted_eq_some.mpr ⟨x, hx, rfl⟩)) (keyed_keyTaken x.snap.key hs)) hs

/-! ## Hearing -/

theorem keyed_recordHearing (st : Station) (role : Role) (hs : Keyed s) : Keyed (recordHearing st role s) := by
  unfold recordHearing
  dsimp only
  split
  exacts [keyed_setFeeds _ (hs.same rfl), keyed_setFeeds _ (hs.same rfl), hs.same rfl]

/-- R11: what follows from the kind is done for a message from another station. -/
theorem keyed_hear {st : Station} {role : Role} {k : State → State} (hk : ∀ t, st ≠ t.own → Keyed t → Keyed (k t))
    (hs : Keyed s) : Keyed (hear st role k s) := by
  have hended := keyed_messageEnded hs
  unfold hear
  (repeat' split)
  · exact hended.same rfl
  · next hne => exact hk _ (by simpa using hne) (keyed_recordHearing st role hended)
  · exact hs

theorem keyed_request {k : State → State} (hk : ∀ t, e.source ≠ t.own → Keyed t → Keyed (k t)) (hs : Keyed s) :
    Keyed (request e k s) :=
  keyed_hear (fun t he ht => by split; exacts [hk t he ht, ht]) hs

theorem keyed_withHolder {kind feed : Byte} {k : Feed → State → State} (hk : ∀ f, Keyed (k f s))
    (he : e.source ≠ s.own) (hs : Keyed s) : Keyed (withHolder e kind feed k s) := by
  unfold withHolder
  (repeat' split)
  exacts [hk _, keyed_answer kind .notHolder he hs, keyed_answer kind .notHolder he hs]

/-! ## Requests for feeds, entries, locks, guards and tones -/

theorem keyed_modPath (f : Feed) (g : FeedPath → FeedPath) (hs : Keyed s) : Keyed (modPath f g s) := hs.same rfl

theorem keyed_bindFeed (f : Feed) (b : Binding) (hs : Keyed s) : Keyed (bindFeed f b s) := keyed_setFeeds _ hs

theorem keyed_takeClaim (feed : Byte) (before : Tab FeedRec 6) (he : e.source ≠ s.own) (hs : Keyed s) :
    Keyed (takeClaim e feed before s) := by
  have hbound (f : Feed) (b : Binding) (a : Answer) : Keyed (place e.source a (bindFeed f b s)) :=
    keyed_place a (by simpa using he) (keyed_bindFeed f b hs)
  unfold takeClaim
  (repeat' split)
  exacts [keyed_answer 2 .noFeed he hs, keyed_answer 2 .noFeed he hs, hbound _ _ _, keyed_place _ he hs,
    keyed_place _ he hs, hbound _ _ _, hbound _ _ _]

/-- R39, R40: a release asks for its keys and places no outcome of its own. -/
theorem keyed_releaseFeed (f : Feed) (hs : Keyed s) : Keyed (releaseFeed f s) := by
  have hremoved : Keyed (removeFeedEntries f (bindFeed f .free s)) :=
    keyed_forEach (fun c _ => keyed_removeEntry f c) (keyed_bindFeed f .free hs)
  have hopened := keyed_forEach (l := channels) (fun c _ => keyed_openHeld (fun g => g == f) c) hremoved
  exact keyed_discardBatch _ (keyed_modPath f emptyTone hopened)

theorem keyed_takeRelease (feed : Byte) (he : e.source ≠ s.own) (hs : Keyed s) : Keyed (takeRelease e feed s) :=
  keyed_withHolder (fun f => keyed_answer 3 .done (by simpa using he) (keyed_releaseFeed f hs)) he hs

theorem keyed_writeChannel (f : Feed) (w : DemandWrite) (blk : Word16) (c : Chan) (hs : Keyed s) :
    Keyed (writeChannel f w blk c s) :=
  keyed_putEntry f _ c hs

theorem keyed_takeSetDemand (feed first last flags gain : Byte) (he : e.source ≠ s.own) (hs : Keyed s) :
    Keyed (takeSetDemand e feed first last flags gain s) := by
  have hrange := keyed_answer 4 .badRange he hs
  refine keyed_withHolder (fun f => ?_) he hs
  (repeat' split)
  · next m p _ _ =>
    have hwritten := keyed_forEach (l := rangeOf first last)
      (fun c _ => keyed_writeChannel f ⟨gainOf flags gain, m, p⟩ s.timing.counter c) hs
    exact keyed_noticeBatch f e.source (keyed_place _ (by simpa using he) hwritten)
  all_goals exact hrange

theorem keyed_takeClearDemand (feed first last : Byte) (he : e.source ≠ s.own) (hs : Keyed s) :
    Keyed (takeClearDemand e feed first last s) := by
  refine keyed_withHolder (fun f => ?_) he hs
  split
  · have hremoved := keyed_forEach (l := rangeOf first last) (fun c _ => keyed_removeEntry f c) hs
    exact keyed_noticeBatch f e.source (keyed_answer 5 .done (by simpa using he) hremoved)
  · exact keyed_answer 5 .badRange he hs

/-- R117, R120: a range that passes has its locks set, one after the other. -/
theorem keyed_lockPass (kind : Byte) (f : Feed) (unlocking : Bool) (cs : List Chan) {l : Chan → State → Lock}
    (he : e.source ≠ s.own) (hs : Keyed s) :
    Keyed (lockPass e kind f unlocking cs (fun c t => setLock c (l c t) t) s) := by
  have hown : (forEach cs (fun c t => setLock c (l c t) t) s).own = s.own :=
    forEach_keeps State.own (fun c t => by simp) s
  have hlocked := keyed_forEach (l := cs) (fun c t => keyed_setLock c (l c t)) hs
  unfold lockPass
  split
  exacts [keyed_place _ he hs, keyed_answer kind .done (hown ▸ he) hlocked]

theorem keyed_takeLock (feed first last mode : Byte) (he : e.source ≠ s.own) (hs : Keyed s) :
    Keyed (takeLock e feed first last mode s) := by
  have hrange := keyed_answer 6 .badRange he hs
  refine keyed_withHolder (fun f => ?_) he hs
  (repeat' split)
  exacts [keyed_lockPass 6 f false _ he hs, hrange, hrange]

theorem keyed_takeUnlock (feed first last : Byte) (he : e.source ≠ s.own) (hs : Keyed s) :
    Keyed (takeUnlock e feed first last s) := by
  refine keyed_withHolder (fun f => ?_) he hs
  split
  exacts [keyed_lockPass 7 f true _ he hs, keyed_answer 7 .badRange he hs]

theorem keyed_takeHeadroomReset (feed first last : Byte) (he : e.source ≠ s.own) (hs : Keyed s) :
    Keyed (takeHeadroomReset e feed first last s) := by
  refine keyed_withHolder (fun f => ?_) he hs
  split
  · have hcleared := keyed_forEach (l := rangeOf first last) (g := clearBackoff) (fun c t ht => ht.same rfl) hs
    exact keyed_answer 8 .done (by simpa using he) hcleared
  · exact keyed_answer 8 .badRange he hs

theorem keyed_takeTone (feed first last state : Byte) (he : e.source ≠ s.own) (hs : Keyed s) :
    Keyed (takeTone e feed first last state s) := by
  refine keyed_withHolder (fun f => ?_) he hs
  (repeat' split)
  · next on _ =>
    exact keyed_answer 9 .done he (keyed_modPath f (setTone first last on) hs)
  all_goals exact keyed_answer 9 .badRange he hs

/-! ## The batch buffer -/

/-- R153: the owner of a batch is the station that opens it. -/
theorem keyed_takeOpen (feed count : Byte) (he : e.source ≠ s.own) (hs : Keyed s) :
    Keyed (takeOpen e feed count s) := by
  have hbusy := keyed_answer 10 .busy he hs
  refine keyed_withHolder (fun f => ?_) he hs
  have hopen : Keyed (openBatch e f count s) :=
    keyed_answer 10 .done he (keyed_setBatch (fun b hb => by cases hb; exact he) hs)
  unfold decideOpen
  (repeat' split)
  exacts [hopen, hopen, hbusy, hbusy, keyed_answer 10 .badRange he hs]

/-- R154: an accepted entry hands over no outcome, and the batch keeps its owner. -/
theorem keyed_takeEntry (feed chan flags gain : Byte) (he : e.source ≠ s.own) (hs : Keyed s) :
    Keyed (takeEntry e feed chan flags gain s) := by
  have hother := keyed_answer 11 .notOwner he hs
  have hbotched : Keyed (botchEntry e s) := keyed_answer 11 .sequence he (keyed_dropBatch .botched hs)
  unfold takeEntry
  (repeat' split)
  · exact keyed_answer 11 .noBatch he hs
  · next howner _ _ _ =>
    exact ⟨hs.nodup, hs.allowed, hs.attempt, hs.slot, fun b hb => by cases hb; exact howner ▸ he⟩
  exacts [hbotched, hother, hbotched, hother]

theorem keyed_takeCommit (he : e.source ≠ s.own) (hs : Keyed s) : Keyed (takeCommit e s) := by
  have hother := keyed_answer 12 .notOwner he hs
  unfold takeCommit
  (repeat' split)
  · exact keyed_answer 12 .noBatch he hs
  · next howner _ =>
    have hcommitted := keyed_setBatch (r := .committing _) (fun b hb => by cases hb; exact howner ▸ he) hs
    exact keyed_place _ he hcommitted
  exacts [keyed_answer 12 .shortBatch he (keyed_dropBatch .botched hs), hother, keyed_place _ he hs, hother]

theorem keyed_takeCancel (he : e.source ≠ s.own) (hs : Keyed s) : Keyed (takeCancel e s) := by
  unfold takeCancel
  (repeat' split)
  exacts [keyed_answer 13 .noBatch he hs, keyed_answer 13 .done he (keyed_setBatch (r := .idle) nofun hs),
    keyed_answer 13 .notOwner he hs]

theorem keyed_writeBatch (b : BatchBody) (blk : Word16) (hs : Keyed s) : Keyed (writeBatch b blk s) :=
  keyed_dropBatch .committed (keyed_forEach (fun i _ => keyed_writeChannel b.feed _ blk i.chan) hs)

/-- R164: TIMED OUT is placed in the slot of the batch's owner. -/
theorem keyed_timeOut {b : BatchBody} (hb : s.batch.record.body = some b) (hs : Keyed s) : Keyed (timeOut b s) :=
  keyed_place _ (hs.owner b hb) (keyed_dropBatch .timedOut hs)

theorem keyed_batchAtBlock (hs : Keyed s) : Keyed (batchAtBlock s) := by
  unfold batchAtBlock
  (repeat' split)
  · exact hs
  · next b age hr _ =>
    exact ⟨hs.nodup, hs.allowed, hs.attempt, hs.slot, fun x hx => hs.owner x (by rw [hr]; exact hx)⟩
  · next hr _ => exact keyed_timeOut (by rw [hr]; rfl) hs
  · exact keyed_writeBatch _ _ hs

theorem keyed_batchWrite (hs : Keyed s) : Keyed (batchWrite s) := by
  unfold batchWrite
  (repeat' split)
  exacts [keyed_writeBatch _ _ hs, hs, hs, hs]

theorem keyed_batchTimeout (hs : Keyed s) : Keyed (batchTimeout s) := by
  unfold batchTimeout
  (repeat' split)
  · exact hs
  · next hr _ => exact keyed_timeOut (by rw [hr]; rfl) hs
  all_goals exact hs

/-! ## Losses and the box reset -/

theorem keyed_loseStation (st : Station) (role : Role) (hs : Keyed s) : Keyed (loseStation st role s) := by
  have hlost : Keyed (withLost st role s) := hs.same rfl
  cases role with
  | desk => exact keyed_discardBatch _ (keyed_setFeeds _ hlost)
  | box => exact keyed_removeLinks _ hlost

theorem keyed_ageStation (st : Station) (hs : Keyed s) : Keyed (ageStation st s) := by
  unfold ageStation
  (repeat' split)
  exacts [hs.same rfl, keyed_loseStation st _ hs, hs, hs, hs]

theorem keyed_stationLoss (st : Station) (hs : Keyed s) : Keyed (stationLoss st s) := by
  refine keyed_whileRunning ?_ hs
  (repeat' split)
  exacts [hs, keyed_loseStation st _ hs, hs, hs, hs]

/-- R171: the list and the slots are emptied, and BOX is queued. -/
theorem keyed_resetReport (hs : Keyed s) : Keyed (resetReport s) := by
  have hempty : Keyed { s with report := { s.report with keys := [], slots := Tab.const none } } :=
    ⟨List.nodup_nil, fun _ hk => absurd hk List.not_mem_nil, hs.attempt, get_const _ _, hs.owner⟩
  exact keyed_askBox hempty

theorem keyed_pathsMap (g : FeedPath → FeedPath) (hs : Keyed s) : Keyed { s with paths := s.paths.map g } := hs.same rfl

/-- R171, R177: what the other blocks ask for comes after the emptying. -/
theorem keyed_resetBlocks (rb : Readback) (hs : Keyed s) : Keyed (resetBlocks rb s) := by
  have hforgotten : Keyed { resetReport s with
      link := { (resetReport s).link with stations := (resetReport s).link.stations.map Presence.forget } } :=
    (keyed_resetReport hs).same rfl
  unfold resetBlocks
  refine keyed_discardBatch _ (keyed_pathsMap emptyTone ?_)
  refine keyed_forEach (fun c _ => keyed_boxResetRetry rb c) (keyed_forEach (fun c _ => keyed_resetHead c) ?_)
  refine keyed_forEach (fun c _ => keyed_openHeld _ c) (keyed_freeRoom (keyed_removeLinks _ ?_))
  exact keyed_setFeeds _ hforgotten

theorem keyed_takeBoxReset (rb : Readback) (he : e.source ≠ s.own) (hs : Keyed s) : Keyed (takeBoxReset e rb s) := by
  unfold takeBoxReset
  split
  exacts [keyed_answer 14 .done (by simpa using he) (keyed_resetBlocks rb hs), keyed_answer 14 .notHolder he hs]

/-! ## Samples, windows, retries and lines -/

theorem keyed_withRows (frame : Tab Sample 32) (hs : Keyed s) : Keyed (withRows frame s) := hs.same rfl

theorem keyed_samplePeriod (frame : Tab Sample 32) (hs : Keyed s) : Keyed (samplePeriod frame s) := by
  have hcounted : Keyed (stepsCounted s) := keyed_forEach (fun c _ => keyed_countDown c) (keyed_passTicks _ _ hs)
  unfold samplePeriod
  split
  · rw [sampleWork_eq]
    exact keyed_withRows frame hcounted
  · exact hs

theorem keyed_compensation (c : Chan) (hs : Keyed s) : Keyed (compensation c s) := by
  unfold compensation
  (repeat' split)
  exacts [keyed_compensate c hs, hs, hs, hs]

theorem keyed_retryWrite (c : Chan) (code : Byte) (hs : Keyed s) : Keyed (retryWrite c code s) := by
  unfold retryWrite
  (repeat' split)
  exacts [hs, keyed_retryExchange _ c _ (hs.same rfl), hs, hs]

theorem keyed_windowClose (hs : Keyed s) : Keyed (windowClose s) := by
  unfold windowClose
  split
  exacts [keyed_closeWindow (hs.same rfl), hs]

theorem keyed_lineChange (f : Feed) (up : Bool) (hs : Keyed s) : Keyed (lineChange f up s) := by
  have hchanged := keyed_setFeeds (s.feeds.set f { s.feeds.get f with lineUp := up }) hs
  unfold lineChange
  dsimp only
  (repeat' split)
  exacts [hchanged, keyed_modPath f lineDown hchanged, hs]

/-! ## Block starts and starts -/

theorem keyed_stationsAndBatch (hs : Keyed s) : Keyed (stationsAndBatch s) := by
  have hages {t : State} : Keyed t → Keyed (ageStations t) := keyed_forEach fun st _ => keyed_ageStation st
  unfold stationsAndBatch
  dsimp only
  split
  exacts [keyed_batchAtBlock (hages (hs.same rfl)), hages (keyed_batchAtBlock (hs.same rfl))]

theorem keyed_clearAhead (hs : Keyed s) : Keyed (clearAhead s) := hs.same rfl

theorem keyed_blockTasks (i : BlockInputs) (hs : Keyed s) : Keyed (blockTasks i s) := by
  have haged := keyed_ageLinks (keyed_stationsAndBatch (keyed_driveMark i.markLine hs))
  have hviewed : Keyed (presentView (ageLinks (stationsAndBatch (driveMark i.markLine s)))) := haged.same rfl
  have hstepped := keyed_forEach (l := channels) (fun c _ => keyed_stepAtBlock i.readback c) (keyed_resolveAll hviewed)
  exact keyed_phantomAtBlock i.monitors hstepped

theorem keyed_blockStart (i : BlockInputs) (hs : Keyed s) : Keyed (blockStart i s) :=
  keyed_whileRunning (keyed_clearAhead (keyed_periodic
    (keyed_blockTasks (inputsAt i s.timing) (keyed_beginBlock (keyed_endBlock hs))))) hs

theorem keyed_startUpEnd (mainGood auxGood : Bool) (lines : Tab Bool 6) (i : BlockInputs) (hs : Keyed s) :
    Keyed (startUpEnd mainGood auxGood lines i s) := by
  have hrunning : Keyed (startRunning mainGood auxGood lines s) := keyed_askBox (hs.same rfl)
  unfold startUpEnd
  split
  exacts [keyed_clearAhead (keyed_blockTasks i hrunning), hs]

/-- R170: after a start no key is queued, nothing is being sent, and no outcome and no batch stand. -/
theorem keyed_start {t : State} (hreport : t.report = .start) (hpair : t.link.pair = .waiting)
    (hrecord : t.batch.record = .idle) : Keyed t := by
  refine ⟨?_, ?_, ?_, ?_, ?_⟩
  · rw [hreport]
    exact List.nodup_nil
  · rw [hreport]
    exact fun _ hk => absurd hk List.not_mem_nil
  · rw [hpair]
    exact nofun
  · rw [hreport]
    exact get_const _ _
  · rw [hrecord]
    exact nofun

/-! ## Every command -/

theorem exec_keyed (c : Instr) {s t : State} (hs : Keyed s) (h : exec c s = .next t) : Keyed t := by
  have next {u : State} (h : Host.Outcome.next (φ := Fault) (ρ := Refusal) u = .next t) (hu : Keyed u) : Keyed t :=
    Host.Outcome.next.inj h ▸ hu
  have presence {st : Station} {role : Role} : Keyed (heardOnly st role s) := keyed_hear (fun _ _ => id) hs
  cases c with
  | powerOn i => exact next h (keyed_start rfl rfl rfl)
  | resetLine i => exact next h (keyed_start rfl rfl rfl)
  | resetLineHeld => exact next h (keyed_start rfl rfl rfl)
  | startUpEnd mg ag lines i => exact next h (keyed_startUpEnd mg ag lines i hs)
  | blockStart i => exact next h (keyed_blockStart i hs)
  | presence e => exact next h presence
  | reply e => exact next h presence
  | channelState e => exact next h presence
  | boxState e => exact next h presence
  | invalidMessage st kind => exact next h (keyed_hear (fun _ _ ht => ht.same (by rfl)) hs)
  | linkCandidate e g fl ca lo ba =>
    exact next h (keyed_hear (fun _ _ => keyed_takeLink e.source g fl ca lo ba) hs)
  | claim e f => exact next h (keyed_request (fun _ => keyed_takeClaim f s.feeds) hs)
  | release e f => exact next h (keyed_request (fun _ => keyed_takeRelease f) hs)
  | setDemand e f a b fl g => exact next h (keyed_request (fun _ => keyed_takeSetDemand f a b fl g) hs)
  | clearDemand e f a b => exact next h (keyed_request (fun _ => keyed_takeClearDemand f a b) hs)
  | lock e f a b m => exact next h (keyed_request (fun _ => keyed_takeLock f a b m) hs)
  | unlock e f a b => exact next h (keyed_request (fun _ => keyed_takeUnlock f a b) hs)
  | headroomReset e f a b => exact next h (keyed_request (fun _ => keyed_takeHeadroomReset f a b) hs)
  | tone e f a b st => exact next h (keyed_request (fun _ => keyed_takeTone f a b st) hs)
  | batchOpen e f n => exact next h (keyed_request (fun _ => keyed_takeOpen f n) hs)
  | batchEntry e f c fl g => exact next h (keyed_request (fun _ => keyed_takeEntry f c fl g) hs)
  | batchCommit e => exact next h (keyed_request (fun _ => keyed_takeCommit) hs)
  | batchCancel e => exact next h (keyed_request (fun _ => keyed_takeCancel) hs)
  | boxReset e rb => exact next h (keyed_request (fun _ => keyed_takeBoxReset rb) hs)
  | receptionDiscarded cause => exact next h (keyed_receptionDiscarded cause hs)
  | transmissionAttempt => exact next h (keyed_transmissionAttempt hs)
  | lostAttempt bytes => exact next h (keyed_whileSending (fun _ _ => keyed_pair (by rfl) hs) hs)
  | transmissionFault =>
    exact next h (keyed_whileSending (fun _ _ => (keyed_pair (p := .waiting) rfl hs).same rfl) hs)
  | messageSent => exact next h (keyed_messageSent hs)
  | pairIdle => exact next h (keyed_pairIdle hs)
  | batchWrite => exact next h (keyed_batchWrite hs)
  | batchTimeout => exact next h (keyed_batchTimeout hs)
  | samplePeriod frame => exact next h (keyed_samplePeriod frame hs)
  | compensation c => exact next h (keyed_compensation c hs)
  | retryWrite c code => exact next h (keyed_retryWrite c code hs)
  | windowClose => exact next h (keyed_windowClose hs)
  | markEvent tick => exact next h (keyed_markEvent tick hs)
  | enterLocked tick => exact next h (keyed_enterLockedAt tick hs)
  | enterHoldover cause => exact next h (keyed_enterHoldoverBy cause hs)
  | missingMark => exact next h (keyed_declareMissing hs)
  | quietCountExpiry => exact next h (keyed_expireQuiet hs)
  | markLineRelease => exact next h (keyed_releaseMark hs)
  | stationLoss st => exact next h (keyed_stationLoss st hs)
  | linkEntryExpiry g source => exact next h (keyed_whileRunning (keyed_removeLinks _ hs) hs)
  | settleEnd c => exact next h (keyed_settleEnd c hs)
  | shortTrip c => exact next h (keyed_shortTrip c hs)
  | shedLoad => exact next h (keyed_shedLoad hs)
  | bankChange => exact next h (keyed_bankChange hs)
  | powerGoodChange mg ag => exact next h (keyed_powerGoodChange mg ag hs)
  | portLineChange f up => exact next h (keyed_whileRunning (keyed_lineChange f up hs) hs)
  | feedBlockSent f => exact next h (keyed_whileRunning (hs.same (by rfl)) hs)

/-- Settles O5: a step on an empty queue idles, and any other runs one command. -/
theorem stepKeepsKeyLaw : Obligations.StepKeepsKeyLaw := by
  intro s t hs h
  rw [keyLaw_iff] at hs ⊢
  unfold step at h
  split at h
  · exact Host.Outcome.next.inj h ▸ hs
  · next c rest _ =>
    have hrest : Keyed { s with pending := rest } := hs.same rfl
    exact exec_keyed c hrest h

end Sys2Proof.Proofs
end

section
/-! The configuration image (R174 to R176, R181), and the part before it runs (R172, R173): what each start sets, how
the reset state stands, and that until start-up ends nothing else acts. -/

namespace Sys2Proof.Proofs

open Sys2Proof.Machine Sys2Proof.Laws

variable {s : State} {image : List Byte}

/-! ## Starts and the reset state -/

/-- R172: in start-up and under the held line every record stands as power-on sets it. -/
theorem asAtPowerOn_start {phase : Phase} (hphase : (phase == .running) = false) (own : Station) (cfg : Configuration)
    (mainGood auxGood : Bool) (seed : Nat) (pending : List Instr) :
    AsAtPowerOn (State.start phase own cfg mainGood auxGood seed pending) := by
  have hlines : (State.start phase own cfg mainGood auxGood seed pending).running = false := hphase
  refine ⟨⟨rfl, rfl, rfl, get_gen _⟩, ⟨rfl, rfl, rfl, rfl, rfl, rfl, rfl, rfl, rfl, rfl, rfl, rfl, rfl⟩, fun f => ?_,
    fun c => ?_, fun c => ?_, ⟨rfl, rfl, get_const _⟩, fun c => ?_, fun f => ?_, ⟨rfl, get_const _⟩, get_const _, rfl,
    ⟨rfl, get_const _, get_const _⟩, ?_, ?_, ?_, rfl⟩
  · exact congrArg FeedRec.binding (get_map _ _ f)
  · simp [State.start, DemandRec.start, noEntries]
  · simp [State.start, GainResolver.start, ResRec.start]
  · simp [State.start, StepRec.start]
  · simp [State.start, FeedPath.start, noFlags]
  · rw [State.lockLine, hlines, Bool.false_and]
  · rw [State.alertLine, hlines, Bool.false_and]
  · rw [State.activeLine, hlines, Bool.false_and]

/-- R98: the start write of code 0 counts a mismatch where another code is read back. -/
theorem startWrite_mismatch (rb : Readback) (c : Chan) :
    (startWrite rb c).mismatch = if readsBack rb c 0 = 0 then 0 else 1 := by
  unfold startWrite
  split
  · next h => exact (if_pos (beq_iff_eq.mp h)).symm
  · next h => exact (if_neg fun hzero => h (beq_iff_eq.mpr hzero)).symm

/-- At reset and under the held line no start write has mismatched (R98). -/
theorem start_mismatch (phase : Phase) (own : Station) (cfg : Configuration) (mainGood auxGood : Bool) (seed : Nat)
    (pending : List Instr) (c : Chan) :
    ((State.start phase own cfg mainGood auxGood seed pending).steps.get c).mismatch = 0 :=
  congrArg StepRec.mismatch (get_const StepRec.start c)

/-- Settles O3: the reset state is a start with straps 0 and the defaults. -/
theorem resetStandsAsAtPowerOn : Obligations.ResetStandsAsAtPowerOn :=
  ⟨asAtPowerOn_start rfl _ _ _ _ _ _, rfl, start_mismatch _ _ _ _ _ _ _⟩

/-- Settles O17: POWER_ON and RESET_LINE have one meaning, and the held line differs in the phase, the own number and
the configuration. -/
theorem startsSetEveryRecord : Obligations.StartsSetEveryRecord := by
  refine ⟨fun i s => ?_, fun s =>
    ⟨holdReset s, rfl, rfl, asAtPowerOn_start rfl _ _ _ _ _ _, start_mismatch _ _ _ _ _ _ _⟩⟩
  obtain ⟨hphase, hstands⟩ := beginStart_asAtPowerOn i s
  refine ⟨beginStart i s, rfl, rfl, hphase, rfl, rfl, hstands, fun c => ?_, rfl, rfl⟩
  rw [← startWrite_mismatch]
  exact congrArg StepRec.mismatch (get_gen _ c)

/-! ## The image -/

/-- R174: the loader's check and the four checks on the bytes as they are read. -/
theorem imageOk_iff : imageOk image = true ↔ ImageGood image := by
  have hbody : (imageRead image).take 52 = (List.range 52).map (imageByte image) := by
    rw [imageRead, ← List.map_take, List.take_range, Nat.min_eq_left (by decide)]
  simp only [imageOk, ImageGood, ofBe16, hbody, Bool.and_eq_true, beq_iff_eq, and_assoc]

/-- R178: the value of two bytes, most significant first. -/
theorem ofBe16_toNat (hi lo : Byte) : (ofBe16 hi lo).toNat = 256 * hi.toNat + lo.toNat := by
  have hlo : lo.toNat < 2 ^ 8 := lo.isLt
  rw [ofBe16, BitVec.toNat_append, ← Nat.shiftLeft_add_eq_or_of_lt hlo, Nat.shiftLeft_eq, Nat.mul_comm]

theorem limitField_zero (hi n : Nat) : limitField 0 hi n = min hi n := Nat.zero_max _

/-- R175, R181: a two-bit code of a channel byte, by its value. -/
theorem priorityOf_eq (b : Byte) : priorityOf (b.extractLsb' 2 2)
    = if b.toNat / 4 % 4 = 0 then .critical else if b.toNat / 4 % 4 = 1 then .high else .low := by
  simp [priorityOf, ← BitVec.toNat_inj, BitVec.extractLsb'_toNat, Nat.shiftRight_eq_div_pow]

theorem guardOf_eq (b : Byte) : guardOf (b.extractLsb' 0 2)
    = if b.toNat % 4 = 0 then .off else if b.toNat % 4 = 1 then .report else .backoff := by
  simp [guardOf, ← BitVec.toNat_inj, BitVec.extractLsb'_toNat]

/-- R181: the high four bits of a channel byte are its link group. -/
theorem chanConfigOf_group (b : Byte) : (chanConfigOf b).group.val = b.toNat / 16 := by
  have hb : b.toNat < 256 := b.isLt
  have hbits : (b.extractLsb' 4 4).toNat = b.toNat / 16 % 16 := by
    simp [BitVec.extractLsb'_toNat, Nat.shiftRight_eq_div_pow]
  exact hbits.trans (Nat.mod_eq_of_lt (by omega))

/-- Settles O18: a good image gives its fields, read one by one; a bad one is set aside for the defaults. -/
theorem configurationFromImage : Obligations.ConfigurationFromImage := by
  refine ⟨fun image hgood => ?_, fun image hbad => ?_⟩
  · rw [loadConfig, if_pos (imageOk_iff.mpr hgood)]
    refine ⟨rfl, rfl, get_gen _, limitField_zero .., limitField_zero .., rfl, limitField_zero .., rfl, rfl, fun k => ?_,
      fun c => ?_⟩
    · have hbudget : (imageConfig image).budgets.get k = budgetOf image k := get_gen _ k
      rw [hbudget, budgetOf, limitField_zero, ofBe16_toNat]
    · have hchan : (imageConfig image).chans.get c = chanConfigOf (imageByte image (20 + c.val)) := get_gen _ c
      dsimp only
      rw [hchan]
      exact ⟨chanConfigOf_group _, priorityOf_eq _, guardOf_eq _⟩
  · rw [loadConfig, if_neg (mt imageOk_iff.mp hbad)]
    exact ⟨rfl, rfl, get_const _, rfl, rfl, rfl, rfl, rfl, rfl, rfl, get_const _⟩

/-! ## Before start-up ends -/

theorem whileRunning_of_stopped (f : State → State) (h : s.running = false) : whileRunning f s = s := by
  rw [whileRunning, h]
  exact if_neg Bool.false_ne_true

/-- R1: a part that does not run hears nothing. -/
theorem not_canHear_of_stopped (h : s.running = false) : s.canHear = false := by
  rw [State.canHear, h, Bool.false_and]

/-- R172: before the part runs, nothing but a start, the end of start-up, the power-good pins and messages could act. -/
theorem exec_of_stopped {c : Instr} (hstopped : s.running = false) (hsender : c.sender = none)
    (hstart : c.isStart = false) (hend : ∀ mainGood auxGood lines i, c ≠ .startUpEnd mainGood auxGood lines i)
    (hpower : ∀ mainGood auxGood, c ≠ .powerGoodChange mainGood auxGood) : exec c s = .next s := by
  have off : ¬ s.running = true := by rw [hstopped]; exact Bool.false_ne_true
  have offAnd (b : Bool) : ¬ (s.running && b) = true := by rw [hstopped, Bool.false_and]; exact Bool.false_ne_true
  have deaf : ¬ s.canHear = true := by rw [not_canHear_of_stopped hstopped]; exact Bool.false_ne_true
  have idle (f : State → State) : whileRunning f s = s := whileRunning_of_stopped f hstopped
  have mute (f : Sending → State → State) : whileSending f s = s := idle _
  have hmark (tick : Nat) : markEvent tick s = s := idle _
  cases c with
  | startUpEnd mg ag lines i => exact absurd rfl (hend mg ag lines i)
  | powerGoodChange mg ag => exact absurd rfl (hpower mg ag)
  | powerOn | resetLine | resetLineHeld => exact absurd hstart nofun
  | receptionDiscarded cause => exact congrArg Host.Outcome.next (if_neg deaf)
  | pairIdle | batchWrite | batchTimeout | retryWrite => exact congrArg Host.Outcome.next (if_neg off)
  | samplePeriod | compensation | windowClose => exact congrArg Host.Outcome.next (if_neg (offAnd _))
  | transmissionAttempt =>
    exact congrArg Host.Outcome.next (if_neg (by rw [Bool.and_assoc]; exact offAnd _))
  | enterLocked tick => exact congrArg Host.Outcome.next (ite_eq_right_iff.mpr fun _ => hmark tick)
  | enterHoldover cause =>
    exact congrArg Host.Outcome.next (ite_eq_right_iff.mpr fun _ => by cases cause; exacts [hmark _, idle _])
  | lostAttempt | transmissionFault | messageSent => exact congrArg Host.Outcome.next (mute _)
  | blockStart | markEvent | missingMark | quietCountExpiry | markLineRelease | stationLoss | linkEntryExpiry
  | settleEnd | shortTrip | shedLoad | bankChange | portLineChange | feedBlockSent =>
    exact congrArg Host.Outcome.next (idle _)
  | _ => exact absurd hsender nofun

/-- Settles O20: a message is not heard before the part runs, and no other command has an effect. -/
theorem nothingElseActsBeforeStartUpEnds : Obligations.NothingElseActsBeforeStartUpEnds := by
  intro c s hstopped hstart hend hpower
  cases hsender : c.sender with
  | none => exact exec_of_stopped hstopped hsender hstart hend hpower
  | some st =>
    obtain ⟨role, k, hk⟩ := exec_eq_hear hsender s
    rw [hk, hear_unheard st role k (not_canHear_of_stopped hstopped)]

end Sys2Proof.Proofs
end

section
/-! What the report queue is given is only added to (R161, R162, R166): every operation of the blocks leaves the own
number, the configuration and the command queue, puts new keys behind those that stand, and sets event bits and batch
flags without clearing any. -/

namespace Sys2Proof.Proofs

open Sys2Proof.Machine Sys2Proof.Laws

variable {l : List Key} {r s t : State}

/-! ## Adding to what stands -/

/-- From `r` to `s` nothing that stands is taken away: `l` stands at the head of the keys of `s`, the event bits and
batch flags of `r` are set in `s`, and own number, configuration and command queue are those of `r`. -/
structure Added (l : List Key) (r s : State) : Prop where
  own : s.own = r.own
  config : s.config = r.config
  pending : s.pending = r.pending
  keys : l <+: s.report.keys
  events : ∀ c i, (r.report.events.get c).getLsbD i = true → (s.report.events.get c).getLsbD i = true
  flags : ∀ i, r.batch.flags.getLsbD i = true → s.batch.flags.getLsbD i = true

theorem added_refl (s : State) : Added s.report.keys s s :=
  ⟨rfl, rfl, rfl, List.prefix_rfl, fun _ _ => id, fun _ => id⟩

/-- All that it speaks of. -/
def addedRecords (s : State) := (s.own, s.config, s.pending, s.report.keys, s.report.events, s.batch.flags)

theorem Added.same (h : Added l r s) (hsame : addedRecords t = addedRecords s) : Added l r t := by
  simp only [addedRecords, Prod.mk.injEq] at hsame
  obtain ⟨hown, hconfig, hpending, hkeys, hevents, hflags⟩ := hsame
  exact ⟨hown.trans h.own, hconfig.trans h.config, hpending.trans h.pending, hkeys ▸ h.keys, hevents ▸ h.events,
    hflags ▸ h.flags⟩

theorem added_ask (k : Key) (h : Added l r s) : Added l r (ask k s) where
  own := h.own
  config := h.config
  pending := h.pending
  keys := h.keys.trans (prefix_ask k s)
  events := h.events
  flags := h.flags

/-- R166: an event bit is set beside those that are. -/
theorem added_setEvent (c : Chan) (e : Event) (h : Added l r s) : Added l r (setEvent c e s) where
  own := h.own
  config := h.config
  pending := h.pending
  keys := h.keys.trans (prefix_ask (.channel c) s)
  events d i hi := by
    rw [setEvent_events]
    split
    · rw [BitVec.getLsbD_or, h.events d i hi, Bool.true_or]
    · exact h.events d i hi
  flags := h.flags

/-- R161: a batch flag is set beside those that are. -/
theorem added_setFlag (f : BatchFlag) (h : Added l r s) : Added l r (setFlag f s) where
  own := h.own
  config := h.config
  pending := h.pending
  keys := h.keys.trans (prefix_ask .box s)
  events := h.events
  flags i hi := by rw [setFlag_flags, BitVec.getLsbD_or, h.flags i hi, Bool.true_or]

theorem added_place (st : Station) (a : Answer) (h : Added l r s) : Added l r (place st a s) :=
  (added_ask (.reply st) h).same rfl

theorem added_answer (e : Envelope) (kind : Byte) (code : OutcomeCode) (h : Added l r s) :
    Added l r (answer e kind code s) :=
  added_place e.source _ h

theorem added_forEach {α : Type} {m : List α} {g : α → State → State} (hg : ∀ a t, Added l r t → Added l r (g a t))
    (h : Added l r s) : Added l r (forEach m g s) :=
  forEach_induct (fun a _ t => hg a t) h

theorem added_whileRunning {f : State → State} (hf : Added l r (f s)) (h : Added l r s) :
    Added l r (whileRunning f s) := by
  unfold whileRunning
  split
  exacts [hf, h]

/-! ## Feed records and the batch -/

theorem added_setFeeds (feeds : Tab FeedRec 6) (h : Added l r s) : Added l r (setFeeds feeds s) := by
  unfold setFeeds
  split
  exacts [h, added_ask .box (h.same rfl)]

theorem added_setBatch (b : BatchRecord) (h : Added l r s) : Added l r (setBatch b s) := added_ask .box (h.same rfl)

theorem added_dropBatch (f : BatchFlag) (h : Added l r s) : Added l r (dropBatch f s) :=
  added_setFlag f (added_setBatch .idle h)

theorem added_discardBatch (p : BatchBody → Bool) (h : Added l r s) : Added l r (discardBatch p s) := by
  unfold discardBatch
  (repeat' split)
  exacts [added_dropBatch .discarded h, h, h]

/-! ## Phantom states and entries -/

/-- R134, R165. -/
theorem added_movePhantom (c : Chan) (st : PhantomState) (cause : OffCause) (h : Added l r s) :
    Added l r (movePhantom c st cause s) := by
  have hmoved : Added l r (setEvent c .phantomChange { s with phantom := { s.phantom with
      recs := s.phantom.recs.set c { s.phantom.recs.get c with state := st, cause := cause } } }) :=
    added_setEvent c .phantomChange (h.same rfl)
  unfold movePhantom
  dsimp only
  split
  exacts [hmoved, added_ask .box hmoved]

theorem added_putPhantom (c : Chan) (x : PhantomRec) (h : Added l r s) : Added l r (putPhantom c x s) :=
  h.same (by simp [addedRecords])

theorem added_countPhantom (c : Chan) (e : Event) (g : PhantomRec → PhantomRec) (h : Added l r s) :
    Added l r (countPhantom c e g s) :=
  added_setEvent c e (added_putPhantom c _ h)

theorem added_handWant (c : Chan) (before after : Bool) (h : Added l r s) : Added l r (handWant c before after s) := by
  rw [handWant_eq]
  split
  exacts [h, added_movePhantom c _ _ h]

/-- R51, R52. -/
theorem added_putEntry (f : Feed) (o : Option Entry) (c : Chan) (h : Added l r s) : Added l r (putEntry f o c s) :=
  added_handWant c _ _ (added_ask (.channel c) (h.same rfl))

theorem added_removeEntry (f : Feed) (c : Chan) (h : Added l r s) : Added l r (removeEntry f c s) := by
  unfold removeEntry
  split
  exacts [added_putEntry f none c h, h]

theorem added_noticeBatch (f : Feed) (st : Station) (h : Added l r s) : Added l r (noticeBatch f st s) := by
  unfold noticeBatch
  (repeat' split)
  exacts [added_dropBatch .botched h, h, h, h]

/-! ## Locks and the headroom monitor -/

theorem added_setLock (c : Chan) (x : Lock) (h : Added l r s) : Added l r (setLock c x s) := by
  unfold setLock
  split
  exacts [h, added_setEvent c .lock (h.same rfl)]

theorem added_openHeld (p : Feed → Bool) (c : Chan) (h : Added l r s) : Added l r (openHeld p c s) := by
  rw [openHeld_eq]
  split
  exacts [added_setLock c .opened h, h]

theorem added_raiseBackoff (c : Chan) (h : Added l r s) : Added l r (raiseBackoff c s) := by
  unfold raiseBackoff
  dsimp only
  split
  · have hraised : Added l r (putHead c { s.head.recs.get c with backoff := (s.head.recs.get c).backoff + 6 } s) :=
      h.same rfl
    exact (added_setEvent c .backoff hraised).same rfl
  · exact added_setEvent c .guardLimit h

/-- R127. -/
theorem added_judgeWindow (c : Chan) (h : Added l r s) : Added l r (judgeWindow c s) := by
  have hclip : Added l r (setEvent c .clip
      (putHead c { s.head.recs.get c with episodes := (s.head.recs.get c).episodes + 1 } s)) :=
    added_setEvent c .clip (h.same rfl)
  unfold judgeWindow episode
  (repeat' split)
  exacts [added_raiseBackoff c hclip, hclip, h]

theorem added_closeWindow (h : Added l r s) : Added l r (closeWindow s) := by
  have hjudged : Added l r (forEach channels judgeWindow s) := added_forEach (fun c _ => added_judgeWindow c) h
  unfold closeWindow
  generalize forEach channels judgeWindow s = u at hjudged ⊢
  exact hjudged.same rfl

/-! ## Links and the resolution -/

theorem added_freeRoom (h : Added l r s) : Added l r (freeRoom s) := by
  unfold freeRoom
  split
  exacts [added_ask .box (h.same rfl), h]

theorem added_removeLinks (p : LinkEntry → Bool) (h : Added l r s) : Added l r (removeLinks p s) := by
  unfold removeLinks
  split
  exacts [h, added_freeRoom (h.same rfl)]

theorem added_takeLink (source : Station) (group flags candidate locked backoff : Byte) (h : Added l r s) :
    Added l r (takeLink source group flags candidate locked backoff s) := by
  unfold takeLink storeLink
  (repeat' split)
  exacts [h.same rfl, h.same rfl, h.same rfl, h, added_ask .box (h.same rfl), h, h, h]

theorem added_resolveAll (h : Added l r s) : Added l r (resolveAll s) := by
  have hchannels : Added l r (channelsResolved s) := added_forEach (fun c _ => added_ask (.channel c)) (h.same rfl)
  rw [resolveAll_eq]
  refine added_forEach (fun g t ht => ?_) hchannels
  unfold updateAnnounce
  split
  exacts [ht, added_ask (.link g) (ht.same rfl)]

/-! ## The step controller -/

theorem added_putStep (c : Chan) (x : StepRec) (h : Added l r s) : Added l r (putStep c x s) :=
  h.same (by simp [addedRecords])

theorem added_changeStep (c : Chan) (x : StepRec) (h : Added l r s) : Added l r (changeStep c x s) := by
  unfold changeStep
  dsimp only
  split
  exacts [added_putStep c x h, added_ask (.channel c) (added_putStep c x h)]

theorem added_mismatched (c : Chan) (x : StepRec) (h : Added l r s) : Added l r (mismatched c x s) := by
  unfold mismatched enterFault
  split
  exacts [added_changeStep c _ h, added_setEvent c .frontEndFault (added_changeStep c _ h)]

theorem added_decideStep (rb : Readback) (c : Chan) (target : Int) (x : StepRec) (h : Added l r s) :
    Added l r (decideStep rb c target x s) := by
  have hexchange : Added l r (stepExchange rb c target x s) := by
    unfold stepExchange
    dsimp only
    split
    exacts [added_changeStep c _ h, added_mismatched c _ h]
  have hrestore : Added l r (restoreWrite rb c x s) := by
    unfold restoreWrite
    dsimp only
    split
    exacts [added_changeStep c _ h, added_mismatched c _ h]
  unfold decideStep
  (repeat' split)
  exacts [added_changeStep c x h, added_changeStep c x h, hexchange, hrestore, hexchange]

theorem added_retryExchange (rb : Readback) (c : Chan) (x : StepRec) (h : Added l r s) :
    Added l r (retryExchange rb c x s) := by
  unfold retryExchange
  dsimp only
  split <;> exact added_changeStep c _ h

theorem added_stepAtBlock (rb : Readback) (c : Chan) (h : Added l r s) : Added l r (stepAtBlock rb c s) := by
  unfold stepAtBlock
  dsimp only
  (repeat' split)
  exacts [added_putStep c _ h, added_decideStep rb c _ _ h, added_putStep c _ h, added_retryExchange rb c _ h]

theorem added_compensate (c : Chan) (h : Added l r s) : Added l r (compensate c s) := by
  unfold compensate
  dsimp only
  split
  exacts [added_ask (.channel c) ((added_putStep c _ h).same rfl), h]

theorem added_countDown (c : Chan) (h : Added l r s) : Added l r (countDown c s) := by
  unfold countDown
  dsimp only
  (repeat' split)
  exacts [added_compensate c h, added_putStep c _ h, h]

theorem added_boxResetRetry (rb : Readback) (c : Chan) (h : Added l r s) : Added l r (boxResetRetry rb c s) := by
  unfold boxResetRetry
  dsimp only
  (repeat' split)
  exacts [added_changeStep c _ h, added_setEvent c .frontEndFault (added_putStep c _ h), h]

/-! ## The timing unit -/

theorem added_retime (w : Timing) (h : Added l r s) : Added l r (retime w s) := by
  unfold retime
  split
  exacts [h.same rfl, added_ask .box (h.same rfl)]

theorem added_passTicks (d checked : Nat) (h : Added l r s) : Added l r (passTicks d checked s) := by
  rw [passTicks_eq]
  exact added_retime _ h

theorem added_takeMark (e : Int) (after : Bool) (h : Added l r s) : Added l r (takeMark e after s) := by
  rw [takeMark_eq]
  exact added_retime _ h

theorem added_toFree (h : Added l r s) : Added l r (toFree s) := by
  rw [toFree_eq]
  exact added_retime _ h

theorem added_markEvent (tick : Nat) (h : Added l r s) : Added l r (markEvent tick s) := by
  refine added_whileRunning ?_ h
  unfold markAt
  dsimp only
  split
  exacts [h, added_takeMark _ _ (added_passTicks _ _ h)]

theorem added_declareMissing (h : Added l r s) : Added l r (declareMissing s) := by
  refine added_whileRunning ?_ h
  split
  exacts [added_passTicks _ _ h, h]

theorem added_enterHoldoverBy (cause : BadMark) (h : Added l r s) : Added l r (enterHoldoverBy cause s) := by
  unfold enterHoldoverBy
  dsimp only
  (repeat' split)
  exacts [added_markEvent _ h, h, added_declareMissing h, h]

/-! ## The phantom controller -/

theorem added_endSettle (c : Chan) (h : Added l r s) : Added l r (endSettle c s) := by
  unfold endSettle
  dsimp only
  split
  exacts [added_movePhantom c _ _ h, added_movePhantom c _ _ h, h, h, h, h, h]

theorem added_advanceSettle (c : Chan) (h : Added l r s) : Added l r (advanceSettle c s) := by
  unfold advanceSettle
  dsimp only
  (repeat' split)
  exacts [h, added_endSettle c h, added_putPhantom c _ h, h]

theorem added_trip (c : Chan) (h : Added l r s) : Added l r (trip c s) :=
  added_countPhantom c .short _ (added_movePhantom c _ _ h)

theorem added_judgeShort (c : Chan) (h : Added l r s) : Added l r (judgeShort c s) := by
  unfold judgeShort
  dsimp only
  (repeat' split)
  exacts [added_putPhantom c _ h, added_trip c h, added_putPhantom c _ h]

theorem added_shed (cause : OffCause) (c : Chan) (h : Added l r s) : Added l r (shed cause c s) :=
  added_countPhantom c .shed _ (added_movePhantom c _ _ h)

theorem added_shedToFit (n : Nat) (h : Added l r s) : Added l r (shedToFit n s) := by
  induction n generalizing s with
  | zero => exact h
  | succ n ih =>
    unfold shedToFit
    (repeat' split)
    exacts [h, ih (added_shed .shedBudget _ h), h]

theorem added_changeBank (h : Added l r s) : Added l r (changeBank s) :=
  added_shedToFit 32 (added_ask .box (h.same rfl))

theorem added_shedForLoad (h : Added l r s) : Added l r (shedForLoad s) := by
  have hcleared : Added l r { s with phantom := { s.phantom with overload := 0 } } := h.same rfl
  unfold shedForLoad
  dsimp only
  split
  exacts [added_shed .shedLoad _ hcleared, hcleared]

theorem added_considerChannel (c : Chan) (h : Added l r s) : Added l r (considerChannel c s) := by
  unfold considerChannel powerUp passOver
  dsimp only
  (repeat' split)
  exacts [added_putPhantom c _ (added_movePhantom c _ _ h), added_countPhantom c .denied _ h, h]

/-- R141. -/
theorem added_phantomAtBlock (m : Tab Nat 32) (h : Added l r s) : Added l r (phantomAtBlock m s) := by
  have hread : Added l r (readMonitors m s) := h.same rfl
  have hsettled := added_forEach (m := channels) (fun c _ => added_advanceSettle c) hread
  have hjudged := added_forEach (m := channels) (fun c _ => added_judgeShort c) hsettled
  have hlines {u : State} (hu : Added l r u) : Added l r (advanceLines u) := by
    unfold advanceLines
    dsimp only
    split
    exacts [added_changeBank (hu.same rfl), hu.same rfl]
  have hload {u : State} (hu : Added l r u) : Added l r (judgeOverload u) := by
    unfold judgeOverload
    (repeat' split)
    exacts [hu, hu.same rfl, added_shedForLoad hu, hu.same rfl]
  exact added_forEach (fun c _ => added_considerChannel c) (hload (hlines hjudged))

/-! ## The batch and losses -/

theorem added_writeBatch (b : BatchBody) (blk : Word16) (h : Added l r s) : Added l r (writeBatch b blk s) :=
  added_dropBatch .committed (added_forEach (fun i _ => added_putEntry b.feed _ i.chan) h)

theorem added_timeOut (b : BatchBody) (h : Added l r s) : Added l r (timeOut b s) :=
  added_place _ _ (added_dropBatch .timedOut h)

theorem added_loseStation (st : Station) (role : Role) (h : Added l r s) : Added l r (loseStation st role s) := by
  have hlost : Added l r (withLost st role s) := h.same rfl
  cases role with
  | desk => exact added_discardBatch _ (added_setFeeds _ hlost)
  | box => exact added_removeLinks _ hlost

theorem added_stationsAndBatch (h : Added l r s) : Added l r (stationsAndBatch s) := by
  have hages {u : State} (hu : Added l r u) : Added l r (ageStations u) := by
    refine added_forEach (fun st t ht => ?_) hu
    unfold ageStation
    (repeat' split)
    exacts [ht.same rfl, added_loseStation st _ ht, ht, ht, ht]
  have hbatch {u : State} (hu : Added l r u) : Added l r (batchAtBlock u) := by
    unfold batchAtBlock
    (repeat' split)
    exacts [hu, hu.same rfl, added_timeOut _ hu, added_writeBatch _ _ hu]
  unfold stationsAndBatch
  dsimp only
  split
  exacts [hbatch (hages (h.same rfl)), hages (hbatch (h.same rfl))]

/-! ## Block starts -/

/-- R18: the work of a block, in its order. -/
theorem added_blockTasks (i : BlockInputs) (h : Added l r s) : Added l r (blockTasks i s) := by
  have hdriven : Added l r (driveMark i.markLine s) := by
    unfold driveMark
    split
    exacts [added_takeMark 0 true (h.same rfl), h]
  have haged : Added l r (ageLinks (stationsAndBatch (driveMark i.markLine s))) :=
    added_removeLinks _ ((added_stationsAndBatch hdriven).same rfl)
  have hviewed : Added l r (presentView (ageLinks (stationsAndBatch (driveMark i.markLine s)))) := haged.same rfl
  have hstepped := added_forEach (m := channels) (fun c _ => added_stepAtBlock i.readback c) (added_resolveAll hviewed)
  exact added_phantomAtBlock i.monitors hstepped

theorem added_endBlock (h : Added l r s) : Added l r (endBlock s) := by
  have hwindow {u : State} (hu : Added l r u) : Added l r (windowAtBlock u) := by
    unfold windowAtBlock
    (repeat' split)
    exacts [hu, hu.same rfl, added_closeWindow hu]
  exact (hwindow (added_passTicks _ _ h)).same rfl

theorem added_beginBlock (h : Added l r s) : Added l r (beginBlock s) := by
  rw [beginBlock_eq]
  exact added_retime _ h

/-- R81, R165. -/
theorem added_periodic (h : Added l r s) : Added l r (periodic s) := by
  have hlinks := added_forEach (m := linkSlots s s.timing.counter.toNat) (fun g _ => added_ask (.link g)) h
  have hchannels := added_forEach (m := channels.filter fun c => refreshSlot c = s.timing.counter.toNat % 100)
    (fun c _ => added_ask (.channel c)) hlinks
  unfold periodic
  dsimp only
  split
  exacts [added_ask .box hchannels, hchannels]

theorem added_clearAhead (h : Added l r s) : Added l r (clearAhead s) := h.same rfl

theorem added_blockStart (i : BlockInputs) (h : Added l r s) : Added l r (blockStart i s) := by
  have htasks := added_blockTasks (inputsAt i s.timing) (added_beginBlock (added_endBlock h))
  exact added_whileRunning (added_clearAhead (added_periodic htasks)) h

theorem added_startUpEnd (mainGood auxGood : Bool) (lines : Tab Bool 6) (i : BlockInputs) (h : Added l r s) :
    Added l r (startUpEnd mainGood auxGood lines i s) := by
  have hrunning : Added l r (startRunning mainGood auxGood lines s) := added_ask .box (h.same rfl)
  unfold startUpEnd
  split
  exacts [added_clearAhead (added_blockTasks i hrunning), h]

end Sys2Proof.Proofs
end

section
/-! What each command does to the report queue, the own number, the configuration and the command queue (R161 to R163,
R166, R171, R173, R175): but for starts, sends and box resets it only adds to what stands. -/

namespace Sys2Proof.Proofs

open Sys2Proof.Machine Sys2Proof.Laws

variable {l : List Key} {r s t : State} {e : Envelope}

/-! ## Hearing -/

theorem added_recordHearing (st : Station) (role : Role) (h : Added l r s) : Added l r (recordHearing st role s) := by
  unfold recordHearing
  dsimp only
  split
  exacts [added_setFeeds _ (h.same rfl), added_setFeeds _ (h.same rfl), h.same rfl]

theorem added_hear {st : Station} {role : Role} {k : State → State} (hk : ∀ t, Added l r t → Added l r (k t))
    (h : Added l r s) : Added l r (hear st role k s) := by
  have hended : Added l r (messageEnded s) := h.same rfl
  unfold hear
  (repeat' split)
  exacts [hended.same rfl, hk _ (added_recordHearing st role hended), h]

theorem added_request {k : State → State} (hk : ∀ t, Added l r t → Added l r (k t)) (h : Added l r s) :
    Added l r (request e k s) :=
  added_hear (fun t ht => by split; exacts [hk t ht, ht]) h

/-- R38: a request that is put to the holder check. -/
theorem added_holderRequest {kind feed : Byte} {k : Feed → State → State} (hk : ∀ f t, Added l r t → Added l r (k f t))
    (h : Added l r s) : Added l r (request e (withHolder e kind feed k) s) := by
  refine added_request (fun t ht => ?_) h
  unfold withHolder
  (repeat' split)
  exacts [hk _ t ht, added_answer e kind .notHolder ht, added_answer e kind .notHolder ht]

/-! ## Requests -/

theorem added_takeClaim (feed : Byte) (before : Tab FeedRec 6) (h : Added l r s) :
    Added l r (takeClaim e feed before s) := by
  have hbound (f : Feed) (b : Binding) (a : Answer) : Added l r (place e.source a (bindFeed f b s)) :=
    added_place e.source a (added_setFeeds _ h)
  unfold takeClaim
  (repeat' split)
  exacts [added_answer e 2 .noFeed h, added_answer e 2 .noFeed h, hbound _ _ _, added_place _ _ h, added_place _ _ h,
    hbound _ _ _, hbound _ _ _]

theorem added_modPath (f : Feed) (g : FeedPath → FeedPath) (h : Added l r s) : Added l r (modPath f g s) := h.same rfl

/-- R39, R40. -/
theorem added_releaseFeed (f : Feed) (h : Added l r s) : Added l r (releaseFeed f s) := by
  have hfreed : Added l r (bindFeed f .free s) := added_setFeeds _ h
  have hremoved : Added l r (removeFeedEntries f (bindFeed f .free s)) :=
    added_forEach (fun c _ => added_removeEntry f c) hfreed
  have hopened : Added l r (withdrawn f s) := added_forEach (fun c _ => added_openHeld (fun g => g == f) c) hremoved
  exact added_discardBatch _ (added_modPath f emptyTone hopened)

/-- R53 to R57. -/
theorem added_setDemandDone (f : Feed) (cs : List Chan) (w : DemandWrite) (h : Added l r s) :
    Added l r (setDemandDone e f cs w s) := by
  have hwritten := added_forEach (m := cs) (g := writeChannel f w s.timing.counter) (fun c _ => added_putEntry f _ c) h
  exact added_noticeBatch f e.source (added_place e.source _ hwritten)

/-- R117, R120. -/
theorem added_lockPass (kind : Byte) (f : Feed) (unlocking : Bool) (cs : List Chan) {x : Chan → State → Lock}
    (h : Added l r s) : Added l r (lockPass e kind f unlocking cs (fun c t => setLock c (x c t) t) s) := by
  have hlocked := added_forEach (m := cs) (fun c t => added_setLock c (x c t)) h
  unfold lockPass
  split
  exacts [added_place _ _ h, added_answer e kind .done hlocked]

theorem added_decideOpen (f : Feed) (count : Byte) (h : Added l r s) : Added l r (decideOpen e f count s) := by
  have hopen : Added l r (openBatch e f count s) := added_answer e 10 .done (added_setBatch _ h)
  have hbusy := added_answer e 10 .busy h
  unfold decideOpen
  (repeat' split)
  exacts [hopen, hopen, hbusy, hbusy]

theorem added_takeEntry (feed chan flags gain : Byte) (h : Added l r s) :
    Added l r (takeEntry e feed chan flags gain s) := by
  have hother := added_answer e 11 .notOwner h
  have hbotched : Added l r (botchEntry e s) := added_answer e 11 .sequence (added_dropBatch .botched h)
  unfold takeEntry
  (repeat' split)
  exacts [added_answer e 11 .noBatch h, h.same rfl, hbotched, hother, hbotched, hother]

theorem added_takeCommit (h : Added l r s) : Added l r (takeCommit e s) := by
  have hother := added_answer e 12 .notOwner h
  unfold takeCommit
  (repeat' split)
  exacts [added_answer e 12 .noBatch h, added_place _ _ (added_setBatch _ h),
    added_answer e 12 .shortBatch (added_dropBatch .botched h), hother, added_place _ _ h, hother]

theorem added_takeCancel (h : Added l r s) : Added l r (takeCancel e s) := by
  unfold takeCancel
  (repeat' split)
  exacts [added_answer e 13 .noBatch h, added_answer e 13 .done (added_setBatch .idle h),
    added_answer e 13 .notOwner h]

/-- R171: the key list is emptied, and nothing else that is reported but the outcomes. -/
theorem added_resetReport (h : Added l r s) : Added [] r (resetReport s) := by
  have hempty : Added [] r { s with report := { s.report with keys := [], slots := Tab.const none } } :=
    ⟨h.own, h.config, h.pending, List.prefix_rfl, h.events, h.flags⟩
  exact added_ask .box hempty

/-- R171, R177: what a box reset asks for comes after the emptying; event bits and batch flags stay. -/
theorem added_resetBlocks (rb : Readback) (h : Added l r s) : Added [] r (resetBlocks rb s) := by
  have hforgotten : Added [] r { resetReport s with
      link := { (resetReport s).link with stations := (resetReport s).link.stations.map Presence.forget } } :=
    (added_resetReport h).same rfl
  have hpaths {u : State} (hu : Added [] r u) : Added [] r { u with paths := u.paths.map emptyTone } := hu.same rfl
  have hhead {u : State} (hu : Added [] r u) : Added [] r (forEach channels resetHead u) :=
    added_forEach (fun c t ht => ht.same (by simp [addedRecords])) hu
  unfold resetBlocks
  refine added_discardBatch _ (hpaths (added_forEach (fun c _ => added_boxResetRetry rb c) (hhead ?_)))
  refine added_forEach (fun c _ => added_openHeld _ c) (added_freeRoom (added_removeLinks _ ?_))
  exact added_setFeeds _ hforgotten

theorem added_takeBoxReset (rb : Readback) (h : Added [] r s) : Added [] r (takeBoxReset e rb s) := by
  unfold takeBoxReset
  split
  exacts [added_answer e 14 .done (added_resetBlocks rb h), added_answer e 14 .notHolder h]

/-! ## The pair, samples and lines -/

theorem added_whileSending {f : Sending → State → State} (hf : ∀ x, Added l r (f x s)) (h : Added l r s) :
    Added l r (whileSending f s) := by
  refine added_whileRunning ?_ h
  split
  exacts [hf _, h]

/-- R9, R10. -/
theorem added_discardReception (cause : ReceptionFault) (h : Added l r s) : Added l r (discardReception cause s) :=
  h.same rfl

theorem added_samplePeriod (frame : Tab Sample 32) (h : Added l r s) : Added l r (samplePeriod frame s) := by
  have hcounted : Added l r (stepsCounted s) := added_forEach (fun c _ => added_countDown c) (added_passTicks _ _ h)
  unfold samplePeriod
  split
  · rw [sampleWork_eq]
    generalize stepsCounted s = u at hcounted ⊢
    exact hcounted.same rfl
  · exact h

theorem added_lineChange (f : Feed) (up : Bool) (h : Added l r s) : Added l r (lineChange f up s) := by
  have hchanged := added_setFeeds (s.feeds.set f { s.feeds.get f with lineUp := up }) h
  unfold lineChange
  dsimp only
  (repeat' split)
  exacts [hchanged, hchanged.same rfl, h]

/-! ## Every command -/

/-- A start, a send and a box reset are the commands that may take keys from the list. -/
def clearsKeys : Instr → Bool
  | .powerOn _ | .resetLine _ | .resetLineHeld | .messageSent | .boxReset _ _ => true
  | _ => false

/-- R161, R162, R166: any other command only adds to what stands. -/
theorem exec_added {c : Instr} (hc : clearsKeys c = false) (s : State) :
    ∃ t, exec c s = .next t ∧ Added s.report.keys s t := by
  have h := added_refl s
  cases c with
  | powerOn | resetLine | resetLineHeld | messageSent | boxReset => exact absurd hc nofun
  | startUpEnd mg ag lines i => exact ⟨_, rfl, added_startUpEnd mg ag lines i h⟩
  | blockStart i => exact ⟨_, rfl, added_blockStart i h⟩
  | presence | reply | channelState | boxState => exact ⟨_, rfl, added_hear (fun _ => id) h⟩
  | invalidMessage st kind => exact ⟨_, rfl, added_hear (fun _ ht => ht.same (by rfl)) h⟩
  | linkCandidate e g fl ca lo ba => exact ⟨_, rfl, added_hear (fun _ => added_takeLink e.source g fl ca lo ba) h⟩
  | claim e f => exact ⟨_, rfl, added_request (fun _ => added_takeClaim f s.feeds) h⟩
  | release e f => exact ⟨_, rfl, added_holderRequest (fun f _ ht => added_answer e 3 .done (added_releaseFeed f ht)) h⟩
  | setDemand e f a b fl g =>
    refine ⟨_, rfl, added_holderRequest (fun f t ht => ?_) h⟩
    (repeat' split)
    exacts [added_setDemandDone f _ _ ht, added_answer e 4 .badRange ht, added_answer e 4 .badRange ht]
  | clearDemand e f a b =>
    refine ⟨_, rfl, added_holderRequest (fun f t ht => ?_) h⟩
    have hremoved := added_forEach (m := rangeOf a b) (fun c _ => added_removeEntry f c) ht
    split
    exacts [added_noticeBatch f e.source (added_answer e 5 .done hremoved), added_answer e 5 .badRange ht]
  | lock e f a b m =>
    refine ⟨_, rfl, added_holderRequest (fun f t ht => ?_) h⟩
    (repeat' split)
    exacts [added_lockPass 6 f false _ ht, added_answer e 6 .badRange ht, added_answer e 6 .badRange ht]
  | unlock e f a b =>
    refine ⟨_, rfl, added_holderRequest (fun f t ht => ?_) h⟩
    split
    exacts [added_lockPass 7 f true _ ht, added_answer e 7 .badRange ht]
  | headroomReset e f a b =>
    refine ⟨_, rfl, added_holderRequest (fun f t ht => ?_) h⟩
    have hcleared := added_forEach (m := rangeOf a b) (g := clearBackoff) (fun c u hu => hu.same rfl) ht
    split
    exacts [added_answer e 8 .done hcleared, added_answer e 8 .badRange ht]
  | tone e f a b st =>
    refine ⟨_, rfl, added_holderRequest (fun f t ht => ?_) h⟩
    have hrange := added_answer e 9 .badRange ht
    (repeat' split)
    exacts [(added_answer e 9 .done ht).same rfl, hrange, hrange]
  | batchOpen e f n =>
    refine ⟨_, rfl, added_holderRequest (fun f t ht => ?_) h⟩
    split
    exacts [added_decideOpen f n ht, added_answer e 10 .badRange ht]
  | batchEntry e f c fl g => exact ⟨_, rfl, added_request (fun _ => added_takeEntry f c fl g) h⟩
  | batchCommit e => exact ⟨_, rfl, added_request (fun _ => added_takeCommit) h⟩
  | batchCancel e => exact ⟨_, rfl, added_request (fun _ => added_takeCancel) h⟩
  | receptionDiscarded cause =>
    refine ⟨_, rfl, ?_⟩
    unfold receptionDiscarded
    split
    exacts [added_discardReception cause h, h]
  | transmissionAttempt =>
    refine ⟨_, rfl, ?_⟩
    unfold transmissionAttempt beginAttempt
    (repeat' split)
    exacts [h.same rfl, h, h]
  | lostAttempt bytes => exact ⟨_, rfl, added_whileSending (fun _ => h.same rfl) h⟩
  | transmissionFault => exact ⟨_, rfl, added_whileSending (fun _ => h.same rfl) h⟩
  | pairIdle =>
    refine ⟨_, rfl, ?_⟩
    unfold pairIdle
    (repeat' split)
    exacts [h.same rfl, h.same rfl, added_discardReception .earlyIdle h, h, h, h]
  | batchWrite =>
    refine ⟨_, rfl, ?_⟩
    unfold batchWrite
    (repeat' split)
    exacts [added_writeBatch _ _ h, h, h, h]
  | batchTimeout =>
    refine ⟨_, rfl, ?_⟩
    unfold batchTimeout
    (repeat' split)
    exacts [h, added_timeOut _ h, h, h, h]
  | samplePeriod frame => exact ⟨_, rfl, added_samplePeriod frame h⟩
  | compensation d =>
    refine ⟨_, rfl, ?_⟩
    unfold compensation
    (repeat' split)
    exacts [added_compensate d h, h, h, h]
  | retryWrite d code =>
    refine ⟨_, rfl, ?_⟩
    unfold retryWrite
    (repeat' split)
    exacts [h, added_retryExchange _ d _ (h.same rfl), h, h]
  | windowClose =>
    refine ⟨_, rfl, ?_⟩
    unfold windowClose
    split
    exacts [added_closeWindow (h.same rfl), h]
  | markEvent tick => exact ⟨_, rfl, added_markEvent tick h⟩
  | enterLocked tick =>
    refine ⟨_, rfl, ?_⟩
    unfold enterLockedAt
    dsimp only
    split
    exacts [added_markEvent tick h, h]
  | enterHoldover cause => exact ⟨_, rfl, added_enterHoldoverBy cause h⟩
  | missingMark => exact ⟨_, rfl, added_declareMissing h⟩
  | quietCountExpiry =>
    refine ⟨_, rfl, added_whileRunning ?_ h⟩
    split
    exacts [added_toFree (h.same rfl), h]
  | markLineRelease =>
    refine ⟨_, rfl, added_whileRunning ?_ h⟩
    split
    exacts [added_passTicks _ _ h, h]
  | stationLoss st =>
    refine ⟨_, rfl, added_whileRunning ?_ h⟩
    (repeat' split)
    exacts [h, added_loseStation st _ h, h, h, h]
  | linkEntryExpiry g source => exact ⟨_, rfl, added_whileRunning (added_removeLinks _ h) h⟩
  | settleEnd d =>
    refine ⟨_, rfl, added_whileRunning ?_ h⟩
    (repeat' split)
    exacts [added_endSettle d h, h, h]
  | shortTrip d =>
    refine ⟨_, rfl, added_whileRunning ?_ h⟩
    dsimp only
    split
    exacts [(added_trip d h).same rfl, h]
  | shedLoad =>
    have hshed : Added s.report.keys s (shedForLoad { s with ahead := .overload :: s.ahead }) :=
      added_shedForLoad (h.same rfl)
    refine ⟨_, rfl, added_whileRunning ?_ h⟩
    split
    exacts [h, hshed.same rfl]
  | bankChange =>
    have hchanged : Added s.report.keys s (changeBank { s with phantom := { s.phantom with lineQuiet := 20 } }) :=
      added_changeBank (h.same rfl)
    refine ⟨_, rfl, added_whileRunning ?_ h⟩
    split
    exacts [hchanged.same rfl, h]
  | powerGoodChange mg ag =>
    refine ⟨_, rfl, ?_⟩
    unfold powerGoodChange
    split
    exacts [h, h.same rfl]
  | portLineChange f up => exact ⟨_, rfl, added_whileRunning (added_lineChange f up h) h⟩
  | feedBlockSent f => exact ⟨_, rfl, added_whileRunning (h.same rfl) h⟩

/-- R171: a box reset empties the key list, and only adds to the rest. -/
theorem exec_boxReset_added (e : Envelope) (rb : Readback) (s : State) :
    ∃ t, exec (.boxReset e rb) s = .next t ∧ Added [] s t := by
  have hstart : Added [] s s := { added_refl s with keys := List.nil_prefix }
  exact ⟨_, rfl, added_request (fun _ => added_takeBoxReset rb) hstart⟩

theorem whileSending_keeps {α : Type} (p : State → α) {f : Sending → State → State} (hf : ∀ x u, p (f x u) = p u)
    (s : State) : p (whileSending f s) = p s :=
  whileRunning_keeps p (fun u => by split; exacts [hf _ u, rfl]) s

/-- R163: a send clears what it carried, and leaves own number, configuration and command queue. -/
theorem messageSent_keeps (s : State) : (messageSent s).pending = s.pending ∧ (messageSent s).own = s.own
    ∧ (messageSent s).config = s.config :=
  ⟨whileSending_keeps State.pending (fun x u => by simp) s, whileSending_keeps State.own (fun x u => by simp) s,
    whileSending_keeps State.config (fun x u => by simp) s⟩

/-- Settles O2: starts, sends and box resets apart, a command only adds to what stands. -/
theorem everyCommandAnswersNext : Obligations.EveryCommandAnswersNext := by
  intro c s
  cases hc : clearsKeys c with
  | false =>
    obtain ⟨t, ht, hadded⟩ := exec_added hc s
    exact ⟨t, ht, hadded.pending, fun _ => ⟨hadded.own, hadded.config⟩, fun _ _ _ => hadded.keys,
      fun _ _ => ⟨hadded.events, hadded.flags⟩⟩
  | true =>
    cases c with
    | powerOn | resetLine | resetLineHeld => exact ⟨_, rfl, rfl, nofun, nofun, nofun⟩
    | messageSent =>
      obtain ⟨hpending, hrest⟩ := messageSent_keeps s
      exact ⟨_, rfl, hpending, fun _ => hrest, fun _ hsent => absurd rfl hsent, fun _ hsent => absurd rfl hsent⟩
    | boxReset e rb =>
      obtain ⟨t, ht, hadded⟩ := exec_boxReset_added e rb s
      exact ⟨t, ht, hadded.pending, fun _ => ⟨hadded.own, hadded.config⟩, fun _ _ hreset => absurd rfl (hreset e rb),
        fun _ _ => ⟨hadded.events, hadded.flags⟩⟩
    | _ => exact absurd hc nofun

end Sys2Proof.Proofs
end

section
/-! BOX RESET (R177): the report queue is emptied first, then the stations, feeds and links, the locks, the headroom
monitor, the step controller, the tone sets and the batch each do what their own rule lays down, channel by channel
where they have channels. -/

namespace Sys2Proof.Proofs

open Sys2Proof.Machine Sys2Proof.Laws

variable {s u : State} {e : Envelope}

/-! ## Where BOX stands already -/

theorem setFeeds_report (feeds : Tab FeedRec 6) (hbox : Key.box ∈ s.report.keys) :
    (setFeeds feeds s).report = s.report := by
  have hasked : ask .box { s with feeds := feeds } = { s with feeds := feeds } := ask_of_mem hbox
  unfold setFeeds
  split
  · rfl
  · rw [hasked]

theorem freeRoom_report (hbox : Key.box ∈ s.report.keys) : (freeRoom s).report = s.report := by
  have hasked : ask .box { s with gain := { s.gain with full := false } }
    = { s with gain := { s.gain with full := false } } := ask_of_mem hbox
  unfold freeRoom
  split
  · rw [hasked]
  · rfl

theorem removeLinks_report (p : LinkEntry → Bool) (hbox : Key.box ∈ s.report.keys) :
    (removeLinks p s).report = s.report := by
  unfold removeLinks
  split
  · rfl
  · exact freeRoom_report hbox

/-! ## The report queue, the stations, the feeds and the links -/

/-- R171: only BOX is queued, and no outcome stands. -/
theorem resetReport_eq (s : State) :
    resetReport s = { s with report := { s.report with keys := [.box], slots := Tab.const none } } := rfl

/-- The state in which the locks open: the report queue is emptied, the other stations forgotten, the feeds orphaned and
the link table empty (R15, R43, R78, R171). -/
def linksCleared (s : State) : State :=
  freeRoom (removeLinks (fun _ => true) (setFeeds (s.feeds.map (orphan fun _ => true))
    { resetReport s with link.stations := s.link.stations.map Presence.forget }))

theorem linksCleared_report (s : State) :
    (linksCleared s).report = { s.report with keys := [.box], slots := Tab.const none } := by
  have hbox : Key.box ∈ { resetReport s with link.stations := s.link.stations.map Presence.forget }.report.keys :=
    List.mem_singleton_self _
  have hfeeds := setFeeds_report (s.feeds.map (orphan fun _ => true)) hbox
  have hremoved := removeLinks_report (fun _ => true) (hfeeds ▸ hbox)
  rw [linksCleared, freeRoom_report (by rw [hremoved, hfeeds]; exact hbox), hremoved, hfeeds]
  rfl

/-- R78: no entry and no LINK TABLE FULL are left. -/
theorem linksCleared_gain (s : State) : (linksCleared s).gain = { s.gain with table := [], full := false } := by
  obtain ⟨hgain, -, -⟩ := removeLinks_removes (fun _ => true) (setFeeds (s.feeds.map (orphan fun _ => true))
    { resetReport s with link.stations := s.link.stations.map Presence.forget })
  rw [linksCleared, freeRoom_gain, hgain]
  simp

/-- R79: the channels whose group had an entry are dirty. -/
theorem linksCleared_demand (s : State) (c : Chan) : (linksCleared s).demand.get c = { s.demand.get c with
    dirty := (s.demand.get c).dirty || s.gain.table.any (fun x => x.group == s.group c) } := by
  obtain ⟨-, hdemand, -⟩ := removeLinks_removes (fun _ => true) (setFeeds (s.feeds.map (orphan fun _ => true))
    { resetReport s with link.stations := s.link.stations.map Presence.forget })
  rw [linksCleared, freeRoom_demand, hdemand]
  simp [State.group]

theorem linksCleared_link (s : State) :
    (linksCleared s).link = { s.link with stations := s.link.stations.map Presence.forget } := by
  simp [linksCleared]

/-- A feed that is BOUND is orphaned, and keeps its holder (R43). -/
theorem orphan_all_of_bound {x : FeedRec} {st : Station} {since : Word16} (h : x.binding = .bound st since) :
    orphan (fun _ => true) x = { x with binding := .orphaned st since } := by
  simp [orphan, h]

theorem orphan_all_of_not_bound {x : FeedRec} (h : x.binding.isBound = false) : orphan (fun _ => true) x = x := by
  unfold orphan
  split
  · next hb =>
    rw [hb] at h
    exact absurd h nofun
  · rfl

/-! ## The locks -/

theorem heldFor_any {x : Lock} : heldFor (fun _ => true) x = true ↔ ∃ g n, x = .held g n := by
  cases x <;> simp [heldFor]

/-- The state in which the headroom monitor is reset: no channel is HELD (R123). -/
def locksOpened (s : State) : State := forEach channels (openHeld fun _ => true) (linksCleared s)

theorem locksOpened_view (s : State) (c : Chan) :
    chanView (locksOpened s) c = viewOpened (fun _ => true) (chanView (linksCleared s) c) := by
  rw [locksOpened, chanView_forEach (openHeld_acts _) channels_nodup, if_pos (mem_channels c)]

theorem locksOpened_lock (s : State) (c : Chan) : (locksOpened s).gain.recs.get c = { s.gain.recs.get c with
    lock := if heldFor (fun _ => true) (s.gain.recs.get c).lock then .opened else (s.gain.recs.get c).lock } := by
  have h := congrArg ChanView.res ((locksOpened_view s c).trans (viewOpened_eq _ _))
  simp only [chanView, linksCleared_gain] at h
  exact h

theorem locksOpened_demand (s : State) (c : Chan) : (locksOpened s).demand.get c = { s.demand.get c with
    dirty := ((s.demand.get c).dirty || s.gain.table.any (fun x => x.group == s.group c))
      || heldFor (fun _ => true) (s.gain.recs.get c).lock } := by
  have h := congrArg ChanView.demand ((locksOpened_view s c).trans (viewOpened_eq _ _))
  simp only [chanView, linksCleared_gain, linksCleared_demand] at h
  exact h

/-- R116: the LOCK bit is set where a lock opens. -/
theorem locksOpened_events (s : State) (c : Chan) : (locksOpened s).report.events.get c
    = s.report.events.get c ||| if heldFor (fun _ => true) (s.gain.recs.get c).lock then 8 else 0 := by
  have h := congrArg ChanView.events ((locksOpened_view s c).trans (viewOpened_eq _ _))
  simp only [chanView, linksCleared_gain, linksCleared_report] at h
  exact h

theorem locksOpened_asks (s : State) : KeysAsked (fun k => ∃ c, k = .channel c
    ∧ heldFor (fun _ => true) (s.gain.recs.get c).lock = true) (linksCleared s) (locksOpened s) := by
  have h := forEach_asks (openHeld_acts fun _ => true)
    (q := fun c v k => k = .channel c ∧ heldFor (fun _ => true) v.res.lock = true) (openHeld_asks _) channels_nodup
    (linksCleared s)
  simp only [mem_channels, true_and, chanView, linksCleared_gain] at h
  exact h

/-! ## The headroom monitor -/

/-- What the reset of a channel's headroom record touches. -/
def headView (c : Chan) (s : State) : DemandRec × HeadRec := (s.demand.get c, s.head.recs.get c)

/-- R131: the backoff and the window count are 0, and a channel whose backoff was not 0 is dirty. -/
theorem resetHead_at (c : Chan) (s : State) : headView c (resetHead c s)
    = ({ s.demand.get c with dirty := (s.demand.get c).dirty || decide ((s.head.recs.get c).backoff ≠ 0) },
      { s.head.recs.get c with backoff := 0, window := 0 }) := by
  unfold resetHead
  dsimp only
  split
  · next h => simp [headView, putHead, h]
  · next h => simp [headView, putHead, markDirty, get_modify, h]

theorem resetHead_other {b c : Chan} (hne : b ≠ c) (s : State) : headView c (resetHead b s) = headView c s := by
  unfold resetHead
  dsimp only
  split
  · simp [headView, putHead, get_set_of_ne _ _ hne.symm]
  · simp [headView, putHead, markDirty, get_modify, get_set_of_ne _ _ hne.symm, hne.symm]

/-- The state in which the retry writes are made: every headroom record is reset. -/
def headsReset (s : State) : State := forEach channels resetHead (locksOpened s)

theorem headsReset_view (s : State) (c : Chan) : headView c (headsReset s)
    = ({ (locksOpened s).demand.get c with
          dirty := ((locksOpened s).demand.get c).dirty || decide ((s.head.recs.get c).backoff ≠ 0) },
      { s.head.recs.get c with backoff := 0, window := 0 }) := by
  have hhead : (locksOpened s).head = s.head := by simp [locksOpened, linksCleared, resetReport_eq]
  obtain ⟨u, hu, hend⟩ := forEach_at (headView c) channels_nodup (mem_channels c)
    (fun b t hb => resetHead_other hb t) (locksOpened s)
  obtain ⟨hdemand, hrec⟩ := Prod.mk.inj hu
  rw [headsReset, hend, resetHead_at, hdemand, hrec, hhead]

/-! ## The retry writes -/

/-- The channel's retry write mismatches (R88, R99). -/
def retryFails (rb : Readback) (c : Chan) (x : StepRec) : Bool :=
  x.front.isFault && decide (readsBack rb c (x.applied / 2) ≠ x.applied / 2)

theorem retryFails_iff {rb : Readback} {c : Chan} {x : StepRec} : retryFails rb c x = true
    ↔ (∃ n, x.front = .fault n) ∧ readsBack rb c (x.applied / 2) ≠ x.applied / 2 := by
  rw [retryFails, Bool.and_eq_true, isFault_front, decide_eq_true_eq]

/-- What the retry write of a box reset makes of a step record (R99). -/
def retriedRec (rb : Readback) (c : Chan) (x : StepRec) : StepRec :=
  match x.front with
  | .good => x
  | .fault _ =>
    { x with
      code := x.applied / 2
      front := if readsBack rb c (x.applied / 2) = x.applied / 2 then .good else .fault 0 }

/-- What a retry write touches. -/
def retryView (c : Chan) (s : State) : StepRec × BitVec 9 := (s.steps.get c, s.report.events.get c)

theorem boxResetRetry_good (rb : Readback) {c : Chan} (h : (s.steps.get c).front = .good) :
    boxResetRetry rb c s = s := by
  unfold boxResetRetry
  simp only [h]

/-- The record that a retry write puts where the channel is in FAULT. -/
theorem boxResetRetry_matches {rb : Readback} {c : Chan} {n : Nat} (h : (s.steps.get c).front = .fault n)
    (hread : readsBack rb c ((s.steps.get c).applied / 2) = (s.steps.get c).applied / 2) :
    boxResetRetry rb c s = changeStep c
      { s.steps.get c with code := (s.steps.get c).applied / 2, front := .good } s := by
  unfold boxResetRetry
  simp only [h, readMatches_of_eq hread, if_true]
  rfl

theorem boxResetRetry_fails {rb : Readback} {c : Chan} {n : Nat} (h : (s.steps.get c).front = .fault n)
    (hread : readsBack rb c ((s.steps.get c).applied / 2) ≠ (s.steps.get c).applied / 2) :
    boxResetRetry rb c s = setEvent c .frontEndFault (putStep c
      { s.steps.get c with code := (s.steps.get c).applied / 2, front := .fault 0 } s) := by
  unfold boxResetRetry
  simp only [h, readMatches_of_ne hread]
  rfl

/-- R99: the channel is GOOD again, or FAULT begins anew with its event bit set. -/
theorem boxResetRetry_at (rb : Readback) (c : Chan) (s : State) : retryView c (boxResetRetry rb c s)
    = (retriedRec rb c (s.steps.get c),
      s.report.events.get c ||| if retryFails rb c (s.steps.get c) then 256 else 0) := by
  cases h : (s.steps.get c).front with
  | good =>
    rw [boxResetRetry_good rb h]
    simp [retryView, retriedRec, retryFails, FrontEnd.isFault, h]
  | fault n =>
    by_cases hread : readsBack rb c ((s.steps.get c).applied / 2) = (s.steps.get c).applied / 2
    · rw [boxResetRetry_matches h hread]
      simp [retryView, retriedRec, retryFails, FrontEnd.isFault, h, hread, changeStep_steps]
    · rw [boxResetRetry_fails h hread]
      simp [retryView, retriedRec, retryFails, FrontEnd.isFault, h, hread, setEvent_events, Event.mask, Event.index]

theorem boxResetRetry_other (rb : Readback) {b c : Chan} (hne : b ≠ c) (s : State) :
    retryView c (boxResetRetry rb b s) = retryView c s := by
  unfold boxResetRetry
  dsimp only
  (repeat' split) <;> simp [retryView, changeStep_steps, setEvent_events, get_set_of_ne _ _ hne.symm, hne.symm]

/-- R100: CHANNEL is asked for where a retry write is made. -/
theorem boxResetRetry_asks (rb : Readback) (c : Chan) (s : State) :
    KeysAsked (fun k => (∃ n, (s.steps.get c).front = .fault n) ∧ k = .channel c) s (boxResetRetry rb c s) := by
  cases h : (s.steps.get c).front with
  | good =>
    rw [boxResetRetry_good rb h]
    exact keysAsked_congr (keysAsked_refl s) (by simp)
  | fault n =>
    have hasked (x : StepRec) : KeysAsked (· = .channel c) s (ask (.channel c) (putStep c x s)) := by
      have h := keysAsked_ask (.channel c) (putStep c x s)
      simpa [KeysAsked] using h
    refine keysAsked_congr (p := (· = .channel c)) ?_ (by simp)
    by_cases hread : readsBack rb c ((s.steps.get c).applied / 2) = (s.steps.get c).applied / 2
    · rw [boxResetRetry_matches h hread, changeStep, if_neg (by simp [h, FrontEnd.isFault])]
      exact hasked _
    · rw [boxResetRetry_fails h hread]
      exact hasked _

theorem boxResetRetry_link (rb : Readback) (c : Chan) (hs : NotSending s) : (boxResetRetry rb c s).link = s.link := by
  unfold boxResetRetry
  dsimp only
  (repeat' split)
  · rw [changeStep_frame]
  · exact (setEvent_link c .frontEndFault (notSending_congr (putStep_link _ _ _) hs)).trans (putStep_link _ _ _)
  · rfl

/-- The state in which the tone sets and the batch are reset: the retry writes are made. -/
def retriesMade (rb : Readback) (s : State) : State := forEach channels (boxResetRetry rb) (headsReset s)

theorem headsReset_steps (s : State) : (headsReset s).steps = s.steps := by
  simp [headsReset, locksOpened, linksCleared, resetReport_eq]

theorem retriesMade_view (rb : Readback) (s : State) (c : Chan) : retryView c (retriesMade rb s)
    = (retriedRec rb c (s.steps.get c),
      (locksOpened s).report.events.get c ||| if retryFails rb c (s.steps.get c) then 256 else 0) := by
  have hevents : (headsReset s).report.events = (locksOpened s).report.events := by simp [headsReset]
  obtain ⟨u, hu, hend⟩ := forEach_at (retryView c) channels_nodup (mem_channels c)
    (fun b t hb => boxResetRetry_other rb hb t) (headsReset s)
  obtain ⟨hstep, hevent⟩ := Prod.mk.inj hu
  rw [retriesMade, hend, boxResetRetry_at, hstep, hevent, headsReset_steps, hevents]

theorem retriesMade_asks (rb : Readback) (s : State) : KeysAsked (fun k => ∃ c, k = .channel c
    ∧ ∃ n, (s.steps.get c).front = .fault n) (headsReset s) (retriesMade rb s) := by
  have h := forEach_keysAsked (key := Key.channel) (due := fun c t => ∃ n, (t.steps.get c).front = .fault n)
    channels_nodup (boxResetRetry_asks rb) (fun a b t hne => by
      have hstep := congrArg Prod.fst (boxResetRetry_other rb hne.symm t)
      simp only [retryView] at hstep
      rw [hstep]) (headsReset s)
  refine keysAsked_congr h fun k => ?_
  simp only [mem_channels, true_and, headsReset_steps]
  exact exists_congr fun c => and_comm

/-! ## The whole reset -/

/-- The state in which the batch is discarded: every tone set is empty (R111). -/
def tonesEmptied (rb : Readback) (s : State) : State :=
  { retriesMade rb s with paths := (retriesMade rb s).paths.map emptyTone }

theorem resetBlocks_eq (rb : Readback) (s : State) :
    resetBlocks rb s = discardBatch (fun _ => true) (tonesEmptied rb s) := rfl

theorem tonesEmptied_link (rb : Readback) (hs : NotSending s) :
    (tonesEmptied rb s).link = { s.link with stations := s.link.stations.map Presence.forget } := by
  have hcleared : NotSending (linksCleared s) := by
    rw [NotSending, linksCleared_link]
    exact hs
  have hopened : (locksOpened s).link = (linksCleared s).link :=
    forEach_link (fun c _ ht => openHeld_link _ c ht) channels hcleared
  have hheads : (headsReset s).link = (linksCleared s).link := by
    rw [← hopened]
    simp [headsReset]
  have hretried : (retriesMade rb s).link = (headsReset s).link :=
    forEach_link (fun c _ ht => boxResetRetry_link rb c ht) channels (notSending_congr hheads hcleared)
  have hempty : (tonesEmptied rb s).link = (retriesMade rb s).link := by rw [tonesEmptied]
  rw [hempty, hretried, hheads, linksCleared_link]

theorem resetBlocks_link (rb : Readback) (hs : NotSending s) :
    (resetBlocks rb s).link = { s.link with stations := s.link.stations.map Presence.forget } := by
  have hempty := tonesEmptied_link rb hs
  have hquiet : NotSending (tonesEmptied rb s) := by
    rw [NotSending, hempty]
    exact hs
  rw [resetBlocks_eq, discardBatch_link _ hquiet, hempty]

theorem tonesEmptied_batch (rb : Readback) (s : State) : (tonesEmptied rb s).batch = s.batch := by
  simp [tonesEmptied, retriesMade, headsReset, locksOpened, linksCleared, resetReport_eq]

/-- R160: whatever batch there is is discarded. -/
theorem resetBlocks_discards (rb : Readback) (s : State) : DiscardedWhere (fun _ => True) s (resetBlocks rb s) := by
  have h := discardBatch_discards (fun _ => true) (tonesEmptied rb s)
  simp only [DiscardedWhere, tonesEmptied_batch] at h
  rw [resetBlocks_eq]
  exact h

/-- R171: the list was emptied with BOX queued, and the reset asks for CHANNEL where a lock opens or a retry is made. -/
theorem resetBlocks_key_iff (rb : Readback) (s : State) (k : Key) : k ∈ (resetBlocks rb s).report.keys ↔ k = .box
    ∨ ∃ c, k = .channel c
      ∧ ((∃ g n, (s.gain.recs.get c).lock = .held g n) ∨ ∃ n, (s.steps.get c).front = .fault n) := by
  have hhead : (headsReset s).report = (locksOpened s).report := by simp [headsReset]
  have hempty : (tonesEmptied rb s).report = (retriesMade rb s).report := by rw [tonesEmptied]
  obtain ⟨-, hopened⟩ := locksOpened_asks s
  obtain ⟨-, hretried⟩ := retriesMade_asks rb s
  obtain ⟨-, hdiscarded⟩ := discardBatch_asks (fun _ => true) (tonesEmptied rb s)
  rw [resetBlocks_eq, hdiscarded, hempty, hretried, hhead, hopened, linksCleared_report, List.mem_singleton]
  by_cases hbox : k = .box
  · simp [hbox]
  · simp [hbox, heldFor_any, and_or_left, exists_or]

/-- What a box reset makes of the state, before its outcome is placed. -/
structure BoxReset (rb : Readback) (s u : State) : Prop where
  frame : u = { s with
    link := { s.link with stations := u.link.stations }
    feeds := u.feeds
    demand := u.demand
    gain := { s.gain with recs := u.gain.recs, table := [], full := false }
    steps := u.steps
    paths := u.paths
    head := { s.head with recs := u.head.recs }
    batch := u.batch
    report := u.report }
  stations : u.link.stations = s.link.stations.map Presence.forget
  feeds : u.feeds = s.feeds.map (orphan fun _ => true)
  paths : u.paths = s.paths.map emptyTone
  slots : u.report.slots = Tab.const none
  res : ∀ c, u.gain.recs.get c = { s.gain.recs.get c with
    lock := if heldFor (fun _ => true) (s.gain.recs.get c).lock then .opened else (s.gain.recs.get c).lock }
  head : ∀ c, u.head.recs.get c = { s.head.recs.get c with backoff := 0, window := 0 }
  demand : ∀ c, u.demand.get c = { s.demand.get c with
    dirty := (((s.demand.get c).dirty || s.gain.table.any (fun x => x.group == s.group c))
      || heldFor (fun _ => true) (s.gain.recs.get c).lock) || decide ((s.head.recs.get c).backoff ≠ 0) }
  step : ∀ c, u.steps.get c = retriedRec rb c (s.steps.get c)
  events : ∀ c, u.report.events.get c
    = (s.report.events.get c ||| if heldFor (fun _ => true) (s.gain.recs.get c).lock then 8 else 0)
      ||| if retryFails rb c (s.steps.get c) then 256 else 0
  discards : DiscardedWhere (fun _ => True) s u
  keys : ∀ k, k ∈ u.report.keys ↔ k = .box ∨ ∃ c, k = .channel c
    ∧ ((∃ g n, (s.gain.recs.get c).lock = .held g n) ∨ ∃ n, (s.steps.get c).front = .fault n)

theorem resetBlocks_frame (rb : Readback) (hs : NotSending s) : resetBlocks rb s = { s with
    link := { s.link with stations := (resetBlocks rb s).link.stations }
    feeds := (resetBlocks rb s).feeds
    demand := (resetBlocks rb s).demand
    gain := { s.gain with recs := (resetBlocks rb s).gain.recs, table := [], full := false }
    steps := (resetBlocks rb s).steps
    paths := (resetBlocks rb s).paths
    head := { s.head with recs := (resetBlocks rb s).head.recs }
    batch := (resetBlocks rb s).batch
    report := (resetBlocks rb s).report } := by
  have hpair : (resetBlocks rb s).link.pair = s.link.pair := by rw [resetBlocks_link rb hs]
  have hgain : (resetBlocks rb s).gain.table = [] ∧ (resetBlocks rb s).gain.full = false := by
    simp [resetBlocks_eq, tonesEmptied, retriesMade, headsReset, locksOpened, linksCleared_gain]
  have hkeeps := resetBlocks_keeps rb s
  generalize resetBlocks rb s = u at hpair hgain hkeeps ⊢
  obtain ⟨htable, hfull⟩ := hgain
  obtain ⟨hphase, hown, hconfig, hclash, herrors, htiming, hannounce, hwindow, hphantom, hahead, hseed, hpending⟩ :=
    hkeeps
  have hhead : u.head = { s.head with recs := u.head.recs } := congrArg (Headroom.mk u.head.recs) hwindow
  exact state_ext hphase hown hconfig (link_ext hpair rfl hclash herrors) htiming rfl rfl
    (gain_ext rfl htable hfull hannounce) rfl rfl hhead hphantom rfl rfl hahead hseed hpending

theorem boxReset_resetBlocks (rb : Readback) (hs : NotSending s) : BoxReset rb s (resetBlocks rb s) where
  frame := resetBlocks_frame rb hs
  stations := resetBlocks_stations rb s
  feeds := by simp [resetBlocks]
  paths := by simp [resetBlocks]
  slots := by
    simp [resetBlocks_eq, tonesEmptied, retriesMade, headsReset, locksOpened, linksCleared_report]
  res c := by
    rw [← locksOpened_lock]
    simp [resetBlocks_eq, tonesEmptied, retriesMade, headsReset]
  head c := by
    obtain ⟨-, hrec⟩ := Prod.mk.inj (headsReset_view s c)
    rw [← hrec]
    simp [resetBlocks_eq, tonesEmptied, retriesMade]
  demand c := by
    obtain ⟨hdemand, -⟩ := Prod.mk.inj (headsReset_view s c)
    rw [locksOpened_demand] at hdemand
    rw [← hdemand]
    simp [resetBlocks_eq, tonesEmptied, retriesMade]
  step c := by
    obtain ⟨hstep, -⟩ := Prod.mk.inj (retriesMade_view rb s c)
    rw [← hstep]
    simp [resetBlocks_eq, tonesEmptied]
  events c := by
    obtain ⟨-, hevents⟩ := Prod.mk.inj (retriesMade_view rb s c)
    rw [← locksOpened_events, ← hevents]
    simp [resetBlocks_eq, tonesEmptied]
  discards := resetBlocks_discards rb s
  keys := resetBlocks_key_iff rb s

/-! ## What a box reset says of each block -/

theorem getLsbD_lockBit {i : Nat} : (8 : BitVec 9).getLsbD i = true ↔ i = 3 := by
  have hbit : (8 : BitVec 9) = BitVec.twoPow 9 3 := rfl
  simp [hbit, eq_comm]

theorem getLsbD_faultBit {i : Nat} : (256 : BitVec 9).getLsbD i = true ↔ i = 8 := by
  have hbit : (256 : BitVec 9) = BitVec.twoPow 9 8 := rfl
  simp [hbit, eq_comm]

theorem forget_eq (p : Presence) : p.forget = if p = .self then .self else .absent := by
  cases p <;> simp [Presence.forget]

theorem retriedRec_of_good {rb : Readback} {c : Chan} {x : StepRec} (h : x.front = .good) : retriedRec rb c x = x := by
  simp only [retriedRec, h]

theorem retriedRec_of_fault {rb : Readback} {c : Chan} {x : StepRec} {n : Nat} (h : x.front = .fault n) :
    retriedRec rb c x = { x with
      code := x.applied / 2
      front := if readsBack rb c (x.applied / 2) = x.applied / 2 then .good else .fault 0 } := by
  simp only [retriedRec, h]

section BoxReset

variable {rb : Readback}

/-- R15: no other station is known. -/
theorem BoxReset.station (h : BoxReset rb s u) (st : Station) :
    u.link.stations.get st = if s.link.stations.get st = .self then .self else .absent := by
  rw [h.stations, get_map, forget_eq]

/-- R43: BOUND feeds are orphaned. -/
theorem BoxReset.feed (h : BoxReset rb s u) (f : Feed) : u.feeds.get f = orphan (fun _ => true) (s.feeds.get f) := by
  rw [h.feeds, get_map]

/-- R111: the tone set is empty. -/
theorem BoxReset.tone (h : BoxReset rb s u) (f : Feed) :
    u.paths.get f = { s.paths.get f with tone := Tab.const false } := by
  rw [h.paths, get_map, emptyTone]

theorem BoxReset.res_lock (h : BoxReset rb s u) (c : Chan) :
    u.gain.recs.get c = { s.gain.recs.get c with lock := (u.gain.recs.get c).lock } := by
  rw [h.res c]

/-- R123: a HELD channel opens. -/
theorem BoxReset.lock_opens (h : BoxReset rb s u) {c : Chan} {g : Feed} {n : Int}
    (hn : (s.gain.recs.get c).lock = .held g n) : (u.gain.recs.get c).lock = .opened := by
  rw [h.res c]
  exact if_pos (heldFor_any.mpr ⟨g, n, hn⟩)

theorem BoxReset.lock_stands (h : BoxReset rb s u) {c : Chan} (hno : ∀ g n, (s.gain.recs.get c).lock ≠ .held g n) :
    (u.gain.recs.get c).lock = (s.gain.recs.get c).lock := by
  rw [h.res c]
  exact if_neg fun hheld => (heldFor_any.mp hheld).elim fun g ⟨n, hn⟩ => hno g n hn

theorem BoxReset.demand_dirty (h : BoxReset rb s u) (c : Chan) :
    u.demand.get c = { s.demand.get c with dirty := (u.demand.get c).dirty } := by
  rw [h.demand c]

/-- R79, R123, R131: a channel becomes dirty where its group loses an entry, its lock opens or its backoff ends. -/
theorem BoxReset.dirty_iff (h : BoxReset rb s u) (c : Chan) : (u.demand.get c).dirty = true
    ↔ (s.demand.get c).dirty = true ∨ (∃ g n, (s.gain.recs.get c).lock = .held g n)
      ∨ (s.head.recs.get c).backoff ≠ 0 ∨ ∃ x ∈ s.gain.table, x.group = s.group c := by
  have hgroup : s.gain.table.any (fun x => x.group == s.group c) = true ↔ ∃ x ∈ s.gain.table, x.group = s.group c := by
    simp
  rw [h.demand c, Bool.or_eq_true, Bool.or_eq_true, Bool.or_eq_true, hgroup, heldFor_any,
    decide_eq_true_eq, or_assoc, or_assoc]
  exact or_congr_right (or_comm.trans or_assoc)

/-- R99: a channel in GOOD stands. -/
theorem BoxReset.step_good (h : BoxReset rb s u) (c : Chan) (hgood : (s.steps.get c).front = .good) :
    u.steps.get c = s.steps.get c :=
  (h.step c).trans (retriedRec_of_good hgood)

/-- R116, R99: LOCK is set where a lock opens, and FRONT-END FAULT where the retry mismatches. -/
theorem BoxReset.event_iff (h : BoxReset rb s u) (c : Chan) (i : Nat) : (u.report.events.get c).getLsbD i = true
    ↔ (s.report.events.get c).getLsbD i = true ∨ (i = 3 ∧ ∃ g n, (s.gain.recs.get c).lock = .held g n)
      ∨ (i = 8 ∧ (∃ n, (s.steps.get c).front = .fault n)
        ∧ readsBack rb c ((s.steps.get c).applied / 2) ≠ (s.steps.get c).applied / 2) := by
  have hlock : (if heldFor (fun _ => true) (s.gain.recs.get c).lock then (8 : BitVec 9) else 0).getLsbD i = true
      ↔ i = 3 ∧ ∃ g n, (s.gain.recs.get c).lock = .held g n := by
    rw [← heldFor_any, ← getLsbD_lockBit]
    split <;> simp [*]
  have hfault : (if retryFails rb c (s.steps.get c) then (256 : BitVec 9) else 0).getLsbD i = true
      ↔ i = 8 ∧ retryFails rb c (s.steps.get c) = true := by
    rw [← getLsbD_faultBit]
    split <;> simp [*]
  rw [h.events c, BitVec.getLsbD_or, BitVec.getLsbD_or, Bool.or_eq_true, Bool.or_eq_true, hlock, hfault, retryFails_iff,
    or_assoc]

/-- R166: no event bit is cleared. -/
theorem BoxReset.events_stand (h : BoxReset rb s u) (c : Chan) :
    s.report.events.get c ||| u.report.events.get c = u.report.events.get c := by
  rw [h.events c, BitVec.or_assoc, ← BitVec.or_assoc, BitVec.or_self]

end BoxReset

/-! ## The reset with its outcome -/

theorem holdsAny_iff {st : Station} : holdsAny s st = true ↔ ∃ f, holds s f st = true := by
  simp [holdsAny, allFeeds]

theorem takeBoxReset_notHolder (rb : Readback) (h : ∀ f, holds s f e.source = false) :
    takeBoxReset e rb s = answer e 14 .notHolder s :=
  if_neg fun hany => (holdsAny_iff.mp hany).elim fun f hf => Bool.false_ne_true ((h f).symm.trans hf)

/-- R177: a BOX RESET from the holder of a feed is the reset of the blocks with DONE placed. -/
theorem exec_boxReset (rb : Readback) (ht : Takes e s) (hholds : ∃ f, holds (heard e s) f e.source = true) :
    exec (.boxReset e rb) s = .next (answered e.source (plain 14 .done e.tag) (resetBlocks rb (heard e s))) := by
  have hquiet : NotSending (resetBlocks rb (heard e s)) := by
    rw [NotSending, resetBlocks_link rb (heard_notSending e s)]
    exact heard_notSending e s
  have hdone : takeBoxReset e rb (heard e s) = answer e 14 .done (resetBlocks rb (heard e s)) :=
    if_pos (holdsAny_iff.mpr hholds)
  exact congrArg Host.Outcome.next
    ((request_of_takes _ ht).trans (hdone.trans (place_eq_answered hquiet _ _)))

/-- Settles O40: what the reset does, read off block by block, with the outcome placed after it. -/
theorem boxResetActsOnEveryBlock : Obligations.BoxResetActsOnEveryBlock := by
  intro e rb s ht h
  constructor
  · intro hnone
    have hrefused : takeBoxReset e rb (heard e s) = answer e 14 .notHolder (heard e s) :=
      takeBoxReset_notHolder rb hnone
    exact congrArg Host.Outcome.next
      ((request_of_takes _ ht).trans (hrefused.trans (answer_heard e 14 .notHolder s)))
  · intro hholds
    have hreset : BoxReset rb h (resetBlocks rb (heard e s)) := boxReset_resetBlocks rb (heard_notSending e s)
    refine ⟨_, exec_boxReset rb ht hholds, ?_⟩
    generalize resetBlocks rb (heard e s) = u at hreset ⊢
    obtain ⟨hprefix, hmem⟩ := answered_asks e.source (plain 14 .done e.tag) u
    have hkept := hprefix.subset
    obtain ⟨hdropped, hstands⟩ := hreset.discards
    refine ⟨(congrArg (answered e.source (plain 14 .done e.tag)) hreset.frame).trans rfl, hreset.station,
      fun f => ⟨fun st since hb => (hreset.feed f).trans (orphan_all_of_bound hb),
        fun hb => (hreset.feed f).trans (orphan_all_of_not_bound hb), hreset.tone f⟩,
      fun c => ⟨hreset.res_lock c, fun g n => hreset.lock_opens, hreset.lock_stands, hreset.head c,
        hreset.demand_dirty c, hreset.dirty_iff c⟩,
      hreset.step_good,
      fun c n hn => ⟨(hreset.step c).trans (retriedRec_of_fault hn),
        hkept ((hreset.keys _).mpr (.inr ⟨c, rfl, .inr ⟨n, hn⟩⟩)),
        fun hread => (hreset.event_iff c 8).mpr (.inr (.inr ⟨rfl, ⟨n, hn⟩, hread⟩))⟩,
      hreset.events_stand, hreset.event_iff,
      ⟨fun b hb hp => (hdropped b hb hp).imp_right (hkept ·), hstands⟩,
      fun st => ?_, (hmem _).mpr (.inr rfl), hkept ((hreset.keys _).mpr (.inl rfl)), fun k => ?_⟩
    · have hslots : (answered e.source (plain 14 .done e.tag) u).report.slots
          = (Tab.const none).set e.source (some (plain 14 .done e.tag)) :=
        congrArg (fun slots => Tab.set slots e.source _) hreset.slots
      rw [hslots, get_set, get_const]
    · rw [hmem, hreset.keys, or_comm]

end Sys2Proof.Proofs
end
